-- ==== Sys2Proof/Word.lean ====
section
/-! DEFINITION. The words of the Olpeta 740: bytes, 16-byte blocks and the numbers that name its records. -/

namespace Sys2Proof

/-- One byte of a frame or of sector data. -/
abbrev Byte := BitVec 8

/-- A 16-byte block read as a 128-bit integer whose byte 0 is least significant
(00_scope, Conventions). -/
abbrev Block := BitVec 128

/-- A context id, 0 to 63 (R22). -/
abbrev CtxId := Fin 64

/-- A key slot number, 0 to 31 (R72). -/
abbrev SlotId := Fin 32

/-- A wrap slot number, 0 to 3 (R74). -/
abbrev WrapId := Fin 4

/-- A band index, 0 to 31 (R51). -/
abbrev BandId := Fin 32

/-- A namespace: the value `k` stands for the namespace of number `k + 1` (1 to 8). -/
abbrev Ns := Fin 8

end Sys2Proof
end

