-- ==== Sys2Proof/Config.lean ====
section
/-! DEFINITION. What the part fixes (constants of the spec) and what the spec leaves open (free values, without a body). -/

namespace Sys2Proof

/-- What wrapped key material (bytes 0 to 63 of a blob, 11.4) was made of, and the integrity value that goes with it
(bytes 64 to 71, 11.4). -/
structure MadeBlob where
  /-- The wrapping key it was made under. -/
  key : BitVec 256
  /-- The integrity value the unwrap checks. -/
  integrity : BitVec 64
  /-- The 64 bytes of key material it carries. -/
  material : BitVec 512
  deriving DecidableEq, Repr

/-- Of what the wrapped key material of a blob was made, where it is one that the wrapping tool of R78 made; `none` for
bytes that nobody made. The spec gives the unwrap's internals no further, so this has no body. Byte 0 of each number is
the least significant (log 5). -/
opaque Config.madeOf : BitVec 512 → Option MadeBlob

/-- The free value behind every order the spec leaves open: the n-th choice is `Config.choice n`, reduced to
the number of possibilities where it is used (log 6). Nothing constrains it. -/
opaque Config.choice : Nat → Nat

/-- DATA places of each output queue (R148, R149). -/
abbrev Config.dataPlaces : Nat := 16

/-- Reply reservations that may be in use (R155). -/
abbrev Config.maxReservations : Nat := 8

/-- The largest grace, in microseconds (R105). -/
abbrev Config.graceMax : Nat := 10000000

/-- The grace setting after PORST (R105). -/
abbrev Config.graceReset : Nat := 250000

/-- Microseconds within which an unwrap completes (R78). -/
abbrev Config.unwrapBound : Nat := 40

/-- The largest period of a notice class (R165). -/
abbrev Config.periodMax : Nat := 7

/-- The longest fragment of an inbound DATA frame (R145). -/
abbrev Config.fragmentMax : Nat := 2048

end Sys2Proof
end

