-- ==== Sys2Proof/Syntax.lean ====
section
/-! DEFINITION. The commands of the part: one constructor of `Instr` for each row of spec/opcode_table.json. -/

namespace Sys2Proof

/-- The direction of a transfer (R22). -/
inductive Direction where
  | write
  | read
  deriving DecidableEq, Repr

/-- The inbound lanes (R143). -/
inductive InLane where
  | front
  | back
  deriving DecidableEq, Repr

/-- The outbound lanes (R143). -/
inductive OutLane where
  | front
  | back
  deriving DecidableEq, Repr

/-- The body of a REQUEST after its code: the fields of the code's row in 11.3, or, where the body has
another length, its bytes (R156, R173). -/
inductive Body (α : Type) where
  | fields (f : α)
  | wrongLength (bytes : List Byte)
  deriving DecidableEq, Repr

/-- WRAP-LOAD: wrap slot 1; wrapping key 32 (11.3). -/
structure WrapLoadFields where
  wrapSlot : Byte
  key : BitVec 256
  deriving DecidableEq, Repr

/-- KEY-LOAD: key slot 1; wrap slot 1; blob 72 (11.3). -/
structure KeyLoadFields where
  keySlot : Byte
  wrapSlot : Byte
  blob : BitVec 576
  deriving DecidableEq, Repr

/-- BAND-SET, in the order of 11.3. -/
structure BandSetFields where
  band : Byte
  state : Byte
  namespaceNumber : Byte
  format : Byte
  metaMode : Byte
  bindingPresent : Byte
  slot : Byte
  generation : BitVec 16
  locks : Byte
  saltPresent : Byte
  salt : BitVec 32
  tripMask : Byte
  latchedAction : Byte
  pfailResponse : Byte
  extentA : BitVec 64
  extentB : BitVec 64
  deriving DecidableEq, Repr

/-- BAND-LOCK: band 1; locks 1 (11.3). -/
structure BandLockFields where
  band : Byte
  locks : Byte
  deriving DecidableEq, Repr

/-- MIGRATE-START: band 1; target slot 1; generation 2 (11.3). -/
structure MigrateStartFields where
  band : Byte
  target : Byte
  generation : BitVec 16
  deriving DecidableEq, Repr

/-- NOTICE-PERIOD: class 1; period 1 (11.3). -/
structure NoticePeriodFields where
  noticeClass : Byte
  period : Byte
  deriving DecidableEq, Repr

/-- A stored bit that damage in storage may invert (R84): bit 0 to 31 of a word, or 32 for its parity bit. -/
inductive BitLocation where
  | key (slot : SlotId) (word : Fin 16) (bit : Fin 33)
  | wrap (slot : WrapId) (word : Fin 8) (bit : Fin 33)
  deriving DecidableEq, Repr

/-- The commands. A frame command presents its frame on its inbound lane; the others are events of the
part's units, of its lines, and of time. -/
inductive Instr where
  /-- OPEN (R24): the header's id byte and the fields of 11.2. -/
  | openFrame (ctx : Byte) (dir : Direction) (flags : Byte) (namespaceByte : Byte) (first : BitVec 48)
      (countMinusOne : BitVec 16)
  /-- DATA (R31): the lane it arrives on, the id byte and the fragment. -/
  | data (lane : InLane) (ctx : Byte) (bytes : List Byte)
  /-- ABORT (R44). -/
  | abort (ctx : Byte)
  /-- MALFORMED_FRAME (R145): all the bytes of the frame, header included. -/
  | malformedFrame (lane : InLane) (frame : List Byte)
  /-- UNDEFINED_REQUEST_CODE (R156): a REQUEST whose code is none of the table in 9.1. -/
  | undefinedRequestCode (tag : Byte) (code : Byte) (rest : List Byte)
  /-- WRAP_LOAD (R75). -/
  | wrapLoad (tag : Byte) (body : Body WrapLoadFields)
  /-- KEY_LOAD (R76). -/
  | keyLoad (tag : Byte) (body : Body KeyLoadFields)
  /-- QUERY_SLOT (R91): the key slot. -/
  | querySlot (tag : Byte) (body : Body Byte)
  /-- KEY_PURGE (R95): the key slot. -/
  | keyPurge (tag : Byte) (body : Body Byte)
  /-- PURGE_ALL (R107). -/
  | purgeAll (tag : Byte) (body : Body Unit)
  /-- SET_GRACE (R105): the grace in microseconds. -/
  | setGrace (tag : Byte) (body : Body (BitVec 32))
  /-- BAND_SET (R60). -/
  | bandSet (tag : Byte) (body : Body BandSetFields)
  /-- BAND_LOCK (R67). -/
  | bandLock (tag : Byte) (body : Body BandLockFields)
  /-- QUERY_BAND (R69): the band. -/
  | queryBand (tag : Byte) (body : Body Byte)
  /-- MIGRATE_START (R111). -/
  | migrateStart (tag : Byte) (body : Body MigrateStartFields)
  /-- TRIP_FORCE (R136). -/
  | tripForce (tag : Byte) (body : Body Unit)
  /-- TRIP_CLEAR (R137): the mask. -/
  | tripClear (tag : Byte) (body : Body Byte)
  /-- NOTICE_PERIOD (R168). -/
  | noticePeriod (tag : Byte) (body : Body NoticePeriodFields)
  /-- NOTICE_ACK (R169): the mask. -/
  | noticeAck (tag : Byte) (body : Body Byte)
  /-- QUERY_CONTEXT (R47): the context id. -/
  | queryContext (tag : Byte) (body : Body Byte)
  /-- GO_ONLINE (R161). -/
  | goOnline (tag : Byte) (body : Body Unit)
  /-- TIME_SET (R163): the link time. -/
  | timeSet (tag : Byte) (body : Body (BitVec 32))
  /-- QUERY_STATUS (R164). -/
  | queryStatus (tag : Byte) (body : Body Unit)
  /-- UNWRAP_COMPLETE (R79): the unwrap into this slot finishes. -/
  | unwrapComplete (slot : SlotId)
  /-- PURGE_DRAIN (R101): the purge of this slot ends with no holder left. -/
  | purgeDrain (slot : SlotId)
  /-- PURGE_EXPIRY (R102): the countdown of this slot stands at 0 with holders remaining. -/
  | purgeExpiry (slot : SlotId)
  /-- PENDING_CHANGE_APPLY (R65): the band's staged change applies. -/
  | pendingChangeApply (band : BandId)
  /-- BIT_DAMAGE (R84). -/
  | bitDamage (location : BitLocation)
  /-- SEND_START (R151). -/
  | sendStart (lane : OutLane)
  /-- FRAME_SENT (R152). -/
  | frameSent (lane : OutLane)
  /-- OUTBOUND_HOLD (R144): the controller drives the hold line of an outbound lane to this level. -/
  | outboundHold (lane : OutLane) (asserted : Bool)
  /-- PLOCK_ASSERT (R134). -/
  | plockAssert
  /-- PLOCK_DEASSERT (R134). -/
  | plockDeassert
  /-- PFAIL_ASSERT (R139). -/
  | pfailAssert
  /-- PFAIL_DEASSERT (R139). -/
  | pfailDeassert
  /-- LINKRST_ASSERT (R153). -/
  | linkrstAssert
  /-- LINKRST_RELEASE (R153). -/
  | linkrstRelease
  /-- PORST_ASSERT (R154). -/
  | porstAssert
  /-- PORST_RELEASE (R142). -/
  | porstRelease
  /-- MICROSECOND_PASSES (R162). -/
  | microsecondPasses
  deriving DecidableEq, Repr

end Sys2Proof
end

