-- ==== Sys2Proof/Decode.lean ====
section
/-! DEFINITION. The inbound byte layouts of chapter 11: the bytes of a frame on an inbound lane, judged by R145, R172 and R173, give one command. Also the host's `decodeTableWord`: the table gives no row bits, so no word spells a command (log 2). -/

namespace Sys2Proof

/-- A little-endian number: the first byte is least significant (00_scope, Byte order). -/
def leNat : List Byte → Nat
  | [] => 0
  | b :: bs => b.toNat + 256 * leNat bs

/-- The `size` bytes at `offset` as a little-endian number. -/
def fieldAt (bytes : List Byte) (offset size : Nat) : Nat := leNat ((bytes.drop offset).take size)

/-- The byte at `offset`. -/
def byteAt (bytes : List Byte) (offset : Nat) : Byte := BitVec.ofNat 8 (fieldAt bytes offset 1)

/-- The length of the request fields of a code, and so whether the code is defined (11.3). -/
def requestFieldsLength (code : Byte) : Option Nat :=
  match code.toNat with
  | 0x01 => some 33
  | 0x02 => some 74
  | 0x03 => some 1
  | 0x04 => some 1
  | 0x05 => some 0
  | 0x06 => some 4
  | 0x07 => some 34
  | 0x08 => some 2
  | 0x09 => some 1
  | 0x0A => some 4
  | 0x0B => some 0
  | 0x0C => some 1
  | 0x0D => some 2
  | 0x0E => some 1
  | 0x0F => some 1
  | 0x10 => some 0
  | 0x11 => some 4
  | 0x12 => some 0
  | _ => none

/-- Whether an inbound frame is malformed (R145, R172). A frame shorter than its 4-byte header has a body
length that disagrees with the bytes received (log 21). -/
def frameMalformed (lane : InLane) (frame : List Byte) : Bool :=
  match frame with
  | kind :: len0 :: len1 :: id :: body =>
    let len := leNat [len0, len1]
    (len != body.length) ||
    (match lane, kind.toNat with
      | .front, 0x01 => (len != 11) || decide (64 ≤ id.toNat) ||
          !(byteAt body 0 == 0x01#8 || byteAt body 0 == 0x02#8)
      | _, 0x02 => decide (Config.fragmentMax < len) || decide (64 ≤ id.toNat)
      | .front, 0x03 => (len != 0) || decide (64 ≤ id.toNat)
      | .front, 0x04 => (len == 0) || decide (75 < len)
      | _, _ => true)
  | _ => true

/-- The context id a malformed frame's DISCARD event carries: the id byte where the kind is OPEN, DATA or
ABORT and the byte is 0 to 63, none otherwise (R145, R172). -/
def malformedCtx (frame : List Byte) : Option CtxId :=
  match frame with
  | kind :: _ :: _ :: id :: _ =>
    if kind.toNat = 0x01 ∨ kind.toNat = 0x02 ∨ kind.toNat = 0x03 then
      if h : id.toNat < 64 then some ⟨id.toNat, h⟩ else none
    else none
  | _ => none

/-- A request body: the fields where the length is the row's, the bytes otherwise (R173). -/
def bodyOf {α : Type} (len : Nat) (rest : List Byte) (f : α) : Body α :=
  if rest.length = len then .fields f else .wrongLength rest

/-- BAND-SET's 34 field bytes in the order of 11.3. -/
def bandSetFields (b : List Byte) : BandSetFields where
  band := byteAt b 0
  state := byteAt b 1
  namespaceNumber := byteAt b 2
  format := byteAt b 3
  metaMode := byteAt b 4
  bindingPresent := byteAt b 5
  slot := byteAt b 6
  generation := BitVec.ofNat 16 (fieldAt b 7 2)
  locks := byteAt b 9
  saltPresent := byteAt b 10
  salt := BitVec.ofNat 32 (fieldAt b 11 4)
  tripMask := byteAt b 15
  latchedAction := byteAt b 16
  pfailResponse := byteAt b 17
  extentA := BitVec.ofNat 64 (fieldAt b 18 8)
  extentB := BitVec.ofNat 64 (fieldAt b 26 8)

/-- The command of a well-formed REQUEST frame: its tag, its code and the bytes after the code (11.3). -/
def requestCommand (tag code : Byte) (rest : List Byte) : Instr :=
  match code.toNat with
  | 0x01 => .wrapLoad tag (bodyOf 33 rest ⟨byteAt rest 0, BitVec.ofNat 256 (fieldAt rest 1 32)⟩)
  | 0x02 => .keyLoad tag
      (bodyOf 74 rest ⟨byteAt rest 0, byteAt rest 1, BitVec.ofNat 576 (fieldAt rest 2 72)⟩)
  | 0x03 => .querySlot tag (bodyOf 1 rest (byteAt rest 0))
  | 0x04 => .keyPurge tag (bodyOf 1 rest (byteAt rest 0))
  | 0x05 => .purgeAll tag (bodyOf 0 rest ())
  | 0x06 => .setGrace tag (bodyOf 4 rest (BitVec.ofNat 32 (fieldAt rest 0 4)))
  | 0x07 => .bandSet tag (bodyOf 34 rest (bandSetFields rest))
  | 0x08 => .bandLock tag (bodyOf 2 rest ⟨byteAt rest 0, byteAt rest 1⟩)
  | 0x09 => .queryBand tag (bodyOf 1 rest (byteAt rest 0))
  | 0x0A => .migrateStart tag
      (bodyOf 4 rest ⟨byteAt rest 0, byteAt rest 1, BitVec.ofNat 16 (fieldAt rest 2 2)⟩)
  | 0x0B => .tripForce tag (bodyOf 0 rest ())
  | 0x0C => .tripClear tag (bodyOf 1 rest (byteAt rest 0))
  | 0x0D => .noticePeriod tag (bodyOf 2 rest ⟨byteAt rest 0, byteAt rest 1⟩)
  | 0x0E => .noticeAck tag (bodyOf 1 rest (byteAt rest 0))
  | 0x0F => .queryContext tag (bodyOf 1 rest (byteAt rest 0))
  | 0x10 => .goOnline tag (bodyOf 0 rest ())
  | 0x11 => .timeSet tag (bodyOf 4 rest (BitVec.ofNat 32 (fieldAt rest 0 4)))
  | 0x12 => .queryStatus tag (bodyOf 0 rest ())
  | _ => .undefinedRequestCode tag code rest

/-- The command that a whole inbound frame is: total on any bytes (R143, R145, 11.1 to 11.3). -/
def frameCommand (lane : InLane) (frame : List Byte) : Instr :=
  if frameMalformed lane frame then .malformedFrame lane frame
  else
    match frame with
    | kind :: _ :: _ :: id :: body =>
      match kind.toNat with
      | 0x01 => .openFrame id (if byteAt body 0 = 0x01#8 then .write else .read) (byteAt body 1)
          (byteAt body 2) (BitVec.ofNat 48 (fieldAt body 3 6)) (BitVec.ofNat 16 (fieldAt body 9 2))
      | 0x02 => .data lane id body
      | 0x03 => .abort id
      | 0x04 => requestCommand id (byteAt body 0) (body.drop 1)
      | _ => .malformedFrame lane frame
    | _ => .malformedFrame lane frame

/-- The command a word spells by the table's bits. No row of spec/opcode_table.json has bits (log 2). -/
def decodeTableWord (_nbits _w : Nat) : Option Instr := none

end Sys2Proof
end

