-- ==== Sys2Proof/Machine/Aes.lean ====
section
/-! DEFINITION. The block cipher of R1: AES-256 as FIPS 197 defines it. The spec names the cipher and gives no internals: PRESUMED (log 4), unsafe if a table or a round were wrong. -/

namespace Sys2Proof.Machine.Aes

/-- One column of the cipher's state: four bytes, in input order. -/
structure Column where
  b0 : Byte
  b1 : Byte
  b2 : Byte
  b3 : Byte
  deriving DecidableEq, Repr

/-- The cipher's state: 16 bytes as four columns, in input order. -/
structure AesState where
  c0 : Column
  c1 : Column
  c2 : Column
  c3 : Column
  deriving DecidableEq, Repr

/-- The substitution table, entry `x` in bits `8x` to `8x + 7`. -/
def sboxTable : Nat :=
  0x16bb54b00f2d99416842e6bf0d89a18cdf2855cee9871e9b948ed9691198f8e19e1dc186b95735610ef6034866b53e708a8bbd4b1f74dde8c6b4a61c2e2578ba08ae7a65eaf4566ca94ed58d6d37c8e779e4959162acd3c25c2406490a3a32e0db0b5ede14b8ee4688902a22dc4f816073195d643d7ea7c41744975fec130ccdd2f3ff1021dab6bcf5389d928f40a351a89f3c507f02f94585334d43fbaaefd0cf584c4a39becb6a5bb1fc20ed00d153842fe329b3d63b52a05a6e1b1a2c830975b227ebe28012079a059618c323c7041531d871f1e5a534ccf73f362693fdb7c072a49cafa2d4adf04759fa7dc982ca76abd7fe2b670130c56f6bf27b777c63

/-- The inverse substitution table, in the same form. -/
def invSboxTable : Nat :=
  0x7d0c2155631469e126d677ba7e042b17619953833cbbebc8b0f52aae4d3be0a0ef9cc9939f7ae52d0d4ab519a97f51605fec8027591012b131c7078833a8dd1ff45acd78fec0db9a2079d2c64b3e56fc1bbe18aa0e62b76f89c5291d711af1476edf751ce837f9e28535ade72274ac9673e6b4f0cecff297eadc674f4111913a6b8a130103bdafc1020f3fca8f1e2cd00645b3b80558e4f70ad3bc8c00abd890849d8da75746155edab9edfd5048706c92b6655dcc5ca4d41698688664f6f87225d18b6d49a25b76b224d92866a12e084ec3fa420b954cee3d23c2a632947b54cbe9dec444438e3487ff2f9b8239e37cfbd7f3819ea340bf38a53630d56a0952

/-- Entry `x` of a table. -/
def look (table : Nat) (x : Byte) : Byte := BitVec.ofNat 8 (table >>> (8 * x.toNat))

/-- SubBytes on one byte. -/
def sub (x : Byte) : Byte := look sboxTable x

/-- InvSubBytes on one byte. -/
def invSub (x : Byte) : Byte := look invSboxTable x

/-- Multiplication by x in the field of the cipher. -/
def xtime (b : Byte) : Byte := (b <<< 1) ^^^ (if b.msb then 0x1b#8 else 0#8)

/-- Multiplication by 3. -/
def mul3 (b : Byte) : Byte := xtime b ^^^ b

/-- Multiplication by 9. -/
def mul9 (b : Byte) : Byte := xtime (xtime (xtime b)) ^^^ b

/-- Multiplication by 11. -/
def mul11 (b : Byte) : Byte := xtime (xtime (xtime b)) ^^^ xtime b ^^^ b

/-- Multiplication by 13. -/
def mul13 (b : Byte) : Byte := xtime (xtime (xtime b)) ^^^ xtime (xtime b) ^^^ b

/-- Multiplication by 14. -/
def mul14 (b : Byte) : Byte := xtime (xtime (xtime b)) ^^^ xtime (xtime b) ^^^ xtime b

/-- A function on bytes applied to each byte of a column. -/
def Column.map (f : Byte → Byte) (c : Column) : Column := ⟨f c.b0, f c.b1, f c.b2, f c.b3⟩

/-- The exclusive or of two columns. -/
def Column.xor (c d : Column) : Column :=
  ⟨c.b0 ^^^ d.b0, c.b1 ^^^ d.b1, c.b2 ^^^ d.b2, c.b3 ^^^ d.b3⟩

/-- RotWord: the bytes of a key word rotated by one. -/
def Column.rot (c : Column) : Column := ⟨c.b1, c.b2, c.b3, c.b0⟩

/-- MixColumns on one column. -/
def Column.mix (c : Column) : Column :=
  ⟨xtime c.b0 ^^^ mul3 c.b1 ^^^ c.b2 ^^^ c.b3,
   c.b0 ^^^ xtime c.b1 ^^^ mul3 c.b2 ^^^ c.b3,
   c.b0 ^^^ c.b1 ^^^ xtime c.b2 ^^^ mul3 c.b3,
   mul3 c.b0 ^^^ c.b1 ^^^ c.b2 ^^^ xtime c.b3⟩

/-- InvMixColumns on one column. -/
def Column.invMix (c : Column) : Column :=
  ⟨mul14 c.b0 ^^^ mul11 c.b1 ^^^ mul13 c.b2 ^^^ mul9 c.b3,
   mul9 c.b0 ^^^ mul14 c.b1 ^^^ mul11 c.b2 ^^^ mul13 c.b3,
   mul13 c.b0 ^^^ mul9 c.b1 ^^^ mul14 c.b2 ^^^ mul11 c.b3,
   mul11 c.b0 ^^^ mul13 c.b1 ^^^ mul9 c.b2 ^^^ mul14 c.b3⟩

/-- A function on columns applied to each column of the state. -/
def AesState.map (f : Column → Column) (s : AesState) : AesState := ⟨f s.c0, f s.c1, f s.c2, f s.c3⟩

/-- AddRoundKey. -/
def AesState.add (k s : AesState) : AesState :=
  ⟨k.c0.xor s.c0, k.c1.xor s.c1, k.c2.xor s.c2, k.c3.xor s.c3⟩

/-- ShiftRows: row `i` moves left by `i` columns. -/
def AesState.shift (s : AesState) : AesState :=
  ⟨⟨s.c0.b0, s.c1.b1, s.c2.b2, s.c3.b3⟩, ⟨s.c1.b0, s.c2.b1, s.c3.b2, s.c0.b3⟩,
   ⟨s.c2.b0, s.c3.b1, s.c0.b2, s.c1.b3⟩, ⟨s.c3.b0, s.c0.b1, s.c1.b2, s.c2.b3⟩⟩

/-- InvShiftRows: row `i` moves right by `i` columns. -/
def AesState.invShift (s : AesState) : AesState :=
  ⟨⟨s.c0.b0, s.c3.b1, s.c2.b2, s.c1.b3⟩, ⟨s.c1.b0, s.c0.b1, s.c3.b2, s.c2.b3⟩,
   ⟨s.c2.b0, s.c1.b1, s.c0.b2, s.c3.b3⟩, ⟨s.c3.b0, s.c2.b1, s.c1.b2, s.c0.b3⟩⟩

/-- Eight words of the key schedule from the eight before them: the first four with the round constant, the
last four with the extra substitution of 256-bit keys. -/
def nextEight (rcon : Byte) (a b : AesState) : AesState × AesState :=
  let t := b.c3.rot.map sub
  let n0 := a.c0.xor (t.xor ⟨rcon, 0, 0, 0⟩)
  let n1 := a.c1.xor n0
  let n2 := a.c2.xor n1
  let n3 := a.c3.xor n2
  let n4 := b.c0.xor (n3.map sub)
  let n5 := b.c1.xor n4
  let n6 := b.c2.xor n5
  let n7 := b.c3.xor n6
  (⟨n0, n1, n2, n3⟩, ⟨n4, n5, n6, n7⟩)

/-- The round keys, two at a time, for a list of round constants. -/
def schedule : List Byte → AesState → AesState → List AesState
  | [], a, b => [a, b]
  | r :: rs, a, b =>
    let p := nextEight r a b
    a :: b :: schedule rs p.1 p.2

/-- Byte `i` of a little-endian number. -/
def byteOf {n : Nat} (v : BitVec n) (i : Nat) : Byte := v.extractLsb' (8 * i) 8

/-- Four bytes of a little-endian number as a column, from byte `i`. -/
def columnOf {n : Nat} (v : BitVec n) (i : Nat) : Column :=
  ⟨byteOf v i, byteOf v (i + 1), byteOf v (i + 2), byteOf v (i + 3)⟩

/-- Sixteen bytes of a little-endian number as a cipher state, from byte `i`: byte 0 first (R2). -/
def stateOf {n : Nat} (v : BitVec n) (i : Nat) : AesState :=
  ⟨columnOf v i, columnOf v (i + 4), columnOf v (i + 8), columnOf v (i + 12)⟩

/-- A column as the 32-bit little-endian number of its bytes. -/
def Column.toWord (c : Column) : BitVec 32 := c.b3 ++ c.b2 ++ c.b1 ++ c.b0

/-- A cipher state as the block of its 16 bytes. -/
def AesState.toBlock (s : AesState) : Block := s.c3.toWord ++ s.c2.toWord ++ s.c1.toWord ++ s.c0.toWord

/-- The 15 round keys of a 256-bit key. -/
def roundKeys (key : BitVec 256) : List AesState :=
  (schedule [0x01#8, 0x02#8, 0x04#8, 0x08#8, 0x10#8, 0x20#8, 0x40#8] (stateOf key 0) (stateOf key 16)).take 15

/-- The rounds after the first AddRoundKey; the last one mixes no columns. -/
def encRounds : List AesState → AesState → AesState
  | [], s => s
  | [k], s => k.add ((s.map (Column.map sub)).shift)
  | k :: ks, s => encRounds ks (k.add (((s.map (Column.map sub)).shift).map Column.mix))

/-- The inverse of `encRounds`. -/
def decRounds : List AesState → AesState → AesState
  | [], s => s
  | [k], s => ((k.add s).invShift).map (Column.map invSub)
  | k :: ks, s => (((k.add (decRounds ks s)).map Column.invMix).invShift).map (Column.map invSub)

/-- Encipherment of a cipher state under round keys. -/
def encWith (ks : List AesState) (s : AesState) : AesState :=
  match ks with
  | [] => s
  | k :: rest => encRounds rest (k.add s)

/-- Decipherment of a cipher state under round keys. -/
def decWith (ks : List AesState) (s : AesState) : AesState :=
  match ks with
  | [] => s
  | k :: rest => k.add (decRounds rest s)

end Sys2Proof.Machine.Aes

namespace Sys2Proof.Machine

/-- `E_K(x)`: encipherment of a block under a 256-bit key (R1). -/
def blockE (key : BitVec 256) (x : Block) : Block :=
  (Aes.encWith (Aes.roundKeys key) (Aes.stateOf x 0)).toBlock

/-- `D_K(y)`: decipherment of a block under a 256-bit key (R1). -/
def blockD (key : BitVec 256) (y : Block) : Block :=
  (Aes.decWith (Aes.roundKeys key) (Aes.stateOf y 0)).toBlock

end Sys2Proof.Machine
end

