-- ==== Sys2Proof/Machine/State.lean ====
section
/-! DEFINITION. The state of the part as plain data: every item the spec gives it, block by block, and its value after reset. -/

namespace Sys2Proof.Machine

/-! ### Names of the spec -/

/-- The status of a DONE or END (11.5). -/
inductive TransferStatus where
  | ok | notOnline | ctxBusy | noNamespace | outOfRange | bandChanging | noKey | keyFault
  | locked | powerHold | migrateOrder | aborted | tripped | keyPurged
  deriving DecidableEq, Repr

/-- The status of a REPLY (11.5). -/
inductive ReplyStatus where
  | ok | badRequest | wrongState | slotBusy | bankBusy | noWrap | wrapInvalid | wrapFault
  | keyWeak | abandoned | notReady | genMismatch | noBand | outOfRange | overlap | busy
  | migrating | noKey | tripped | stillAsserted
  deriving DecidableEq, Repr

/-- The sector formats (R3). -/
inductive Format where
  | f512 | f520 | f4096 | f4104 | f4160
  deriving DecidableEq, Repr

/-- The meta modes (R4). -/
inductive MetaMode where
  | ciphered | clear
  deriving DecidableEq, Repr

/-- The condition of a DONE place or an END place (R148, R149). -/
inductive Place where
  | idle | reserved | filled
  deriving DecidableEq, Repr

/-- The latched trip sources (R128). -/
inductive TripSource where
  | plock | soft | keyfault
  deriving DecidableEq, Repr

/-- What a TRIP event names: a latched source, or PFAIL (R141). -/
inductive TripCause where
  | source (src : TripSource)
  | pfail
  deriving DecidableEq, Repr

/-- A subset of PLOCK, SOFT and KEYFAULT: the latched set, a trip mask (R127, R51). -/
structure SourceSet where
  plock : Bool
  soft : Bool
  keyfault : Bool
  deriving DecidableEq, Repr

/-- The latched action of a band (R51, R130 to R132). -/
inductive LatchedAction where
  | none | lock | cut | purge
  deriving DecidableEq, Repr

/-- The PFAIL response of a band (R51, R139). -/
inductive PfailResponse where
  | none | hold
  deriving DecidableEq, Repr

/-- The life state (R160). -/
inductive Life where
  | prepare | online
  deriving DecidableEq, Repr

/-- The notice classes, in their priority (R165). -/
inductive NoticeClass where
  | trip | keyfault | purge | migrate | discard
  deriving DecidableEq, Repr

/-- The cause of a purge (R94). -/
inductive PurgeCause where
  | request | trip | migrateFail | all
  deriving DecidableEq, Repr

/-- The kind of a MIGRATE event (R125). -/
inductive MigrateKind where
  | advance | complete | failed
  deriving DecidableEq, Repr

/-- The kind of a discarded frame (R46). -/
inductive DiscardKind where
  | stray | wrongLane | overrun | malformed
  deriving DecidableEq, Repr

/-- The subject of a KEYFAULT event (R167). -/
inductive FaultSubject where
  | keySlot (slot : SlotId)
  | wrapSlot (slot : WrapId)
  deriving DecidableEq, Repr

/-! ### Transfer unit -/

/-- A segment record (R22). -/
structure Segment where
  band : BandId
  first : Nat
  last : Nat
  current : SlotId
  target : Option SlotId
  deriving DecidableEq, Repr

/-- The state of an open record with the fields present in it (R22, R23). `k1` is the data key that passed the
parity check at the sector start; R85 computes every block of the sector with it (log 11). -/
inductive Progress where
  | boundary
  | insector (slot : SlotId) (k1 : BitVec 256) (blockIndex : Nat) (mask : Block)
  | tailing (slot : SlotId) (k1 : BitVec 256) (blockIndex : Nat) (mask : Block) (held : Block)
  deriving DecidableEq, Repr

/-- An open context record (R22). A FREE record is `none` in the context table. -/
structure Context where
  dir : Direction
  migrate : Bool
  ns : Ns
  first : Nat
  count : Nat
  format : Format
  metaMode : MetaMode
  segments : List Segment
  sectorsDone : Nat
  offset : Nat
  residue : List Byte
  progress : Progress
  openTime : BitVec 32
  deriving DecidableEq, Repr

/-! ### Band unit -/

/-- What tells a base band from a locking band: its extent, and for a base band its format and meta mode
(R51 to R53). -/
inductive Extent where
  | base (size : Nat) (format : Format) (metaMode : MetaMode)
  | locking (ns : Ns) (first : Nat) (last : Nat)
  deriving DecidableEq, Repr

/-- A key binding: the current slot with the generation it was bound at (R51, R54). -/
structure Binding where
  slot : SlotId
  generation : BitVec 16
  deriving DecidableEq, Repr

/-- The fields of an ACTIVE band that a BAND-SET carries (R51). -/
structure BandFields where
  extent : Extent
  binding : Option Binding
  readLock : Bool
  writeLock : Bool
  salt : Option (BitVec 32)
  tripMask : SourceSet
  action : LatchedAction
  pfail : PfailResponse
  deriving DecidableEq, Repr

/-- A migration record (R110). -/
structure Migration where
  target : SlotId
  targetGeneration : BitVec 16
  w : Nat
  deriving DecidableEq, Repr

/-- A staged change (R63): a BAND-SET, to UNUSED or to ACTIVE with its fields, or a MIGRATE-START. -/
inductive Change where
  | bandSet (fields : Option BandFields)
  | migrateStart (target : SlotId) (generation : BitVec 16)
  deriving DecidableEq, Repr

/-- A pending change with the tag of its waiting reply; `none` where LINKRST dropped the reservation
(R63, R158, R159). -/
structure Pending where
  change : Change
  owed : Option Byte
  deriving DecidableEq, Repr

/-- An ACTIVE band entry (R51). An UNUSED entry is `none` in the band table. -/
structure Band where
  fields : BandFields
  openCount : Nat
  migration : Option Migration
  writer : Option CtxId
  pending : Option Pending
  deriving DecidableEq, Repr

/-! ### Key store -/

/-- A stored 32-bit word with its parity bit (R84). -/
structure StoredWord where
  word : BitVec 32
  parity : Bool
  deriving DecidableEq, Repr

/-- The 16 words of a key slot: words 0 to 7 hold K1, words 8 to 15 hold K2 (R72). -/
abbrev Material := Vector StoredWord 16

/-- The 8 words of a wrap slot (R74). -/
abbrev WrapWords := Vector StoredWord 8

/-- A load in progress: the wrap slot used, the words the unwrap read at acceptance (R77, log 13), the blob, the
tag of the waiting reply, and the microseconds left within which the unwrap completes (R78, log 9). -/
structure Load where
  wrapSlot : WrapId
  words : WrapWords
  blob : BitVec 576
  owed : Option Byte
  timeLeft : Nat
  deriving DecidableEq, Repr

/-- The grace remaining and the account of a purge (R72, R94). -/
structure Account where
  grace : Nat
  cause : PurgeCause
  drained : Nat
  cut : Nat
  owed : Option Byte
  deriving DecidableEq, Repr

/-- The state of a key slot with the fields present in it (R72, R94). -/
inductive SlotState where
  | empty
  | loading (load : Load)
  | ready (material : Material)
  | purging (material : Material) (account : Account)
  | poisoned (material : Material)
  deriving DecidableEq, Repr

/-- A key slot (R72). -/
structure KeySlot where
  generation : BitVec 16
  holders : Nat
  state : SlotState
  deriving DecidableEq, Repr

/-- A wrap slot (R74). -/
inductive WrapSlot where
  | empty
  | loaded (words : WrapWords)
  | faulty (words : WrapWords)
  deriving DecidableEq, Repr

/-! ### Notices, replies and output queues -/

/-- The detail of a notice event, by class (R167). -/
inductive Detail where
  | trip (cause : TripCause) (latched : SourceSet)
  | keyfault (subject : FaultSubject) (cut : Nat)
  | purge (slot : SlotId) (cause : PurgeCause) (drained : Nat) (cut : Nat)
  | migrate (band : BandId) (kind : MigrateKind) (w : Nat)
  | discard (kind : DiscardKind) (ctx : Option CtxId) (counter : BitVec 32)
  deriving DecidableEq, Repr

/-- A class's latest event: its link time and detail (R165). -/
structure NoticeEvent where
  time : BitVec 32
  detail : Detail
  deriving DecidableEq, Repr

/-- A queued NOTICE: the latest event when it was queued and the event count (R167). Its class is its detail's. -/
structure Notice where
  event : NoticeEvent
  count : Nat
  deriving DecidableEq, Repr

/-- The items of a notice class (R165). -/
structure ClassState where
  flag : Bool
  counter : Nat
  period : Nat
  latest : Option NoticeEvent
  deriving DecidableEq, Repr

/-- The result fields of QUERY-SLOT (11.3). -/
structure SlotReport where
  state : Byte := 0
  generation : BitVec 16 := 0
  holders : Byte := 0
  grace : BitVec 32 := 0
  deriving DecidableEq, Repr

/-- The result fields of QUERY-BAND (11.3). -/
structure BandReport where
  state : Byte := 0
  namespaceNumber : Byte := 0
  format : Byte := 0
  metaMode : Byte := 0
  extentA : BitVec 64 := 0
  extentB : BitVec 64 := 0
  bindingPresent : Byte := 0
  slot : Byte := 0
  generation : BitVec 16 := 0
  locks : Byte := 0
  saltPresent : Byte := 0
  salt : BitVec 32 := 0
  tripMask : Byte := 0
  latchedAction : Byte := 0
  pfailResponse : Byte := 0
  openCount : Byte := 0
  recordPresent : Byte := 0
  target : Byte := 0
  targetGeneration : BitVec 16 := 0
  w : BitVec 64 := 0
  writerPresent : Byte := 0
  writer : Byte := 0
  pendingKind : Byte := 0
  deriving DecidableEq, Repr

/-- The result fields of QUERY-CONTEXT (11.3). -/
structure ContextReport where
  state : Byte := 0
  direction : Byte := 0
  flags : Byte := 0
  namespaceNumber : Byte := 0
  first : BitVec 48 := 0
  countMinusOne : BitVec 16 := 0
  sectorsDone : BitVec 16 := 0
  offset : BitVec 16 := 0
  residueLength : Byte := 0
  heldPresent : Byte := 0
  segmentCount : Byte := 0
  openTime : BitVec 32 := 0
  deriving DecidableEq, Repr

/-- The result fields of QUERY-STATUS (11.3). -/
structure StatusReport where
  life : Byte := 0
  latched : Byte := 0
  lines : Byte := 0
  openContexts : Byte := 0
  discards : BitVec 32 := 0
  linkTime : BitVec 32 := 0
  grace : BitVec 32 := 0
  reservations : Byte := 0
  deriving DecidableEq, Repr

/-- The result fields of a REPLY, by request code (11.3). -/
inductive Result where
  | none
  | keyLoad (slot : Byte) (generation : BitVec 16)
  | slot (report : SlotReport)
  | keyPurge (slot : Byte) (drained : Byte) (cut : Byte)
  | grace (taken : BitVec 32)
  | band (band : Byte)
  | bandReport (report : BandReport)
  | migrateStart (band : Byte) (w : BitVec 64)
  | latched (set : SourceSet)
  | noticePeriod (noticeClass : Byte) (period : Byte)
  | noticeAck (flagged : Byte)
  | context (report : ContextReport)
  | time (replaced : BitVec 32)
  | status (report : StatusReport)
  deriving DecidableEq, Repr

/-- A REPLY (R157). -/
structure Reply where
  tag : Byte
  code : Byte
  status : ReplyStatus
  result : Result
  deriving DecidableEq, Repr

/-- An entry of the front-out data queue (R148): a read DATA frame and a refusal DONE stand in DATA places, the
DONE of an ended context in its id's DONE place. -/
inductive FrontEntry where
  | data (ctx : CtxId) (bytes : List Byte)
  | refusal (ctx : CtxId) (status : TransferStatus)
  | done (ctx : CtxId) (status : TransferStatus) (sectors : Nat) (elapsed : BitVec 32)
  deriving DecidableEq, Repr

/-- An entry of the back-out queue (R149): a write DATA frame in a DATA place, an END in its id's END place. -/
inductive BackEntry where
  | data (ctx : CtxId) (bytes : List Byte)
  | ended (ctx : CtxId) (status : TransferStatus) (sectors : Nat)
  deriving DecidableEq, Repr

/-- Whose first frame front-out is sending (R151). The frame keeps its place until its sending completes (R152). -/
inductive FrontSource where
  | notice (noticeClass : NoticeClass)
  | reply
  | data
  deriving DecidableEq, Repr

/-! ### The part -/

/-- The state of the part. The last two fields are the model's own (log 1, log 6). -/
structure State where
  /-- front-in head frame (R143). -/
  frontHead : Option Instr
  /-- front-out data queue, oldest first (R148). -/
  frontQueue : List FrontEntry
  /-- DONE places (R148). -/
  donePlaces : Vector Place 64
  /-- reply queue, oldest first (R150). -/
  replies : List Reply
  /-- notice slots, by class (R150). -/
  noticeSlots : Vector (Option Notice) 5
  /-- the frame front-out is sending (R151). -/
  frontSending : Option FrontSource
  /-- the front-out hold line (R144). -/
  frontOutHold : Bool
  /-- back-in head frame (R143). -/
  backHead : Option Instr
  /-- back-out queue, oldest first (R149). -/
  backQueue : List BackEntry
  /-- END places (R149). -/
  endPlaces : Vector Place 64
  /-- whether back-out is sending its queue's oldest entry (R151). -/
  backSending : Bool
  /-- the back-out hold line (R144). -/
  backOutHold : Bool
  /-- context table (R22). -/
  contexts : Vector (Option Context) 64
  /-- discard counter (R46). -/
  discards : BitVec 32
  /-- band table (R51). -/
  bands : Vector (Option Band) 32
  /-- key slots (R72). -/
  slots : Vector KeySlot 32
  /-- wrap slots (R74). -/
  wraps : Vector WrapSlot 4
  /-- latched set (R127). -/
  latched : SourceSet
  /-- PLOCK line state (R127). -/
  plock : Bool
  /-- PFAIL line state (R127). -/
  pfail : Bool
  /-- life state (R160). -/
  life : Life
  /-- link time (R162). -/
  linkTime : BitVec 32
  /-- grace setting (R105). -/
  graceSetting : Nat
  /-- reply reservations in use (R155, R158). -/
  reservations : Nat
  /-- notice classes (R165). -/
  classes : Vector ClassState 5
  /-- the PORST input line (R154). -/
  porstLine : Bool
  /-- the LINKRST input line (R153). -/
  linkrstLine : Bool
  /-- the PLOCK input line (R134, R142). -/
  plockLine : Bool
  /-- the PFAIL input line (R139, R142). -/
  pfailLine : Bool
  /-- how many free choices have been read (log 6). -/
  choices : Nat
  /-- the commands that wait, first in, first out (log 1). -/
  pending : List Instr
  deriving DecidableEq, Repr

/-- Reasons for which the part stops: the spec describes none, so there is none (log 27). -/
inductive Fault where
  deriving DecidableEq, Repr

/-- Commands without a meaning in the model. -/
inductive Refusal where
  /-- Raised by an arm of `exec` whose command has no meaning yet. Safe: no statement follows from it. -/
  | notModelled (mnemonic : String)
  deriving DecidableEq, Repr

/-- A notice class after PORST, with its reset period (R171). -/
def ClassState.reset (period : Nat) : ClassState :=
  { flag := false, counter := 0, period := period, latest := none }

/-- A key slot after PORST (R92). -/
def KeySlot.reset : KeySlot := { generation := 0, holders := 0, state := .empty }

/-- The empty set of trip sources. -/
def SourceSet.empty : SourceSet := { plock := false, soft := false, keyfault := false }

/-- The part right after the release of PORST with every input line deasserted (R48, R70, R92, R109, R142, R154,
R159 to R162, R171; the levels of the input lines and the model's own fields are of log 2, 3 and 6). -/
def State.reset : State where
  frontHead := none
  frontQueue := []
  donePlaces := Vector.replicate 64 .idle
  replies := []
  noticeSlots := Vector.replicate 5 none
  frontSending := none
  frontOutHold := false
  backHead := none
  backQueue := []
  endPlaces := Vector.replicate 64 .idle
  backSending := false
  backOutHold := false
  contexts := Vector.replicate 64 none
  discards := 0
  bands := Vector.replicate 32 none
  slots := Vector.replicate 32 KeySlot.reset
  wraps := Vector.replicate 4 .empty
  latched := SourceSet.empty
  plock := false
  pfail := false
  life := .prepare
  linkTime := 0
  graceSetting := Config.graceReset
  reservations := 0
  classes := #v[ClassState.reset 1, ClassState.reset 1, ClassState.reset 1, ClassState.reset 0,
    ClassState.reset 1]
  porstLine := false
  linkrstLine := false
  plockLine := false
  pfailLine := false
  choices := 0
  pending := []

end Sys2Proof.Machine
end

