-- ==== Sys2Proof/Machine/Cipher.lean ====
section
/-! DEFINITION. The sector computation of chapter 1 as a function of keys, tweak and data: formats, tweak and masks, normal blocks, ciphertext stealing, the release of output bytes, and the parity of stored words (R3 to R16, R84). -/

namespace Sys2Proof.Machine

/-! ### Formats (R3 to R5) -/

/-- The data bytes of a sector (R3). -/
def Format.dataBytes : Format → Nat
  | .f512 => 512
  | .f520 => 512
  | .f4096 => 4096
  | .f4104 => 4096
  | .f4160 => 4096

/-- The meta bytes of a sector (R3). -/
def Format.metaBytes : Format → Nat
  | .f512 => 0
  | .f520 => 8
  | .f4096 => 0
  | .f4104 => 8
  | .f4160 => 64

/-- The sector bytes, S (R3). -/
def Format.sectorBytes (f : Format) : Nat := f.dataBytes + f.metaBytes

/-- The ciphered length, Lc (R4). -/
def cipheredLength (f : Format) : MetaMode → Nat
  | .ciphered => f.sectorBytes
  | .clear => f.dataBytes

/-- The number of full blocks, n (R5). -/
def fullBlocks (f : Format) (m : MetaMode) : Nat := cipheredLength f m / 16

/-- The tail bytes, r (R5). -/
def tailBytes (f : Format) (m : MetaMode) : Nat := cipheredLength f m % 16

/-! ### Blocks, tweak and masks (R6, R7) -/

/-- The 16 bytes of a block, byte 0 first. -/
def blockBytes (x : Block) : List Byte :=
  [Aes.byteOf x 0, Aes.byteOf x 1, Aes.byteOf x 2, Aes.byteOf x 3, Aes.byteOf x 4, Aes.byteOf x 5,
   Aes.byteOf x 6, Aes.byteOf x 7, Aes.byteOf x 8, Aes.byteOf x 9, Aes.byteOf x 10, Aes.byteOf x 11,
   Aes.byteOf x 12, Aes.byteOf x 13, Aes.byteOf x 14, Aes.byteOf x 15]

/-- Bytes as a little-endian number, byte 0 first. -/
def bytesNat : List Byte → Nat
  | [] => 0
  | b :: bs => b.toNat + 256 * bytesNat bs

/-- The block of 16 bytes, byte 0 first. -/
def blockOf (bytes : List Byte) : Block := BitVec.ofNat 128 (bytesNat bytes)

/-- The tweak T (R6): bytes 0 to 5 the LBA, byte 8 the namespace number, bytes 12 to 15 the salt, the rest zero. -/
def tweak (ns : Ns) (lba : Nat) (salt : Option (BitVec 32)) : Block :=
  (salt.getD 0 : BitVec 32) ++ 0#24 ++ BitVec.ofNat 8 (ns.val + 1) ++ 0#16 ++ BitVec.ofNat 48 lba

/-- Doubling (R7). -/
def double (m : Block) : Block := (m <<< 1) ^^^ (if m.msb then 0x87#128 else 0#128)

/-- M(0) = E_K2(T) (R7). -/
def firstMask (k2 : BitVec 256) (t : Block) : Block := blockE k2 t

/-! ### Normal blocks and stealing (R9 to R11) -/

/-- A block under K1 with one mask before and after: the encipher pipe for a write, the decipher pipe for a read
(R9). -/
def cipherBlock (dir : Direction) (k1 : BitVec 256) (mask x : Block) : Block :=
  match dir with
  | .write => blockE k1 (x ^^^ mask) ^^^ mask
  | .read => blockD k1 (x ^^^ mask) ^^^ mask

/-- The intermediate block of stealing, from the input block n - 1 and the current mask M(n - 1): X under
M(n - 1) on the write path (R10), X' under M(n) on the read path (R11). -/
def stealHold (dir : Direction) (k1 : BitVec 256) (mask x : Block) : Block :=
  match dir with
  | .write => cipherBlock .write k1 mask x
  | .read => cipherBlock .read k1 (double mask) x

/-- The output of stealing when the tail is complete: block n - 1, then the tail. Y (Y') is the tail's bytes
followed by bytes r to 15 of the held block; it is ciphered under M(n) on the write path (R10) and under
M(n - 1) on the read path (R11); the output tail is bytes 0 to r - 1 of the held block. -/
def stealRelease (dir : Direction) (k1 : BitVec 256) (mask held : Block) (tail : List Byte) : List Byte :=
  let y := blockOf (tail ++ (blockBytes held).drop tail.length)
  let out := match dir with
    | .write => cipherBlock .write k1 (double mask) y
    | .read => cipherBlock .read k1 mask y
  blockBytes out ++ (blockBytes held).take tail.length

/-! ### Placing one byte (R8, R13 to R15, R33) -/

/-- What one byte does to a sector in progress. -/
structure Placed where
  residue : List Byte
  progress : Progress
  released : List Byte
  deriving DecidableEq, Repr

/-- A byte taken at a sector offset of a sector in progress: a clear byte is released; a byte of the ciphered
length joins the residue, completes a block, or completes the tail (R13 to R15). The block index and the mask
advance by R8. -/
def placeByte (dir : Direction) (f : Format) (m : MetaMode) (offset : Nat) (residue : List Byte)
    (progress : Progress) (b : Byte) : Placed :=
  if cipheredLength f m ≤ offset then ⟨residue, progress, [b]⟩
  else
    let bytes := residue ++ [b]
    match progress with
    | .boundary => ⟨bytes, progress, []⟩
    | .insector slot k1 j mask =>
      if bytes.length < 16 then ⟨bytes, progress, []⟩
      else if j + 1 < fullBlocks f m then
        ⟨[], .insector slot k1 (j + 1) (double mask),
          blockBytes (cipherBlock dir k1 mask (blockOf bytes))⟩
      else if tailBytes f m = 0 then
        ⟨[], .insector slot k1 j mask, blockBytes (cipherBlock dir k1 mask (blockOf bytes))⟩
      else ⟨[], .tailing slot k1 j mask (stealHold dir k1 mask (blockOf bytes)), []⟩
    | .tailing _ k1 _ mask held =>
      if bytes.length < tailBytes f m then ⟨bytes, progress, []⟩
      else ⟨[], .boundary, stealRelease dir k1 mask held bytes⟩

/-- The bytes released by a run of bytes of one sector, taken from a sector offset. -/
def feed (dir : Direction) (f : Format) (m : MetaMode) :
    Nat → List Byte → Progress → List Byte → List Byte
  | _, _, _, [] => []
  | offset, residue, progress, b :: bs =>
    let p := placeByte dir f m offset residue progress b
    p.released ++ feed dir f m (offset + 1) p.residue p.progress bs

/-- The transform of a whole sector: its input bytes give its output bytes, under the keys of a slot and a tweak
(R1 to R16). -/
def cipherSector (dir : Direction) (f : Format) (m : MetaMode) (k1 k2 : BitVec 256) (t : Block)
    (bytes : List Byte) : List Byte :=
  feed dir f m 0 [] (.insector 0 k1 0 (firstMask k2 t)) bytes

/-! ### Stored words (R72, R74, R84) -/

/-- Whether a word has an odd number of ones. -/
def oddOnes (w : BitVec 32) : Bool := (List.range 32).foldl (fun acc i => acc ^^ w.getLsbD i) false

/-- A word passes its check when its 33 stored bits hold an odd number of ones (R84). -/
def StoredWord.passes (w : StoredWord) : Bool := oddOnes w.word ^^ w.parity

/-- A word stored with a fresh odd-parity bit (R84). -/
def StoredWord.fresh (w : BitVec 32) : StoredWord := { word := w, parity := !oddOnes w }

/-- The words of a little-endian number, word `i` from byte `4i`, each with a fresh parity bit (R72, R75, R79). -/
def storeWords {n : Nat} (count : Nat) (v : BitVec n) : Vector StoredWord count :=
  Vector.ofFn fun i => StoredWord.fresh (v.extractLsb' (32 * i.val) 32)

/-- Whether every word passes its check. -/
def allPass {n : Nat} (v : Vector StoredWord n) : Bool := v.toList.all StoredWord.passes

/-- Eight stored words as a 256-bit key, word 0 least significant (R2, R72, R74). -/
def keyOfWords (w0 w1 w2 w3 w4 w5 w6 w7 : StoredWord) : BitVec 256 :=
  w7.word ++ w6.word ++ w5.word ++ w4.word ++ w3.word ++ w2.word ++ w1.word ++ w0.word

/-- K1: words 0 to 7 of the material (R2, R72). -/
def materialK1 (m : Material) : BitVec 256 := keyOfWords m[0] m[1] m[2] m[3] m[4] m[5] m[6] m[7]

/-- K2: words 8 to 15 of the material (R2, R72). -/
def materialK2 (m : Material) : BitVec 256 := keyOfWords m[8] m[9] m[10] m[11] m[12] m[13] m[14] m[15]

/-- The wrapping key of a wrap slot's words (R74). -/
def wrapKey (w : WrapWords) : BitVec 256 := keyOfWords w[0] w[1] w[2] w[3] w[4] w[5] w[6] w[7]

end Sys2Proof.Machine
end

