-- ==== Sys2Proof/Machine/Ops.lean ====
section
/-! DEFINITION. The shared operations over the state: writing one item, reporting an event to the notice unit, counting a discard, appending to the output queues and the reply queue, and visiting a list in an order the spec leaves open. -/

namespace Sys2Proof.Machine

/-! ### Request codes (11.3) -/

/-- The request codes of 11.3. -/
inductive RequestCode where
  | wrapLoad | keyLoad | querySlot | keyPurge | purgeAll | setGrace | bandSet | bandLock | queryBand
  | migrateStart | tripForce | tripClear | noticePeriod | noticeAck | queryContext | goOnline | timeSet
  | queryStatus
  deriving DecidableEq, Repr

/-- The code byte of a request (11.3). -/
def RequestCode.byte : RequestCode → Byte
  | .wrapLoad => 0x01
  | .keyLoad => 0x02
  | .querySlot => 0x03
  | .keyPurge => 0x04
  | .purgeAll => 0x05
  | .setGrace => 0x06
  | .bandSet => 0x07
  | .bandLock => 0x08
  | .queryBand => 0x09
  | .migrateStart => 0x0A
  | .tripForce => 0x0B
  | .tripClear => 0x0C
  | .noticePeriod => 0x0D
  | .noticeAck => 0x0E
  | .queryContext => 0x0F
  | .goOnline => 0x10
  | .timeSet => 0x11
  | .queryStatus => 0x12

/-! ### Sets of trip sources (R127) -/

/-- Whether a source is a member. -/
def SourceSet.has (set : SourceSet) : TripSource → Bool
  | .plock => set.plock
  | .soft => set.soft
  | .keyfault => set.keyfault

/-- A set with a source joined. -/
def SourceSet.insert (set : SourceSet) : TripSource → SourceSet
  | .plock => { set with plock := true }
  | .soft => { set with soft := true }
  | .keyfault => { set with keyfault := true }

/-- A set without the members of another. -/
def SourceSet.diff (set other : SourceSet) : SourceSet :=
  { plock := set.plock && !other.plock, soft := set.soft && !other.soft,
    keyfault := set.keyfault && !other.keyfault }

/-- Whether two sets have a common member. -/
def SourceSet.meets (a b : SourceSet) : Bool :=
  (a.plock && b.plock) || (a.soft && b.soft) || (a.keyfault && b.keyfault)

/-! ### Writing one item -/

/-- Write a context record. -/
def State.setContext (s : State) (id : CtxId) (c : Option Context) : State :=
  { s with contexts := s.contexts.set id c }

/-- Write a band entry. -/
def State.setBand (s : State) (i : BandId) (b : Option Band) : State :=
  { s with bands := s.bands.set i b }

/-- Write a key slot. -/
def State.setSlot (s : State) (k : SlotId) (v : KeySlot) : State :=
  { s with slots := s.slots.set k v }

/-- Write a wrap slot. -/
def State.setWrap (s : State) (w : WrapId) (v : WrapSlot) : State :=
  { s with wraps := s.wraps.set w v }

/-- Rewrite every band entry. -/
def State.mapBands (s : State) (f : BandId → Option Band → Option Band) : State :=
  { s with bands := s.bands.mapFinIdx fun i b h => f ⟨i, h⟩ b }

/-- Rewrite every key slot. -/
def State.mapSlots (s : State) (f : SlotId → KeySlot → KeySlot) : State :=
  { s with slots := s.slots.mapFinIdx fun i v h => f ⟨i, h⟩ v }

/-! ### Notices (R165 to R167) -/

/-- The place of a class in the order of R165, which is also its code (11.5). -/
def NoticeClass.idx : NoticeClass → Fin 5
  | .trip => 0
  | .keyfault => 1
  | .purge => 2
  | .migrate => 3
  | .discard => 4

/-- The classes in priority order (R165). -/
def NoticeClass.all : List NoticeClass := [.trip, .keyfault, .purge, .migrate, .discard]

/-- The class of an event (R167). -/
def Detail.noticeClass : Detail → NoticeClass
  | .trip _ _ => .trip
  | .keyfault _ _ => .keyfault
  | .purge _ _ _ _ => .purge
  | .migrate _ _ _ => .migrate
  | .discard _ _ _ => .discard

/-- The items of a class. -/
def State.classOf (s : State) (k : NoticeClass) : ClassState := s.classes[k.idx]

/-- Write the items of a class. -/
def State.setClass (s : State) (k : NoticeClass) (c : ClassState) : State :=
  { s with classes := s.classes.set k.idx c }

/-- Queue a NOTICE of a class with an event as its content and the class's period as its count: the slot is
filled, the flag set, the counter cleared (R166, R167). -/
def State.queueNotice (s : State) (k : NoticeClass) (e : NoticeEvent) : State :=
  let c := s.classOf k
  { s.setClass k { c with flag := true, counter := 0 } with
    noticeSlots := s.noticeSlots.set k.idx (some { event := e, count := c.period }) }

/-- The counter after one more event: it rises below the period and stands at it, and stays where the period
is 0 (R166). -/
def ClassState.counted (c : ClassState) : Nat :=
  if c.period = 0 then c.counter else if c.counter < c.period then c.counter + 1 else c.counter

/-- Report an event into its class (R166): the latest event is replaced, the event counted, and a NOTICE queued
when the count has reached a period of at least 1 and the flag is clear. -/
def State.report (s : State) (d : Detail) : State :=
  let k := d.noticeClass
  let c := s.classOf k
  let e : NoticeEvent := { time := s.linkTime, detail := d }
  let s1 := s.setClass k { c with latest := some e, counter := c.counted }
  if c.period ≠ 0 ∧ c.counted = c.period ∧ c.flag = false then s1.queueNotice k e else s1

/-! ### Discards (R46) -/

/-- The discard counter one higher, saturating at its largest value (R46). -/
def raised (n : BitVec 32) : BitVec 32 := if n = BitVec.allOnes 32 then n else n + 1

/-- Count a discarded frame and report its DISCARD event (R46). -/
def State.discard (s : State) (kind : DiscardKind) (ctx : Option CtxId) : State :=
  { s with discards := raised s.discards }.report (.discard kind ctx (raised s.discards))

/-! ### Queues and replies (R148 to R150, R157) -/

/-- Append an entry to the front-out data queue. -/
def State.appendFront (s : State) (e : FrontEntry) : State := { s with frontQueue := s.frontQueue ++ [e] }

/-- Append an entry to the back-out queue. -/
def State.appendBack (s : State) (e : BackEntry) : State := { s with backQueue := s.backQueue ++ [e] }

/-- Append the DONE of an ended context: its place becomes FILLED (R148). -/
def State.appendDone (s : State) (id : CtxId) (status : TransferStatus) (sectors : Nat)
    (elapsed : BitVec 32) : State :=
  { s.appendFront (.done id status sectors elapsed) with donePlaces := s.donePlaces.set id .filled }

/-- Append the END of an ended write: its place becomes FILLED (R149). -/
def State.appendEnded (s : State) (id : CtxId) (status : TransferStatus) (sectors : Nat) : State :=
  { s.appendBack (.ended id status sectors) with endPlaces := s.endPlaces.set id .filled }

/-- Append a REPLY in its reservation (R150, R157). -/
def State.reply (s : State) (tag : Byte) (code : Byte) (status : ReplyStatus) (result : Result) : State :=
  { s with replies := s.replies ++ [{ tag := tag, code := code, status := status, result := result }] }

/-- The REPLY of a deferred operation: appended where its reservation still waits, discarded where LINKRST has
dropped it (R157, R159). -/
def State.payReply (s : State) (owed : Option Byte) (code : RequestCode) (status : ReplyStatus)
    (result : Result) : State :=
  match owed with
  | none => s
  | some tag => s.reply tag code.byte status result

/-- One more reply reservation in use (R155). -/
def State.reserve (s : State) : State := { s with reservations := s.reservations + 1 }

/-! ### Orders the spec leaves open (log 6) -/

/-- A list in the order the free choices from the `n`-th on give: each element is inserted at a free index, so
every order is possible. -/
def permuted {α : Type} : Nat → List α → List α
  | _, [] => []
  | n, x :: xs =>
    let rest := permuted (n + 1) xs
    rest.insertIdx (Config.choice n % (rest.length + 1)) x

/-- Apply an operation for each element of a list, one after another, in an order the spec does not fix. -/
def inAnyOrder {α : Type} (f : α → State → State) (xs : List α) (s : State) : State :=
  match xs with
  | [] => s
  | [x] => f x s
  | x :: y :: zs =>
    (permuted s.choices (x :: y :: zs)).foldl (fun t a => f a t)
      { s with choices := s.choices + (x :: y :: zs).length }

/-- Apply an operation for each element of a list, in the list's order. -/
def inOrder {α : Type} (f : α → State → State) (xs : List α) (s : State) : State :=
  xs.foldl (fun t a => f a t) s

/-- The first check of a table that fails gives the status (the order tables of R27, R60, R75, R76, R111, R137,
R161). -/
def firstFailing {σ : Type} : List (Bool × σ) → Option σ
  | [] => none
  | (fails, status) :: rest => if fails then some status else firstFailing rest

/-- All context ids, in increasing order. -/
abbrev allContexts : List CtxId := List.finRange 64

/-- All band indexes, in increasing order. -/
abbrev allBands : List BandId := List.finRange 32

/-- All key slots, in increasing order. -/
abbrev allSlots : List SlotId := List.finRange 32

/-- All wrap slots, in increasing order. -/
abbrev allWraps : List WrapId := List.finRange 4

end Sys2Proof.Machine
end

