-- ==== Sys2Proof/Machine/Flags.lean ====
section
/-! DEFINITION. What is computed from the state and not stored twice (log 24): free places, busy banks, the hold lines of the inbound lanes, ATTN, the trip gate, holders and open contexts. -/

namespace Sys2Proof.Machine

/-- Whether an entry of the front-out data queue fills a DATA place (R148). -/
def FrontEntry.inDataPlace : FrontEntry → Bool
  | .data _ _ => true
  | .refusal _ _ => true
  | .done _ _ _ _ => false

/-- Whether an entry of the back-out queue fills a DATA place (R149). -/
def BackEntry.inDataPlace : BackEntry → Bool
  | .data _ _ => true
  | .ended _ _ _ => false

/-- Whether the front-out data queue has a free DATA place (R148). -/
def State.frontPlaceFree (s : State) : Bool :=
  decide (s.frontQueue.countP FrontEntry.inDataPlace < Config.dataPlaces)

/-- Whether the back-out queue has a free DATA place (R149). -/
def State.backPlaceFree (s : State) : Bool :=
  decide (s.backQueue.countP BackEntry.inDataPlace < Config.dataPlaces)

/-- Whether the output queue paired with an inbound lane has a free DATA place (R143). -/
def State.pairedPlaceFree (s : State) : InLane → Bool
  | .front => s.backPlaceFree
  | .back => s.frontPlaceFree

/-- The bank of a key slot: 0 for even slots, 1 for odd slots (R72). -/
def bankOf (k : SlotId) : Fin 2 := ⟨k.val % 2, Nat.mod_lt _ (by decide)⟩

/-- Whether a key slot is LOADING. -/
def KeySlot.isLoading (k : KeySlot) : Bool :=
  match k.state with
  | .loading _ => true
  | _ => false

/-- Whether a key slot is POISONED. -/
def KeySlot.isPoisoned (k : KeySlot) : Bool :=
  match k.state with
  | .poisoned _ => true
  | _ => false

/-- Whether a key slot is READY. -/
def KeySlot.isReady (k : KeySlot) : Bool :=
  match k.state with
  | .ready _ => true
  | _ => false

/-- Whether a key slot is EMPTY. -/
def KeySlot.isEmpty (k : KeySlot) : Bool :=
  match k.state with
  | .empty => true
  | _ => false

/-- Whether a key slot is PURGING. -/
def KeySlot.isPurging (k : KeySlot) : Bool :=
  match k.state with
  | .purging _ _ => true
  | _ => false

/-- Whether a wrap slot is LOADED. -/
def WrapSlot.isLoaded : WrapSlot → Bool
  | .loaded _ => true
  | _ => false

/-- A bank is busy from the acceptance of a KEY-LOAD of one of its slots to that load's end (R82): exactly while
a slot of the bank is LOADING. -/
def State.bankBusy (s : State) (bank : Fin 2) : Bool :=
  allSlots.any fun k => (bankOf k == bank) && (s.slots[k]).isLoading

/-- A wrap slot is in use while a LOADING key slot names it (R74). -/
def State.wrapInUse (s : State) (w : WrapId) : Bool :=
  allSlots.any fun k =>
    match (s.slots[k]).state with
    | .loading l => l.wrapSlot == w
    | _ => false

/-- The hold line of an inbound lane: asserted while a frame stands at the head, and while LINKRST or PORST is
asserted (R144, R153, R154). -/
def State.holdLine (s : State) (lane : InLane) : Bool :=
  (match lane with
    | .front => s.frontHead.isSome
    | .back => s.backHead.isSome) || s.linkrstLine || s.porstLine

/-- ATTN: asserted while a notice flag is set; deasserted while PORST is asserted (R170). -/
def State.attn (s : State) : Bool := (s.classes.toList.any (·.flag)) && !s.porstLine

/-- The trip gate holds a band of this trip mask while the mask includes a latched source (R68). -/
def State.gateHolds (s : State) (mask : SourceSet) : Bool := mask.meets s.latched

/-- Whether a context's segment list names a band (R58). -/
def Context.names (c : Context) (b : BandId) : Bool := c.segments.any fun g => g.band == b

/-- Whether a context's segment list names a slot, as current or target: the context is then a holder of the slot
(R90). -/
def Context.holds (c : Context) (k : SlotId) : Bool :=
  c.segments.any fun g => (g.current == k) || (g.target == some k)

/-- The open contexts with a property, in increasing order of id. -/
def State.openWith (s : State) (p : Context → Bool) : List CtxId :=
  allContexts.filter fun id =>
    match s.contexts[id] with
    | none => false
    | some c => p c

/-- The holders of a key slot (R90). -/
def State.holdersOf (s : State) (k : SlotId) : List CtxId := s.openWith fun c => c.holds k

/-- The open contexts that name a band (R58). -/
def State.naming (s : State) (b : BandId) : List CtxId := s.openWith fun c => c.names b

/-- The number of records that are not FREE (R164). -/
def State.openContexts (s : State) : Nat := (s.openWith fun _ => true).length

end Sys2Proof.Machine
end

