-- ==== Sys2Proof/Machine/Operands.lean ====
section
/-! DEFINITION. The operands of frames and requests judged against their encodings (R59, R145, R156, R173, 11.5): `none` is a value outside its encoding. -/

namespace Sys2Proof.Machine

/-- A context id byte, 0 to 63. -/
def ctxOf (b : Byte) : Option CtxId := if h : b.toNat < 64 then some ⟨b.toNat, h⟩ else none

/-- A key slot byte, 0 to 31. -/
def slotOf (b : Byte) : Option SlotId := if h : b.toNat < 32 then some ⟨b.toNat, h⟩ else none

/-- A band index byte, 0 to 31. -/
def bandOf (b : Byte) : Option BandId := if h : b.toNat < 32 then some ⟨b.toNat, h⟩ else none

/-- A wrap slot byte, 0 to 3. -/
def wrapOf (b : Byte) : Option WrapId := if h : b.toNat < 4 then some ⟨b.toNat, h⟩ else none

/-- A namespace byte, 1 to 8; 0 and 9 to 255 name no namespace (R26, R59). -/
def nsOf (b : Byte) : Option Ns :=
  if h : 1 ≤ b.toNat ∧ b.toNat ≤ 8 then some ⟨b.toNat - 1, by omega⟩ else none

/-- A present byte: 0 or 1 (R173). -/
def presentOf (b : Byte) : Option Bool :=
  match b.toNat with
  | 0 => some false
  | 1 => some true
  | _ => none

/-- A locks byte: bit 0 the read lock, bit 1 the write lock; above 3 is outside (R173). -/
def locksOf (b : Byte) : Option (Bool × Bool) :=
  if b.toNat ≤ 3 then some (b.getLsbD 0, b.getLsbD 1) else none

/-- A mask of latched sources: bits 0 to 2 (R173, 11.5). -/
def sourceSetOf (b : Byte) : Option SourceSet :=
  if b.toNat ≤ 7 then
    some { plock := b.getLsbD 0, soft := b.getLsbD 1, keyfault := b.getLsbD 2 }
  else none

/-- A latched action code (11.5). -/
def actionOf (b : Byte) : Option LatchedAction :=
  match b.toNat with
  | 0 => some .none
  | 1 => some .lock
  | 2 => some .cut
  | 3 => some .purge
  | _ => none

/-- A PFAIL response code (11.5). -/
def pfailOf (b : Byte) : Option PfailResponse :=
  match b.toNat with
  | 0 => some .none
  | 1 => some .hold
  | _ => none

/-- A format code (R3). -/
def formatOf (b : Byte) : Option Format :=
  match b.toNat with
  | 0 => some .f512
  | 1 => some .f520
  | 2 => some .f4096
  | 3 => some .f4104
  | 4 => some .f4160
  | _ => none

/-- A meta mode code (11.5). -/
def metaModeOf (b : Byte) : Option MetaMode :=
  match b.toNat with
  | 0 => some .ciphered
  | 1 => some .clear
  | _ => none

/-- A notice class code (11.5). -/
def classCodeOf (b : Byte) : Option NoticeClass :=
  match b.toNat with
  | 0 => some .trip
  | 1 => some .keyfault
  | 2 => some .purge
  | 3 => some .migrate
  | 4 => some .discard
  | _ => none

/-- Whether a band index is a base band's, 0 to 7 (R51). -/
def isBase (b : BandId) : Bool := decide (b.val < 8)

/-- The base band of a namespace: namespace k has entry k - 1 (R26, R51). -/
def baseBand (ns : Ns) : BandId := ⟨ns.val, by omega⟩

/-- The extent of a BAND-SET to ACTIVE: for a base band the size, format and meta mode, the namespace and extent
B disregarded; for a locking band the namespace, first and last LBA, the format and meta mode disregarded
(R59, R173). -/
def extentOf (band : BandId) (f : BandSetFields) : Option Extent :=
  if isBase band then
    match formatOf f.format, metaModeOf f.metaMode with
    | some format, some mode =>
      if f.extentA.toNat = 0 ∨ 2 ^ 48 < f.extentA.toNat then none
      else some (.base f.extentA.toNat format mode)
    | _, _ => none
  else
    match nsOf f.namespaceNumber with
    | some ns =>
      if 2 ^ 48 - 1 < f.extentA.toNat ∨ 2 ^ 48 - 1 < f.extentB.toNat then none
      else some (.locking ns f.extentA.toNat f.extentB.toNat)
    | none => none

/-- The key binding of a BAND-SET: absent, or a slot with the generation expected; an absent binding names no
slot, and its slot byte is not judged (R59, log 25). -/
def bindingOf (f : BandSetFields) : Option (Option Binding) :=
  match presentOf f.bindingPresent with
  | some false => some none
  | some true => (slotOf f.slot).map fun k => some { slot := k, generation := f.generation }
  | none => none

/-- The salt of a BAND-SET: absent, or a 32-bit value. -/
def saltOf (f : BandSetFields) : Option (Option (BitVec 32)) :=
  (presentOf f.saltPresent).map fun p => if p then some f.salt else none

/-- The fields of a BAND-SET to ACTIVE, or `none` where one lies outside its encoding (R59). -/
def bandFieldsOf (band : BandId) (f : BandSetFields) : Option BandFields :=
  match extentOf band f, bindingOf f, locksOf f.locks, saltOf f, sourceSetOf f.tripMask,
    actionOf f.latchedAction, pfailOf f.pfailResponse with
  | some extent, some binding, some locks, some salt, some mask, some action, some pfail =>
    some { extent := extent, binding := binding, readLock := locks.1, writeLock := locks.2, salt := salt,
           tripMask := mask, action := action, pfail := pfail }
  | _, _, _, _, _, _, _ => none

/-- A BAND-SET judged by R59: the band, and the fields for ACTIVE or `none` for UNUSED. For UNUSED every field
other than the band and the state is disregarded. -/
def bandSetOf (f : BandSetFields) : Option (BandId × Option BandFields) :=
  match bandOf f.band with
  | none => none
  | some band =>
    match f.state.toNat with
    | 0 => some (band, none)
    | 1 => (bandFieldsOf band f).map fun fields => (band, some fields)
    | _ => none

/-- The latched set, a trip mask or a locks byte as its code byte (11.5). -/
def SourceSet.byte (set : SourceSet) : Byte :=
  (if set.plock then 1 else 0) + (if set.soft then 2 else 0) + (if set.keyfault then 4 else 0)

/-- A Bool as a byte, shifted to a bit. -/
def bitByte (b : Bool) (bit : Nat) : Byte := if b then 1#8 <<< bit else 0

end Sys2Proof.Machine
end

