-- ==== Sys2Proof/Machine/Contexts.lean ====
section
/-! DEFINITION. The start and the end of an open context: the counts an accepted OPEN raises and an end withdraws, and the end frames (R30, R39 to R42, R94). -/

namespace Sys2Proof.Machine

/-- How an end is entered in the accounts of the purges it meets: as drained or as cut (R94), or not at all, in the
CUT part of a trip action PURGE (R106, log 12). -/
inductive EndKind where
  | drained
  | cut
  | uncounted
  deriving DecidableEq, Repr

/-- Enter the end of a holder in the account of a PURGING slot (R94, R99). -/
def SlotState.enter (kind : EndKind) : SlotState → SlotState
  | .purging m a =>
    match kind with
    | .drained => .purging m { a with drained := a.drained + 1 }
    | .cut => .purging m { a with cut := a.cut + 1 }
    | .uncounted => .purging m a
  | other => other

/-- A band when a context that may name it opens: one more open context, and the migrate writer recorded
(R30). -/
def Band.opened (b : Band) (writer : Option CtxId) : Band :=
  { b with openCount := b.openCount + 1, writer := writer.orElse fun _ => b.writer }

/-- A band when a context that names it ends: one open context fewer, and its migrate writer cleared where it
was this one (R41). -/
def Band.closed (b : Band) (id : CtxId) : Band :=
  { b with openCount := b.openCount - 1, writer := if b.writer = some id then none else b.writer }

/-- The acceptance of a context: the record is filled, the open count of each band it names and the holder count
of each slot it names rise by 1, its DONE place and for a write its END place are RESERVED, and a migrate WRITE
is recorded as its band's writer (R29, R30). -/
def State.acceptContext (s : State) (id : CtxId) (c : Context) : State :=
  let writer := if c.migrate ∧ c.dir = .write then some id else none
  let s1 := s.setContext id (some c)
  let s2 := s1.mapBands fun i ob => ob.map fun b => if c.names i then b.opened writer else b
  let s3 := s2.mapSlots fun k v => if c.holds k then { v with holders := v.holders + 1 } else v
  { s3 with
    donePlaces := s.donePlaces.set id .reserved
    endPlaces := if c.dir = .write then s.endPlaces.set id .reserved else s.endPlaces }

/-- The withdrawal of what an OPEN reported, when its record becomes FREE (R41): the open counts and holder
counts fall by 1, the migrate writer is cleared, and the end is entered in the purges' accounts (R94). -/
def State.withdraw (s : State) (id : CtxId) (c : Context) (kind : EndKind) : State :=
  let s1 := s.setContext id none
  let s2 := s1.mapBands fun i ob => ob.map fun b => if c.names i then b.closed id else b
  s2.mapSlots fun k v =>
    if c.holds k then { v with holders := v.holders - 1, state := v.state.enter kind } else v

/-- The end of an open context with a status: DONE in its reserved place with the sectors completed and the elapsed
time of R21, END for a write, and the record becomes FREE (R39, R42). A FREE record is left as it is (R43). What
follows from the counts is in `settleCuts`. -/
def State.endAs (s : State) (kind : EndKind) (id : CtxId) (status : TransferStatus) : State :=
  match s.contexts[id] with
  | none => s
  | some c =>
    let s1 := s.appendDone id status c.sectorsDone (s.linkTime - c.openTime)
    let s2 := if c.dir = .write then s1.appendEnded id status c.sectorsDone else s1
    s2.withdraw id c kind

/-- The end of an open context by completion (OK), entered as drained, or by a cut (any other status), entered as cut
(R94). -/
def State.endContext (s : State) (id : CtxId) (status : TransferStatus) : State :=
  s.endAs (if status = .ok then .drained else .cut) id status

/-- Cut contexts one after another in the list's order (R42, R43). -/
def State.cutAll (s : State) (status : TransferStatus) (ids : List CtxId) : State :=
  inOrder (fun id t => t.endContext id status) ids s

end Sys2Proof.Machine
end

