-- ==== Sys2Proof/Machine/Bands.lean ====
section
/-! DEFINITION. The band table: lookup and segments (R19, R56), the watermark's placement and completion (R114, R121), the application and the dropping of staged changes (R65, R66, R113), and the checks of BAND-SET (R60 to R62). -/

namespace Sys2Proof.Machine

/-! ### Lookup and segments (R19, R56) -/

/-- The extent of an ACTIVE locking band of a namespace, where it contains an LBA: its last LBA. -/
def Band.lockingOver (b : Band) (ns : Ns) (lba : Nat) : Option Nat :=
  match b.fields.extent with
  | .locking n first last => if n = ns ∧ first ≤ lba ∧ lba ≤ last then some last else none
  | .base _ _ _ => none

/-- The ACTIVE locking band of a namespace that contains an LBA, with its last LBA (R56). -/
def State.lockingAt (s : State) (ns : Ns) (lba : Nat) : Option (BandId × Nat) :=
  allBands.findSome? fun i =>
    match s.bands[i] with
    | none => none
    | some b => (b.lockingOver ns lba).map fun last => (i, last)

/-- The band that owns an LBA of a namespace (R56). -/
def State.owner (s : State) (ns : Ns) (lba : Nat) : BandId :=
  match s.lockingAt ns lba with
  | some (i, _) => i
  | none => baseBand ns

/-- The last LBA, not above `limit`, of the base band's run from an LBA no locking band contains: the run ends
before the next ACTIVE locking band of the namespace. -/
def State.baseRunEnd (s : State) (ns : Ns) (lba limit : Nat) : Nat :=
  allBands.foldl (fun acc i =>
    match s.bands[i] with
    | none => acc
    | some b =>
      match b.fields.extent with
      | .locking n first _ => if n = ns ∧ lba < first ∧ first ≤ acc then first - 1 else acc
      | .base _ _ _ => acc) limit

/-- A run of LBAs with one owner (R19). -/
structure Span where
  band : BandId
  first : Nat
  last : Nat
  deriving DecidableEq, Repr

/-- The runs from an LBA to a last one, in increasing order, each as long as its owner stays the same (R19). The
first argument bounds the number of runs; the number of LBAs is always enough. -/
def State.spansFrom (s : State) (ns : Ns) (last : Nat) : Nat → Nat → List Span
  | 0, _ => []
  | fuel + 1, lba =>
    if last < lba then []
    else
      match s.lockingAt ns lba with
      | some (i, bandLast) =>
        { band := i, first := lba, last := min bandLast last } ::
          s.spansFrom ns last fuel (min bandLast last + 1)
      | none =>
        let e := s.baseRunEnd ns lba last
        { band := baseBand ns, first := lba, last := e } :: s.spansFrom ns last fuel (e + 1)

/-- The segments of a range by their bands: first to first + count - 1 (R19). -/
def State.spans (s : State) (ns : Ns) (first count : Nat) : List Span :=
  s.spansFrom ns (first + count - 1) count first

/-- The size of a namespace: the size of its base band where that is ACTIVE (R52). -/
def State.namespaceSize (s : State) (ns : Ns) : Option Nat :=
  match s.bands[baseBand ns] with
  | none => none
  | some b =>
    match b.fields.extent with
    | .base size _ _ => some size
    | .locking _ _ _ => none

/-! ### Extents -/

/-- The first LBA of a band: 0 for a base band (R110). -/
def Extent.firstLba : Extent → Nat
  | .base _ _ _ => 0
  | .locking _ first _ => first

/-- The last LBA of a band plus 1: the size of a base band (R110). -/
def Extent.endLba : Extent → Nat
  | .base size _ _ => size
  | .locking _ _ last => last + 1

/-! ### The watermark (R114, R120, R121) -/

/-- An LBA moved past the ACTIVE locking bands of a namespace until none contains it (R114). Each move leaves a
band behind, so 32 moves are enough. -/
def State.placed (s : State) (ns : Ns) : Nat → Nat → Nat
  | 0, w => w
  | fuel + 1, w =>
    match s.lockingAt ns w with
    | some (_, last) => s.placed ns fuel (last + 1)
    | none => w

/-- The place of a watermark of a band: moved past locking bands for a base band, as it is for a locking band
(R114). -/
def State.placeFor (s : State) (i : BandId) (w : Nat) : Nat :=
  if h : i.val < 8 then s.placed ⟨i.val, h⟩ 32 w else w

/-- Give a migrating band a watermark already placed, reporting ADVANCE where `announce` says so; at the band's
last LBA + 1 the migration completes: the binding becomes the target, the record is removed, COMPLETE is reported
(R120, R121, R125). -/
def State.moveWatermark (s : State) (i : BandId) (w : Nat) (announce : Bool) : State :=
  match s.bands[i] with
  | none => s
  | some b =>
    match b.migration with
    | none => s
    | some record =>
      let s1 := if announce then s.report (.migrate i .advance w) else s
      if w = b.fields.extent.endLba then
        let binding : Binding := { slot := record.target, generation := record.targetGeneration }
        (s1.setBand i (some { b with
          fields := { b.fields with binding := some binding }, migration := none, writer := none })).report
          (.migrate i .complete w)
      else s1.setBand i (some { b with migration := some { record with w := w } })

/-- After a BAND-SET applies: a base band's watermark that now lies in a locking band is moved on, with an
ADVANCE event (R114, R125). -/
def State.replaceWatermark (s : State) (ns : Ns) : State :=
  match (s.bands[baseBand ns]).bind (·.migration) with
  | none => s
  | some record =>
    let w := s.placeFor (baseBand ns) record.w
    if w = record.w then s else s.moveWatermark (baseBand ns) w true

/-! ### Applying a change (R65, R113) -/

/-- The locks of a BAND-SET at its application: a lock that is set stays set while the trip gate holds the band
under its present trip mask or the request's (R65). -/
def State.gatedFields (s : State) (old : Option Band) (new : BandFields) : BandFields :=
  match old with
  | none => new
  | some b =>
    if s.gateHolds b.fields.tripMask || s.gateHolds new.tripMask then
      { new with readLock := new.readLock || b.fields.readLock,
                 writeLock := new.writeLock || b.fields.writeLock }
    else new

/-- Apply a BAND-SET: the entry takes exactly the state and fields given, with the lock exception of R65, and a
base band's watermark is placed again (R65, R114). -/
def State.applyBandSet (s : State) (i : BandId) (new : Option BandFields) : State :=
  match new with
  | none => s.setBand i none
  | some f =>
    let old := s.bands[i]
    let s1 := s.setBand i (some {
      fields := s.gatedFields old f
      openCount := (old.map (·.openCount)).getD 0
      migration := none
      writer := none
      pending := none })
    match f.extent with
    | .locking ns _ _ => s1.replaceWatermark ns
    | .base _ _ _ => s1

/-- The watermark a MIGRATE-START gives: the band's first LBA, placed (R113, R114). -/
def State.startWatermark (s : State) (i : BandId) : Nat :=
  match s.bands[i] with
  | none => 0
  | some b => s.placeFor i b.fields.extent.firstLba

/-- Apply a MIGRATE-START: the band gets a migration record with its watermark placed; a placement that reaches
last + 1 completes the migration with COMPLETE alone (R113, R125). -/
def State.applyMigrateStart (s : State) (i : BandId) (target : SlotId) (generation : BitVec 16) : State :=
  match s.bands[i] with
  | none => s
  | some b =>
    let w := s.startWatermark i
    let record : Migration :=
      { target := target, targetGeneration := generation, w := b.fields.extent.firstLba }
    (s.setBand i (some { b with migration := some record, writer := none, pending := none })).moveWatermark i w
      false

/-- A band index as a byte. -/
def bandByte (i : BandId) : Byte := BitVec.ofNat 8 i.val

/-- A key slot number as a byte. -/
def slotByte (k : SlotId) : Byte := BitVec.ofNat 8 k.val

/-- Apply a band's pending change where its open count is 0, and append its deferred REPLY with status OK (R65,
R113). A band without a pending change, or with open contexts, is left as it is. -/
def State.applyPending (s : State) (i : BandId) : State :=
  match s.bands[i] with
  | none => s
  | some b =>
    match b.pending with
    | none => s
    | some p =>
      if b.openCount = 0 then
        match p.change with
        | .bandSet new => (s.applyBandSet i new).payReply p.owed .bandSet .ok (.band (bandByte i))
        | .migrateStart target generation =>
          (s.applyMigrateStart i target generation).payReply p.owed .migrateStart .ok
            (.migrateStart (bandByte i) (BitVec.ofNat 64 (s.startWatermark i)))
      else s

/-- Apply every pending change whose band has an open count of 0, in increasing order of band index (R58, R65,
R133). -/
def State.applyIdleChanges (s : State) : State := inOrder (fun i t => t.applyPending i) allBands s

/-! ### Dropping a change (R66, R98) -/

/-- Drop a band's pending change with its deferred reply ABANDONED, which carries the band index (R66, R157). -/
def State.dropPending (s : State) (i : BandId) : State :=
  match s.bands[i] with
  | none => s
  | some b =>
    match b.pending with
    | none => s
    | some p =>
      let s1 := s.setBand i (some { b with pending := none })
      match p.change with
      | .bandSet _ => s1.payReply p.owed .bandSet .abandoned (.band (bandByte i))
      | .migrateStart _ _ =>
        s1.payReply p.owed .migrateStart .abandoned (.migrateStart (bandByte i) 0)

/-- Whether a band's current binding is to a slot. -/
def Band.boundTo (b : Band) (k : SlotId) : Bool :=
  match b.fields.binding with
  | some x => x.slot == k
  | none => false

/-- Whether a band's migration record has a slot as its target. -/
def Band.migratesTo (b : Band) (k : SlotId) : Bool :=
  match b.migration with
  | some record => record.target == k
  | none => false

/-- Whether a band's pending change names a slot (R98). -/
def Band.changeNames (b : Band) (k : SlotId) : Bool :=
  match b.pending with
  | none => false
  | some p =>
    match p.change with
    | .bandSet none => false
    | .bandSet (some f) =>
      match f.binding with
      | some x => x.slot == k
      | none => false
    | .migrateStart target _ => (target == k) || b.boundTo k

/-- Drop every pending change that names a slot, in increasing order of band index (R96 step 2, R98). -/
def State.dropNaming (s : State) (k : SlotId) : State :=
  inOrder (fun i t =>
    match t.bands[i] with
    | none => t
    | some b => if b.changeNames k then t.dropPending i else t) allBands s

/-! ### Checks of BAND-SET (R60 to R62, R68) -/

/-- The staged BAND-SET of a band: `some none` to UNUSED, `some (some f)` to ACTIVE. -/
def Band.stagedSet (b : Band) : Option (Option BandFields) :=
  match b.pending with
  | some { change := .bandSet new, owed := _ } => some new
  | _ => none

/-- The extent a locking band has staged in a namespace (R61, R62). -/
def Band.stagedLocking (b : Band) (ns : Ns) : Option (Nat × Nat) :=
  match b.stagedSet with
  | some (some f) =>
    match f.extent with
    | .locking n first last => if n = ns then some (first, last) else none
    | .base _ _ _ => none
  | _ => none

/-- The present extent of a locking band in a namespace (R61, R62). -/
def Band.presentLocking (b : Band) (ns : Ns) : Option (Nat × Nat) :=
  match b.fields.extent with
  | .locking n first last => if n = ns then some (first, last) else none
  | .base _ _ _ => none

/-- Whether some entry other than `except` has a present or staged locking extent with a property (R61, R62). -/
def State.anyLocking (s : State) (ns : Ns) (except : Option BandId) (p : Nat × Nat → Bool) : Bool :=
  allBands.any fun i =>
    (except != some i) &&
    (match s.bands[i] with
      | none => false
      | some b => ((b.presentLocking ns).any p) || ((b.stagedLocking ns).any p))

/-- Check 3: the base band of the named namespace is UNUSED, or has a pending change that makes it UNUSED (R60). -/
def State.baseMissing (s : State) (ns : Ns) : Bool :=
  match s.bands[baseBand ns] with
  | none => true
  | some b => b.stagedSet == some none

/-- Check 4: a locking extent lies inside its namespace, and inside a size staged for it (R61). -/
def State.extentFits (s : State) (ns : Ns) (first last : Nat) : Bool :=
  match s.bands[baseBand ns] with
  | none => false
  | some b =>
    decide (first ≤ last) && decide (last + 1 ≤ b.fields.extent.endLba) &&
    (match b.stagedSet with
      | some (some f) => decide (last + 1 ≤ f.extent.endLba)
      | _ => true)

/-- Check 6: a locking extent shares an LBA with the present or staged extent of another locking band (R61). -/
def State.overlaps (s : State) (i : BandId) (ns : Ns) (first last : Nat) : Bool :=
  s.anyLocking ns (some i) fun e => decide (e.1 ≤ last ∧ first ≤ e.2)

/-- Check 5: a locking band of the namespace, present or staged, would lie outside a base band's new size; any
locking band at all where the base band becomes UNUSED (R62). -/
def State.strands (s : State) (i : BandId) (new : Option BandFields) : Bool :=
  if h : i.val < 8 then
    match new with
    | none => s.anyLocking ⟨i.val, h⟩ none fun _ => true
    | some f => s.anyLocking ⟨i.val, h⟩ none fun e => decide (f.extent.endLba < e.2 + 1)
  else false

/-- Check 9: a BAND-SET to ACTIVE for an ACTIVE band would clear a lock that is set while the trip gate holds the
band under its present trip mask or the given one (R60, R68). -/
def State.clearsGated (s : State) (i : BandId) (f : BandFields) : Bool :=
  match s.bands[i] with
  | none => false
  | some b =>
    ((b.fields.readLock && !f.readLock) || (b.fields.writeLock && !f.writeLock)) &&
    (s.gateHolds b.fields.tripMask || s.gateHolds f.tripMask)

/-- The nine ordered checks of BAND-SET (R60): the status of the first that fails. -/
def State.bandSetRefusal (s : State) (i : BandId) (new : Option BandFields) : Option ReplyStatus :=
  let present := s.bands[i]
  let locking : Option (Ns × Nat × Nat) :=
    match new with
    | some f =>
      match f.extent with
      | .locking ns first last => some (ns, first, last)
      | .base _ _ _ => none
    | none => none
  let binding := new.bind (·.binding)
  firstFailing [
    ((present.bind (·.pending)).isSome, .busy),
    ((present.bind (·.migration)).isSome, .migrating),
    (locking.any fun x => s.baseMissing x.1, .noBand),
    (locking.any fun x => !s.extentFits x.1 x.2.1 x.2.2, .outOfRange),
    (s.strands i new, .outOfRange),
    (locking.any fun x => s.overlaps i x.1 x.2.1 x.2.2, .overlap),
    (binding.any fun x => !(s.slots[x.slot]).isReady, .notReady),
    (binding.any fun x => (s.slots[x.slot]).generation != x.generation, .genMismatch),
    (new.any fun f => s.clearsGated i f, .tripped)]

end Sys2Proof.Machine
end

