-- ==== Sys2Proof/Machine/Purge.lean ====
section
/-! DEFINITION. What ends and purges bring about: staged changes applied and purges drained after cuts (R41, R58, R101), the expiry of a purge (R102), its beginning with the unbinding of its slot (R96 to R98, R123), and the erasure (R104). -/

namespace Sys2Proof.Machine

/-- The key material of a slot that holds some (R72). -/
def SlotState.material : SlotState → Option Material
  | .empty => none
  | .loading _ => none
  | .ready m => some m
  | .purging m _ => some m
  | .poisoned m => some m

/-- Erase a slot: its words are gone, it is EMPTY, its generation kept, its holder count 0 (R104). -/
def State.erase (s : State) (k : SlotId) : State :=
  s.setSlot k { s.slots[k] with holders := 0, state := .empty }

/-- A count as a byte of a result. -/
def countByte (n : Nat) : Byte := BitVec.ofNat 8 n

/-- The end of a purge, by drain or by expiry: the slot is erased, the owed KEY-PURGE reply is appended with the
counts of the account, and a PURGE event is reported (R101, R102, R104). -/
def State.endPurge (s : State) (k : SlotId) : State :=
  match (s.slots[k]).state with
  | .purging _ a =>
    ((s.erase k).payReply a.owed .keyPurge .ok
      (.keyPurge (slotByte k) (countByte a.drained) (countByte a.cut))).report
      (.purge k a.cause a.drained a.cut)
  | _ => s

/-- The PURGING slots without a holder, `except` left out. -/
def State.drainable (s : State) (except : Option SlotId) : List SlotId :=
  allSlots.filter fun k =>
    (s.slots[k]).isPurging && ((s.slots[k]).holders == 0) && (except != some k)

/-- End by drain every purge whose slot has no holder (R41, R101). The spec gives no order where one event drains
several; the order is free (log 6). -/
def State.drainIdle (s : State) (except : Option SlotId) : State :=
  inAnyOrder (fun k t => t.endPurge k) (s.drainable except) s

/-- What follows from the ends of contexts in one event: the pending changes of bands at an open count of 0 apply,
unless a latching defers them to its end (R133); then purges without a holder drain (R41, R58, R101, R102; log
23). -/
def State.settleCuts (s : State) (deferred : Bool) (except : Option SlotId) : State :=
  (if deferred then s else s.applyIdleChanges).drainIdle except

/-- The expiry of a purge: its holders are cut with KEY_PURGED in increasing order of context id, what follows
from the cuts takes place, and the slot is erased (R102). -/
def State.expire (s : State) (deferred : Bool) (k : SlotId) : State :=
  match (s.slots[k]).state with
  | .purging _ _ =>
    ((s.cutAll .keyPurged (s.holdersOf k)).settleCuts deferred (some k)).endPurge k
  | _ => s

/-- Whether a band has a migration record with a slot as current or target: a purge of the slot fails the
migration (R97, R123). -/
def Band.failsWith (b : Band) (k : SlotId) : Bool :=
  b.migration.isSome && (b.migratesTo k || b.boundTo k)

/-- A band after the unbinding of a slot: the binding to it is removed; a migration record naming it is removed
with the open migrate writer (R97). -/
def Band.unbound (b : Band) (k : SlotId) : Band :=
  let b1 := if b.failsWith k then { b with migration := none, writer := none } else b
  if b.boundTo k then { b1 with fields := { b1.fields with binding := none } } else b1

/-- The bands whose migration a purge of a slot fails, in increasing order (R97, R123). -/
def State.failing (s : State) (k : SlotId) : List BandId :=
  allBands.filter fun i =>
    match s.bands[i] with
    | none => false
    | some b => b.failsWith k

/-- Report the FAILED event of a band with the W its record holds (R97, R125). -/
def State.reportFailed (s : State) (i : BandId) : State :=
  match (s.bands[i]).bind (·.migration) with
  | none => s
  | some record => s.report (.migrate i .failed record.w)

/-- Step 3 of R96: each failing band's FAILED event, in increasing order of band index, and the unbinding of the
slot from every band (R97, R123; the place of the events in the purge: log 30). -/
def State.unbind (s : State) (k : SlotId) : State :=
  (inOrder (fun i t => t.reportFailed i) (s.failing k) s).mapBands fun _ ob => ob.map (·.unbound k)

/-- The open contexts that name a band of a list. -/
def State.namingAny (s : State) (bands : List BandId) : List CtxId :=
  s.openWith fun c => bands.any fun i => c.names i

/-- The steps of R96 for a slot with its material. The contexts of failed migrations are cut in an order the spec
does not give (R97, log 6). A grace of 0 cuts the remaining holders in the same event (R102); the staged changes that
the cuts of step 3 and of that expiry free apply together after the last cut, in increasing order of band index (R65,
log 31). The FAILED events come before the MIGRATE events of those changes: the model's choice (log 30). -/
def State.purgeSteps (s : State) (deferred : Bool) (k : SlotId) (m : Material) (account : Account) : State :=
  let s1 := s.setSlot k { s.slots[k] with state := .purging m account }
  let s2 := s1.dropNaming k
  let s3 := s2.unbind k
  let s4 := inAnyOrder (fun id t => t.endContext id .keyPurged) (s3.namingAny (s2.failing k)) s3
  let s5 := if account.grace = 0 then s4.cutAll .keyPurged (s4.holdersOf k) else s4
  let s6 := s5.settleCuts deferred (some k)
  if (s4.slots[k]).holders = 0 ∨ account.grace = 0 then s6.endPurge k else s6

/-- The beginning of a purge of a READY or POISONED slot, with its account just started (R94, R96). A slot in
another state is left as it is. -/
def State.beginPurge (s : State) (deferred : Bool) (k : SlotId) (cause : PurgeCause) (owed : Option Byte)
    (grace : Nat) : State :=
  let account : Account := { grace := grace, cause := cause, drained := 0, cut := 0, owed := owed }
  match (s.slots[k]).state with
  | .ready m => s.purgeSteps deferred k m account
  | .poisoned m => s.purgeSteps deferred k m account
  | _ => s

end Sys2Proof.Machine
end

