-- ==== Sys2Proof/Machine/Lockdown.lean ====
section
/-! DEFINITION. Latching and the latched actions of the bands (R129 to R133), the failed parity check of a key slot (R86, R87), and the requests TRIP-FORCE and TRIP-CLEAR (R136, R137). -/

namespace Sys2Proof.Machine

/-! ### Latched actions (R130 to R132) -/

/-- Band fields with both locks set. -/
def BandFields.locked (f : BandFields) : BandFields := { f with readLock := true, writeLock := true }

/-- A pending change with the locks of its staged BAND-SET set (R130). -/
def Pending.locked (p : Pending) : Pending :=
  match p.change with
  | .bandSet (some f) => { p with change := .bandSet (some f.locked) }
  | .bandSet none => p
  | .migrateStart _ _ => p

/-- A band with its locks, present and staged, set (R130). -/
def Band.locked (b : Band) : Band :=
  { b with fields := b.fields.locked, pending := b.pending.map Pending.locked }

/-- The action LOCK on a band (R130). -/
def State.lockBand (s : State) (i : BandId) : State := s.setBand i ((s.bands[i]).map Band.locked)

/-- The action CUT on a band, or the CUT part of the action PURGE: the steps of LOCK, then every open context naming
the band is cut with TRIPPED in increasing order of context id. Purges without a holder drain; staged changes wait
(R131, R133). -/
def State.cutBand (s : State) (kind : EndKind) (i : BandId) : State :=
  let s1 := s.lockBand i
  (inOrder (fun id t => t.endAs kind id .tripped) (s1.naming i) s1).settleCuts true none

/-- Whether a slot is in a band's slot set: its current slot, the target of its migration record, or a slot an
open context names in a segment of the band (R106, R132). -/
def State.inSlotSet (s : State) (i : BandId) (k : SlotId) : Bool :=
  (match s.bands[i] with
    | none => false
    | some b => b.boundTo k || b.migratesTo k) ||
  allContexts.any fun id =>
    match s.contexts[id] with
    | none => false
    | some c => c.segments.any fun g => (g.band == i) && ((g.current == k) || (g.target == some k))

/-- The purge of one slot of the set with grace 0: a READY or POISONED slot begins a purge with cause TRIP and no
owed reply; a PURGING slot has its grace set to 0 and expires with its own account; an EMPTY or LOADING slot is
left (R106, R132). -/
def State.tripPurge (s : State) (k : SlotId) : State :=
  match (s.slots[k]).state with
  | .ready _ => s.beginPurge true k .trip none 0
  | .poisoned _ => s.beginPurge true k .trip none 0
  | .purging m a =>
    (s.setSlot k { s.slots[k] with state := .purging m { a with grace := 0 } }).expire true k
  | .empty => s
  | .loading _ => s

/-- The action PURGE on a band: the slot set is gathered first, the steps of CUT follow, whose contexts no purge's
account counts (R106, log 12), then each slot of the set is purged in increasing order of slot number (R132). -/
def State.purgeBand (s : State) (i : BandId) : State :=
  inOrder (fun k t => t.tripPurge k) (allSlots.filter fun k => s.inSlotSet i k) (s.cutBand .uncounted i)

/-- A band's latched action for a source: only an ACTIVE band whose trip mask includes it is reached (R129). -/
def State.bandAction (s : State) (src : TripSource) (i : BandId) : State :=
  match s.bands[i] with
  | none => s
  | some b =>
    if b.fields.tripMask.has src then
      match b.fields.action with
      | .none => s
      | .lock => s.lockBand i
      | .cut => s.cutBand .cut i
      | .purge => s.purgeBand i
    else s

/-- Latching (R129): a source not yet in the set joins it; every ACTIVE band with the source in its mask receives
its action, in increasing order of band index; the pending changes of bands at an open count of 0 apply (R133); a
TRIP event is reported (R141). A source already latched changes nothing. -/
def State.latch (s : State) (src : TripSource) : State :=
  if s.latched.has src then s
  else
    let s1 := { s with latched := s.latched.insert src }
    let s2 := inOrder (fun i t => t.bandAction src i) allBands s1
    let s3 := s2.applyIdleChanges
    s3.report (.trip (.source src) s3.latched)

/-! ### A failed parity check of a key slot (R86, R87) -/

/-- A slot after a failed check: a READY slot is POISONED with its material, any other stays (R86, R87). -/
def SlotState.poison : SlotState → SlotState
  | .ready m => .poisoned m
  | other => other

/-- Whether a latching of a source, taken now, would purge a slot: READY or POISONED before it, EMPTY after it (R106,
R132). -/
def State.latchPurges (s : State) (src : TripSource) (k : SlotId) : Bool :=
  ((s.slots[k]).isReady || (s.slots[k]).isPoisoned) && ((s.latch src).slots[k]).isEmpty

/-- Whether a band has a staged change that nothing but a drop keeps from applying: its open count is 0 (R65). -/
def State.changeFree (s : State) (i : BandId) : Bool :=
  match s.bands[i] with
  | none => false
  | some b => b.pending.isSome && (b.openCount == 0)

/-- Whether a band's staged change, as state `s` has it, names a slot that a latching taken in state `t` purges (R66,
R98). -/
def State.changePurged (s t : State) (src : TripSource) (i : BandId) : Bool :=
  match s.bands[i] with
  | none => false
  | some b => allSlots.any fun k => b.changeNames k && t.latchPurges src k

/-- The state in which a latching of the same event finds the part: the staged changes of bands at an open count of 0
have applied, in increasing order of band index, but for those of the bands kept back, and the purges without a holder
have drained (R41, R65, R87, log 23). -/
def State.aheadOf (s : State) (kept : List BandId) : State :=
  (inOrder (fun i t => if kept.contains i then t else t.applyPending i) allBands s).drainIdle none

/-- Whether one more staged change is kept back from a latching of the same event: the latching purges a slot it names
as things stand, and with it kept back too it purges a slot that it names, and one that each other kept change names, so
that each of them is dropped (R66, log 32). -/
def State.mayKeepBack (s : State) (src : TripSource) (kept : List BandId) (i : BandId) : Bool :=
  s.changeFree i && !kept.contains i && s.changePurged (s.aheadOf kept) src i &&
  (i :: kept).all fun j => (s.aheadOf (i :: kept)).changePurged (s.aheadOf (i :: kept)) src j

/-- Keep back one staged change after another, the lowest band first, until none is left to keep back. The first
argument bounds their number; the number of bands is always enough. -/
def State.keepBack (s : State) (src : TripSource) : Nat → List BandId → List BandId
  | 0, kept => kept
  | fuel + 1, kept =>
    match allBands.find? fun i => s.mayKeepBack src kept i with
    | none => kept
    | some i => s.keepBack src fuel (i :: kept)

/-- The bands whose staged changes a latching of the same event drops, and which therefore do not apply ahead of it
(R66, log 32). -/
def State.keptBack (s : State) (src : TripSource) : List BandId := s.keepBack src 32 []

/-- A parity check that fails at a sector start (R86, R87): the slot is POISONED, or stays PURGING; its holders are cut
with KEY_FAULT, in an order the spec does not give (log 6); the staged changes of the bands freed apply and purges drain
(R41, R42, log 23); KEYFAULT latches, and its actions find the bands as the changes left them (R129, R135); a KEYFAULT
event is reported with the holder count the slot had. A staged change that the latching drops, by a purge of a slot it
names, does not apply, since R66 drops it where one event frees its band and purges its slot (log 32). Where KEYFAULT is
latched already there is no latching, and none is kept back. -/
def State.keyFault (s : State) (k : SlotId) : State :=
  let cut := (s.slots[k]).holders
  let s1 := s.setSlot k { s.slots[k] with state := (s.slots[k]).state.poison }
  let s2 := inAnyOrder (fun id t => t.endContext id .keyFault) (s1.holdersOf k) s1
  let s3 := s2.aheadOf (s2.keptBack .keyfault)
  (s3.latch .keyfault).report (.keyfault (.keySlot k) cut)

/-! ### TRIP-FORCE and TRIP-CLEAR (R136, R137) -/

/-- TRIP-FORCE taken (R136): SOFT latches if it is not latched, then the REPLY carries the latched set. -/
def takeTripForce (tag : Byte) (body : Body Unit) (s : State) : State :=
  match body with
  | .wrongLength _ =>
    s.reserve.reply tag RequestCode.tripForce.byte .badRequest (.latched SourceSet.empty)
  | .fields _ =>
    let s1 := s.reserve.latch .soft
    s1.reply tag RequestCode.tripForce.byte .ok (.latched s1.latched)

/-- TRIP-CLEAR taken (R137): a mask outside the sources is refused with BAD_REQUEST, PLOCK named while its line
state is asserted with STILL_ASSERTED; otherwise the sources of the mask leave the set. The REPLY carries the
latched set whatever its status (R157). -/
def takeTripClear (tag : Byte) (body : Body Byte) (s : State) : State :=
  match body with
  | .wrongLength _ => s.reserve.reply tag RequestCode.tripClear.byte .badRequest (.latched s.latched)
  | .fields f =>
    match sourceSetOf f with
    | none => s.reserve.reply tag RequestCode.tripClear.byte .badRequest (.latched s.latched)
    | some mask =>
      match firstFailing [(mask.plock && s.plock, ReplyStatus.stillAsserted)] with
      | some status => s.reserve.reply tag RequestCode.tripClear.byte status (.latched s.latched)
      | none =>
        { s.reserve with latched := s.latched.diff mask }.reply tag RequestCode.tripClear.byte .ok
          (.latched (s.latched.diff mask))

end Sys2Proof.Machine
end

