-- ==== Sys2Proof/Machine/Keys.lean ====
section
/-! DEFINITION. The key store's requests and events: WRAP-LOAD (R75), KEY-LOAD (R76, R77), the unwrap's completion and abandonment (R79 to R81), QUERY-SLOT (R91), damage in storage (R84), KEY-PURGE (R95), PURGE-ALL (R107, R108) and SET-GRACE (R105). -/

namespace Sys2Proof.Machine

/-! ### WRAP-LOAD (R75) -/

/-- An accepted WRAP-LOAD: the wrap slot is LOADED with the key and fresh parity bits (R75). -/
def State.loadWrap (s : State) (w : WrapId) (key : BitVec 256) : State :=
  s.setWrap w (.loaded (storeWords 8 key))

/-- The ordered checks of WRAP-LOAD for a wrap slot in range (R75). -/
def State.wrapLoadRefusal (s : State) (w : WrapId) : Option ReplyStatus :=
  firstFailing [(s.life == .online, .wrongState), (s.wrapInUse w, .busy)]

/-- WRAP-LOAD taken (R75). -/
def takeWrapLoad (tag : Byte) (body : Body WrapLoadFields) (s : State) : State :=
  let refuse := fun status => s.reserve.reply tag RequestCode.wrapLoad.byte status .none
  match body with
  | .wrongLength _ => refuse .badRequest
  | .fields f =>
    match wrapOf f.wrapSlot with
    | none => refuse .badRequest
    | some w =>
      match s.wrapLoadRefusal w with
      | some status => refuse status
      | none => (s.reserve.loadWrap w f.key).reply tag RequestCode.wrapLoad.byte .ok .none

/-! ### KEY-LOAD (R76, R77) -/

/-- The ordered checks of KEY-LOAD for slot numbers in range (R76). -/
def State.keyLoadRefusal (s : State) (k : SlotId) (w : WrapId) : Option ReplyStatus :=
  firstFailing [
    (!(s.slots[k]).isEmpty, .slotBusy),
    (!(s.wraps[w]).isLoaded, .noWrap),
    (s.bankBusy (bankOf k), .bankBusy)]

/-- An accepted KEY-LOAD: the slot is LOADING and its bank busy; the unwrap reads the blob and the wrap slot's words
at acceptance (R77, log 13). -/
def State.startLoad (s : State) (k : SlotId) (w : WrapId) (words : WrapWords) (blob : BitVec 576)
    (tag : Byte) : State :=
  s.setSlot k { s.slots[k] with
    state := .loading
      { wrapSlot := w, words := words, blob := blob, owed := some tag, timeLeft := Config.unwrapBound } }

/-- KEY-LOAD taken (R76, R77): a refusal is answered at once, an accepted load when it ends. -/
def takeKeyLoad (tag : Byte) (body : Body KeyLoadFields) (s : State) : State :=
  let refuse := fun status => s.reserve.reply tag RequestCode.keyLoad.byte status (.keyLoad 0 0)
  match body with
  | .wrongLength _ => refuse .badRequest
  | .fields f =>
    match slotOf f.keySlot, wrapOf f.wrapSlot with
    | some k, some w =>
      match s.keyLoadRefusal k w with
      | some status => refuse status
      | none =>
        match s.wraps[w] with
        | .loaded words => s.reserve.startLoad k w words f.blob tag
        | .faulty words => s.reserve.startLoad k w words f.blob tag
        | .empty => refuse .noWrap
    | _, _ => refuse .badRequest

/-! ### The unwrap (R78) -/

/-- The key material of a blob in wrapped form: its bytes 0 to 63 (11.4). -/
def wrappedPart (blob : BitVec 576) : BitVec 512 := blob.extractLsb' 0 512

/-- The integrity value of a blob, which the unwrap checks: its bytes 64 to 71 (11.4). -/
def integrityPart (blob : BitVec 576) : BitVec 64 := blob.extractLsb' 512 64

/-- Wrapped key material with one byte altered: byte `i` exclusive-or `d` (R78). -/
def alteredAt (wrapped : BitVec 512) (i : Fin 64) (d : Byte) : BitVec 512 :=
  wrapped ^^^ (d.setWidth 512 <<< (8 * i.val))

/-- All wrapped key material that differs from the given one in exactly one byte. -/
def alteredMaterials (wrapped : BitVec 512) : List (BitVec 512) :=
  (List.finRange 64).flatMap fun i => (List.range 255).map fun d => alteredAt wrapped i (BitVec.ofNat 8 (d + 1))

/-- Wrapped key material does not go with an integrity value: nobody made it, or it was made with another value. -/
def notMadeWith (integrity : BitVec 64) (wrapped : BitVec 512) : Bool :=
  (Config.madeOf wrapped).all fun made => made.integrity != integrity

/-- The unwrap: a fixed function of blob and wrapping key, to 64 bytes of key material or an integrity failure
(`none`). It fails for another wrapping key than the one the blob was made under (R78), for another integrity value than
the one that goes with the wrapped key material, however it differs (11.4), and for a blob of which one byte was altered
(R78, 11.4; log 5). Every function with these three properties has this form, so beside them its results stay free. -/
def unwrap (blob : BitVec 576) (key : BitVec 256) : Option (BitVec 512) :=
  match Config.madeOf (wrappedPart blob) with
  | none => none
  | some made =>
    if made.key = key ∧ made.integrity = integrityPart blob ∧
        (alteredMaterials (wrappedPart blob)).all (notMadeWith (integrityPart blob)) = true then some made.material
    else none

/-! ### The end of a load (R79 to R81) -/

/-- A wrap slot whose words failed their check: FAULTY, its words kept (R74, R80). -/
def WrapSlot.fault : WrapSlot → WrapSlot
  | .loaded words => .faulty words
  | .faulty words => .faulty words
  | .empty => .empty

/-- The slot after a load that gives no key: EMPTY, its generation unchanged (R79, R81). -/
def State.endLoad (s : State) (k : SlotId) : State := s.setSlot k { s.slots[k] with state := .empty }

/-- The effects of R80 on the latched set and the reply queue: the deferred reply and the latching of KEYFAULT. The
spec gives no order between the reply and the replies the latching may append: where it appends some, the order is
free (log 14). -/
def State.wrapFaultReply (s : State) (owed : Option Byte) (generation : BitVec 16) : State :=
  let pay := fun (t : State) => t.payReply owed .keyLoad .wrapFault (.keyLoad 0 generation)
  if (s.latch .keyfault).replies = s.replies then pay (s.latch .keyfault)
  else inAnyOrder (fun first t => if first then pay t else t.latch .keyfault) [true, false] s

/-- The outcome of an unwrap whose words passed: WRAP_INVALID, KEY_WEAK, or READY with the material stored under
fresh parity bits and the generation raised by 1 modulo 65536 (R79). -/
def State.unwrapOutcome (s : State) (k : SlotId) (owed : Option Byte) (result : Option (BitVec 512)) : State :=
  let g := (s.slots[k]).generation
  match result with
  | none => (s.endLoad k).payReply owed .keyLoad .wrapInvalid (.keyLoad 0 g)
  | some m =>
    if m.extractLsb' 0 256 = m.extractLsb' 256 256 then
      (s.endLoad k).payReply owed .keyLoad .keyWeak (.keyLoad 0 g)
    else
      (s.setSlot k { s.slots[k] with generation := g + 1, state := .ready (storeWords 16 m) }).payReply owed
        .keyLoad .ok (.keyLoad (slotByte k) (g + 1))

/-- The completion of a load in progress by the ordered tests of R79; a wrap slot that failed its parity check has
the effects of R80. A slot that is not LOADING is left as it is. -/
def State.completeLoad (s : State) (k : SlotId) : State :=
  match (s.slots[k]).state with
  | .loading l =>
    if allPass l.words then s.unwrapOutcome k l.owed (unwrap l.blob (wrapKey l.words))
    else
      let s1 := (s.endLoad k).setWrap l.wrapSlot (s.wraps[l.wrapSlot]).fault
      (s1.wrapFaultReply l.owed (s.slots[k]).generation).report (.keyfault (.wrapSlot l.wrapSlot) 0)
  | _ => s

/-- The abandonment of a load in progress: EMPTY, the bank free, the KEY-LOAD answered ABANDONED with its slot number
(R81, R157). -/
def State.abandonLoad (s : State) (k : SlotId) : State :=
  match (s.slots[k]).state with
  | .loading l => (s.endLoad k).payReply l.owed .keyLoad .abandoned (.keyLoad (slotByte k) 0)
  | _ => s

/-! ### QUERY-SLOT (R91) -/

/-- The code of a slot state (11.5). -/
def SlotState.code : SlotState → Byte
  | .empty => 0
  | .loading _ => 1
  | .ready _ => 2
  | .purging _ _ => 3
  | .poisoned _ => 4

/-- The grace remaining of a PURGING slot, 0 in every other state (R91). -/
def SlotState.graceRemaining : SlotState → Nat
  | .purging _ a => a.grace
  | _ => 0

/-- What QUERY-SLOT reports of a slot (R91). -/
def KeySlot.describe (v : KeySlot) : SlotReport :=
  { state := v.state.code, generation := v.generation, holders := countByte v.holders,
    grace := BitVec.ofNat 32 v.state.graceRemaining }

/-- QUERY-SLOT taken (R91). -/
def takeQuerySlot (tag : Byte) (body : Body Byte) (s : State) : State :=
  let refuse := s.reserve.reply tag RequestCode.querySlot.byte .badRequest (.slot {})
  match body with
  | .wrongLength _ => refuse
  | .fields f =>
    match slotOf f with
    | none => refuse
    | some k => s.reserve.reply tag RequestCode.querySlot.byte .ok (.slot (s.slots[k]).describe)

/-! ### Damage in storage (R84) -/

/-- A stored word with one bit inverted: bit 0 to 31 of the word, or its parity bit (R84). -/
def StoredWord.invert (w : StoredWord) (bit : Fin 33) : StoredWord :=
  if bit.val < 32 then { w with word := w.word ^^^ (1#32 <<< bit.val) } else { w with parity := !w.parity }

/-- Words with one bit of one of them inverted. -/
def invertAt {n : Nat} (v : Vector StoredWord n) (i : Fin n) (bit : Fin 33) : Vector StoredWord n :=
  v.set i ((v[i]).invert bit)

/-- Damage to a stored bit of a key slot in READY, PURGING or POISONED; no other state stores one (R84). -/
def SlotState.damage (i : Fin 16) (bit : Fin 33) : SlotState → SlotState
  | .ready m => .ready (invertAt m i bit)
  | .purging m a => .purging (invertAt m i bit) a
  | .poisoned m => .poisoned (invertAt m i bit)
  | .empty => .empty
  | .loading l => .loading l

/-- Damage to a stored bit of a wrap slot in LOADED or FAULTY (R84). -/
def WrapSlot.damage (i : Fin 8) (bit : Fin 33) : WrapSlot → WrapSlot
  | .loaded w => .loaded (invertAt w i bit)
  | .faulty w => .faulty (invertAt w i bit)
  | .empty => .empty

/-- The event of damage (R84). -/
def State.damage (s : State) : BitLocation → State
  | .key k i bit => s.setSlot k { s.slots[k] with state := (s.slots[k]).state.damage i bit }
  | .wrap w i bit => s.setWrap w ((s.wraps[w]).damage i bit)

/-! ### KEY-PURGE, PURGE-ALL, SET-GRACE (R95, R105, R107) -/

/-- The cause of a purge begun by KEY-PURGE (R94). -/
def State.requestCause (s : State) (k : SlotId) : PurgeCause :=
  if (s.failing k).isEmpty then .request else .migrateFail

/-- KEY-PURGE taken (R95): decided by the state of the named slot. -/
def takeKeyPurge (tag : Byte) (body : Body Byte) (s : State) : State :=
  let answer := fun (t : State) status result => t.reply tag RequestCode.keyPurge.byte status result
  match body with
  | .wrongLength _ => answer s.reserve .badRequest (.keyPurge 0 0 0)
  | .fields f =>
    match slotOf f with
    | none => answer s.reserve .badRequest (.keyPurge 0 0 0)
    | some k =>
      match (s.slots[k]).state with
      | .empty => answer s.reserve .ok (.keyPurge (slotByte k) 0 0)
      | .loading _ => answer (s.reserve.abandonLoad k) .ok (.keyPurge (slotByte k) 0 0)
      | .ready _ => s.reserve.beginPurge false k (s.requestCause k) (some tag) s.graceSetting
      | .poisoned _ => s.reserve.beginPurge false k (s.requestCause k) (some tag) s.graceSetting
      | .purging _ _ => answer s.reserve .busy (.keyPurge 0 0 0)

/-- Step 4 of R107 on one slot: a slot in READY, PURGING or POISONED is erased, an owed KEY-PURGE reply is appended
with the counts of its account, and a PURGE event with cause ALL is reported; for a READY or POISONED slot it
counts the holders cut, those it had before step 3 (R108). -/
def State.purgeAllSlot (holdersBefore : SlotId → Nat) (k : SlotId) (s : State) : State :=
  match (s.slots[k]).state with
  | .ready _ => (s.erase k).report (.purge k .all 0 (holdersBefore k))
  | .poisoned _ => (s.erase k).report (.purge k .all 0 (holdersBefore k))
  | .purging _ a =>
    ((s.erase k).payReply a.owed .keyPurge .ok
      (.keyPurge (slotByte k) (countByte a.drained) (countByte a.cut))).report
      (.purge k .all a.drained a.cut)
  | .empty => s
  | .loading _ => s

/-- Steps 1 to 7 of PURGE-ALL, in order (R107). -/
def State.purgeAll (s : State) : State :=
  let s1 := inOrder (fun i t => t.dropPending i) allBands s
  let s2 := inOrder (fun k t => t.abandonLoad k) allSlots s1
  let s3 := s2.cutAll .keyPurged allContexts
  let s4 := inOrder (State.purgeAllSlot fun k => (s2.slots[k]).holders) allSlots s3
  { s4 with
    wraps := Vector.replicate 4 .empty
    bands := Vector.replicate 32 none
    life := .prepare }

/-- PURGE-ALL taken (R107): its REPLY is appended at the end of the event. -/
def takePurgeAll (tag : Byte) (body : Body Unit) (s : State) : State :=
  match body with
  | .wrongLength _ => s.reserve.reply tag RequestCode.purgeAll.byte .badRequest .none
  | .fields _ => s.reserve.purgeAll.reply tag RequestCode.purgeAll.byte .ok .none

/-- SET-GRACE taken (R105): a value above 10,000,000 is clamped, and the REPLY carries the value taken. -/
def takeSetGrace (tag : Byte) (body : Body (BitVec 32)) (s : State) : State :=
  match body with
  | .wrongLength _ => s.reserve.reply tag RequestCode.setGrace.byte .badRequest (.grace 0)
  | .fields v =>
    { s.reserve with graceSetting := min v.toNat Config.graceMax }.reply tag RequestCode.setGrace.byte .ok
      (.grace (BitVec.ofNat 32 (min v.toNat Config.graceMax)))

end Sys2Proof.Machine
end

