-- ==== Sys2Proof/Machine/BandRequests.lean ====
section
/-! DEFINITION. The band unit's requests: BAND-SET (R59 to R63), BAND-LOCK (R67, R68), QUERY-BAND (R69) and MIGRATE-START (R111, R112). -/

namespace Sys2Proof.Machine

/-! ### BAND-SET (R63) -/

/-- A band with a change staged (R63). -/
def State.stage (s : State) (i : BandId) (change : Change) (tag : Byte) : State :=
  s.setBand i ((s.bands[i]).map fun b => { b with pending := some { change := change, owed := some tag } })

/-- Whether a band has open contexts (R63). -/
def State.bandOpen (s : State) (i : BandId) : Bool :=
  match s.bands[i] with
  | none => false
  | some b => b.openCount != 0

/-- BAND-SET taken (R59, R60, R63): refused at once, applied at once where the band's open count is 0, staged
otherwise. -/
def takeBandSet (tag : Byte) (body : Body BandSetFields) (s : State) : State :=
  let answer := fun (t : State) status band => t.reply tag RequestCode.bandSet.byte status (.band band)
  match body with
  | .wrongLength _ => answer s.reserve .badRequest 0
  | .fields f =>
    match bandSetOf f with
    | none => answer s.reserve .badRequest 0
    | some (i, new) =>
      match s.bandSetRefusal i new with
      | some status => answer s.reserve status 0
      | none =>
        if s.bandOpen i then s.reserve.stage i (.bandSet new) tag
        else answer (s.reserve.applyBandSet i new) .ok (bandByte i)

/-! ### BAND-LOCK (R67, R68) -/

/-- Whether a BAND-LOCK would clear a lock that is set. -/
def BandFields.clears (f : BandFields) (read write : Bool) : Bool :=
  (f.readLock && !read) || (f.writeLock && !write)

/-- Band fields with the locks given. -/
def BandFields.withLocks (f : BandFields) (read write : Bool) : BandFields :=
  { f with readLock := read, writeLock := write }

/-- The staged locks under a BAND-LOCK: the given values, but a staged lock that is set stays set while the gate
holds the band (R67, log 15). -/
def Pending.withLocks (p : Pending) (gated : Bool) (read write : Bool) : Pending :=
  match p.change with
  | .bandSet (some f) =>
    { p with change := .bandSet (some
        (f.withLocks (read || (gated && f.readLock)) (write || (gated && f.writeLock)))) }
  | .bandSet none => p
  | .migrateStart _ _ => p

/-- A band under an accepted BAND-LOCK (R67). -/
def Band.withLocks (b : Band) (gated : Bool) (read write : Bool) : Band :=
  { b with fields := b.fields.withLocks read write
           pending := b.pending.map fun p => p.withLocks gated read write }

/-- BAND-LOCK taken (R67, R68). -/
def takeBandLock (tag : Byte) (body : Body BandLockFields) (s : State) : State :=
  let answer := fun (t : State) status band => t.reply tag RequestCode.bandLock.byte status (.band band)
  match body with
  | .wrongLength _ => answer s.reserve .badRequest 0
  | .fields f =>
    match bandOf f.band, locksOf f.locks with
    | some i, some (read, write) =>
      match s.bands[i] with
      | none => answer s.reserve .noBand 0
      | some b =>
        let gated := s.gateHolds b.fields.tripMask
        match firstFailing [(gated && b.fields.clears read write, ReplyStatus.tripped)] with
        | some status => answer s.reserve status 0
        | none => answer (s.reserve.setBand i (some (b.withLocks gated read write))) .ok (bandByte i)
    | _, _ => answer s.reserve .badRequest 0

/-! ### QUERY-BAND (R69) -/

/-- The code of a format (R3). -/
def Format.code : Format → Byte
  | .f512 => 0
  | .f520 => 1
  | .f4096 => 2
  | .f4104 => 3
  | .f4160 => 4

/-- The code of a meta mode (11.5). -/
def MetaMode.code : MetaMode → Byte
  | .ciphered => 0
  | .clear => 1

/-- The code of a latched action (11.5). -/
def LatchedAction.code : LatchedAction → Byte
  | .none => 0
  | .lock => 1
  | .cut => 2
  | .purge => 3

/-- The code of a PFAIL response (11.5). -/
def PfailResponse.code : PfailResponse → Byte
  | .none => 0
  | .hold => 1

/-- The code of a pending kind (11.5). -/
def Band.pendingKind (b : Band) : Byte :=
  match b.pending with
  | none => 0
  | some p =>
    match p.change with
    | .bandSet _ => 1
    | .migrateStart _ _ => 2

/-- The namespace a band entry reports: the one a base band's index implies, a locking band's own, 0 for an UNUSED
locking band (R69). -/
def reportedNs (i : BandId) (b : Option Band) : Byte :=
  if isBase i then BitVec.ofNat 8 (i.val + 1)
  else
    match b with
    | none => 0
    | some b =>
      match b.fields.extent with
      | .locking ns _ _ => BitVec.ofNat 8 (ns.val + 1)
      | .base _ _ _ => 0

/-- The extent fields of a report: format, meta mode, extent A, extent B. A field that the kind does not hold is 0
(R69, 11.3, log 29). -/
def Extent.describe (e : Extent) (r : BandReport) : BandReport :=
  match e with
  | .base size f m => { r with format := f.code, metaMode := m.code, extentA := BitVec.ofNat 64 size }
  | .locking _ first last =>
    { r with extentA := BitVec.ofNat 64 first, extentB := BitVec.ofNat 64 last }

/-- The binding fields of a report (R69). -/
def describeBinding (b : Option Binding) (r : BandReport) : BandReport :=
  match b with
  | none => r
  | some x => { r with bindingPresent := 1, slot := slotByte x.slot, generation := x.generation }

/-- The salt fields of a report (R69). -/
def describeSalt (v : Option (BitVec 32)) (r : BandReport) : BandReport :=
  match v with
  | none => r
  | some x => { r with saltPresent := 1, salt := x }

/-- The migration fields of a report (R69). -/
def describeMigration (v : Option Migration) (r : BandReport) : BandReport :=
  match v with
  | none => r
  | some m =>
    { r with recordPresent := 1, target := slotByte m.target, targetGeneration := m.targetGeneration,
             w := BitVec.ofNat 64 m.w }

/-- The writer fields of a report (R69). -/
def describeWriter (v : Option CtxId) (r : BandReport) : BandReport :=
  match v with
  | none => r
  | some id => { r with writerPresent := 1, writer := BitVec.ofNat 8 id.val }

/-- What QUERY-BAND reports of an entry (R69). -/
def describeBand (i : BandId) (entry : Option Band) : BandReport :=
  match entry with
  | none => { state := 0, namespaceNumber := reportedNs i none }
  | some b =>
    describeWriter b.writer (describeMigration b.migration (describeSalt b.fields.salt
      (describeBinding b.fields.binding (b.fields.extent.describe {
        state := 1
        namespaceNumber := reportedNs i (some b)
        locks := bitByte b.fields.readLock 0 + bitByte b.fields.writeLock 1
        tripMask := b.fields.tripMask.byte
        latchedAction := b.fields.action.code
        pfailResponse := b.fields.pfail.code
        openCount := countByte b.openCount
        pendingKind := b.pendingKind }))))

/-- QUERY-BAND taken (R69). -/
def takeQueryBand (tag : Byte) (body : Body Byte) (s : State) : State :=
  let refuse := s.reserve.reply tag RequestCode.queryBand.byte .badRequest (.bandReport {})
  match body with
  | .wrongLength _ => refuse
  | .fields f =>
    match bandOf f with
    | none => refuse
    | some i => s.reserve.reply tag RequestCode.queryBand.byte .ok (.bandReport (describeBand i s.bands[i]))

/-! ### MIGRATE-START (R111, R112) -/

/-- The ordered checks of MIGRATE-START for numbers in range (R111). -/
def State.migrateStartRefusal (s : State) (i : BandId) (target : SlotId) (generation : BitVec 16) :
    Option ReplyStatus :=
  let present := s.bands[i]
  let binding := present.bind (·.fields.binding)
  firstFailing [
    ((present.bind (·.pending)).isSome, .busy),
    ((present.bind (·.migration)).isSome, .migrating),
    (binding.isNone, .noKey),
    (binding.any fun x => x.slot == target, .badRequest),
    (!(s.slots[target]).isReady, .notReady),
    ((s.slots[target]).generation != generation, .genMismatch)]

/-- MIGRATE-START taken (R111, R112): refused at once, applied at once where the band's open count is 0, staged
otherwise. The REPLY of an application carries the band and the watermark as placed (R113, log 16). -/
def takeMigrateStart (tag : Byte) (body : Body MigrateStartFields) (s : State) : State :=
  let answer := fun (t : State) status band w =>
    t.reply tag RequestCode.migrateStart.byte status (.migrateStart band w)
  match body with
  | .wrongLength _ => answer s.reserve .badRequest 0 0
  | .fields f =>
    match bandOf f.band, slotOf f.target with
    | some i, some target =>
      match s.migrateStartRefusal i target f.generation with
      | some status => answer s.reserve status 0 0
      | none =>
        if s.bandOpen i then s.reserve.stage i (.migrateStart target f.generation) tag
        else
          answer (s.reserve.applyMigrateStart i target f.generation) .ok (bandByte i)
            (BitVec.ofNat 64 (s.startWatermark i))
    | _, _ => answer s.reserve .badRequest 0 0

end Sys2Proof.Machine
end

