-- ==== Sys2Proof/Machine/Transfer.lean ====
section
/-! DEFINITION. The transfer unit: OPEN and its six checks (R24 to R30), key choice (R34, R116, R118, R119), the taking of fragments (R31 to R38), completion (R39, R120), ABORT (R44) and QUERY-CONTEXT (R47). -/

namespace Sys2Proof.Machine

/-! ### OPEN (R24 to R30) -/

/-- The band's lock for a direction (R27). -/
def BandFields.lockFor (f : BandFields) : Direction → Bool
  | .read => f.readLock
  | .write => f.writeLock

/-- Whether a band's current slot, or the target of its migration record, is POISONED (R27). -/
def State.bandPoisoned (s : State) (b : Band) : Bool :=
  (b.fields.binding.any fun x => (s.slots[x.slot]).isPoisoned) ||
  (b.migration.any fun r => (s.slots[r.target]).isPoisoned)

/-- The conditions of the fifth check on one band, in order (R27). -/
def State.bandRefusal (s : State) (dir : Direction) (b : Band) : Option TransferStatus :=
  firstFailing [
    (b.pending.isSome, .bandChanging),
    (b.fields.binding.isNone, .noKey),
    (s.bandPoisoned b, .keyFault),
    (b.fields.lockFor dir, .locked),
    ((dir == .write) && s.pfail && (b.fields.pfail == .hold), .powerHold)]

/-- The fifth check: the first failure, in the first band that has one, in the order of the bands' first segments
(R27). -/
def State.spansRefusal (s : State) (dir : Direction) (spans : List Span) : Option TransferStatus :=
  spans.findSome? fun g => (s.bands[g.band]).bind (s.bandRefusal dir)

/-- Whether a migrate OPEN meets the sixth check: one segment, of a band with a migration record, and by direction
its first LBA at or above W, or at W with no open migrate writer (R28). -/
def State.migrateAllowed (s : State) (dir : Direction) (first : Nat) (spans : List Span) : Bool :=
  match spans with
  | [g] =>
    match s.bands[g.band] with
    | none => false
    | some b =>
      match b.migration with
      | none => false
      | some r =>
        match dir with
        | .read => decide (r.w ≤ first)
        | .write => decide (first = r.w) && b.writer.isNone
  | _ => false

/-- The six ordered checks of an OPEN (R25 to R28): the status of the first that fails. -/
def State.openRefusal (s : State) (id : CtxId) (dir : Direction) (migrate : Bool) (ns : Option Ns)
    (first count : Nat) : Option TransferStatus :=
  if s.life = .prepare then some .notOnline
  else if (s.contexts[id]).isSome then some .ctxBusy
  else
    match ns with
    | none => some .noNamespace
    | some n =>
      match s.namespaceSize n with
      | none => some .noNamespace
      | some size =>
        if size < first + count then some .outOfRange
        else
          match s.spansRefusal dir (s.spans n first count) with
          | some status => some status
          | none =>
            if migrate && !s.migrateAllowed dir first (s.spans n first count) then some .migrateOrder
            else none

/-- A segment with the slots its band has at the OPEN (R29). An accepted OPEN names bound bands only (R27). -/
def State.segmentOf (s : State) (g : Span) : Segment :=
  { band := g.band
    first := g.first
    last := g.last
    current := (((s.bands[g.band]).bind (·.fields.binding)).map (·.slot)).getD 0
    target := ((s.bands[g.band]).bind (·.migration)).map (·.target) }

/-- The format and meta mode of a namespace: those of its base band (R3, R4, R29). -/
def State.formatOfNs (s : State) (ns : Ns) : Format × MetaMode :=
  match s.bands[baseBand ns] with
  | some b =>
    match b.fields.extent with
    | .base _ f m => (f, m)
    | .locking _ _ _ => (.f512, .ciphered)
  | none => (.f512, .ciphered)

/-- The record an accepted OPEN fills, in BOUNDARY (R29). -/
def State.newContext (s : State) (dir : Direction) (migrate : Bool) (ns : Ns) (first count : Nat) : Context :=
  { dir := dir
    migrate := migrate
    ns := ns
    first := first
    count := count
    format := (s.formatOfNs ns).1
    metaMode := (s.formatOfNs ns).2
    segments := (s.spans ns first count).map s.segmentOf
    sectorsDone := 0
    offset := 0
    residue := []
    progress := .boundary
    openTime := s.linkTime }

/-- OPEN taken (R24): refused by a refusal DONE in the DATA place its taking ensured, or accepted. An id byte above
63 makes the frame malformed (R145). -/
def takeOpen (ctx : Byte) (dir : Direction) (flags namespaceByte : Byte) (first : BitVec 48)
    (countMinusOne : BitVec 16) (s : State) : State :=
  match ctxOf ctx with
  | none => s.discard .malformed none
  | some id =>
    let migrate := flags.getLsbD 0
    let count := countMinusOne.toNat + 1
    match s.openRefusal id dir migrate (nsOf namespaceByte) first.toNat count with
    | some status => s.appendFront (.refusal id status)
    | none =>
      match nsOf namespaceByte with
      | none => s
      | some ns => s.acceptContext id (s.newContext dir migrate ns first.toNat count)

/-! ### Key choice (R34, R116 to R119) -/

/-- The segment whose first and last LBA enclose an LBA (R19). Every sector of a context lies in one (log 20). -/
def Context.segmentAt (c : Context) (lba : Nat) : Option Segment :=
  c.segments.find? fun g => decide (g.first ≤ lba) && decide (lba ≤ g.last)

/-- The slot of a sector in a segment (R116, R118, R119): a migrate READ takes the current slot, a migrate WRITE the
target; an ordinary context takes the current slot without a target or at L ≥ W, and the target at L < W or where
the band has no migration record. -/
def State.choose (s : State) (dir : Direction) (migrate : Bool) (g : Segment) (lba : Nat) : SlotId :=
  match g.target with
  | none => g.current
  | some target =>
    if migrate then
      match dir with
      | .read => g.current
      | .write => target
    else
      match (s.bands[g.band]).bind (·.migration) with
      | none => target
      | some r => if lba < r.w then target else g.current

/-- The slot a context's sector of an LBA takes now. -/
def State.slotFor (s : State) (c : Context) (lba : Nat) : SlotId :=
  match c.segmentAt lba with
  | none => 0
  | some g => s.choose c.dir c.migrate g lba

/-- The salt of the band that owns a context's sector (R6). -/
def State.saltFor (s : State) (c : Context) (lba : Nat) : Option (BitVec 32) :=
  match c.segmentAt lba with
  | none => none
  | some g => (s.bands[g.band]).bind (·.fields.salt)

/-- The fetch of a slot's material at a sector start: `none` where a word fails its parity check (R85). A slot
without material fails too; no open context holds one (R2, log 20). -/
def State.fetch (s : State) (k : SlotId) : Option Material :=
  match (s.slots[k]).state.material with
  | none => none
  | some m => if allPass m then some m else none

/-- The sector start of a record in BOUNDARY (R34): the slot, the tweak and the first mask; the failing slot where
the parity check fails (R35). A record inside a sector is as it is. -/
def State.startSector (s : State) (c : Context) : Except SlotId Context :=
  match c.progress with
  | .boundary =>
    let lba := c.first + c.sectorsDone
    let k := s.slotFor c lba
    match s.fetch k with
    | none => .error k
    | some m =>
      .ok { c with progress := .insector k (materialK1 m) 0
                    (firstMask (materialK2 m) (tweak c.ns lba (s.saltFor c lba))) }
  | _ => .ok c

/-! ### Processing a fragment (R33 to R38) -/

/-- One byte taken inside a sector (R33, R36): the record and the bytes released. At the sector's last offset the
sector is counted and the record returns to BOUNDARY. -/
def Context.takeByte (c : Context) (b : Byte) : Context × List Byte :=
  let p := placeByte c.dir c.format c.metaMode c.offset c.residue c.progress b
  if c.offset + 1 = c.format.sectorBytes then
    ({ c with sectorsDone := c.sectorsDone + 1, offset := 0, residue := [], progress := .boundary }, p.released)
  else ({ c with offset := c.offset + 1, residue := p.residue, progress := p.progress }, p.released)

/-- How the processing of a fragment ends: the record stays open, it completes (with overrun bytes left or not), or
a sector start's parity check fails. -/
inductive FragmentEnd where
  | more
  | complete (overrun : Bool)
  | keyFault (slot : SlotId)
  deriving DecidableEq, Repr

/-- A processed fragment: the record after it, the bytes it released in increasing offset order, and its end. -/
structure Fragment where
  ctx : Context
  released : List Byte
  stop : FragmentEnd
  deriving DecidableEq, Repr

/-- The bytes of a fragment taken one after another (R33): until they are used up, the last sector ends (R36, R38),
or a sector start fails (R35). -/
def State.takeBytes (s : State) : List Byte → Context → Fragment
  | [], c => { ctx := c, released := [], stop := .more }
  | b :: bs, c =>
    match s.startSector c with
    | .error k => { ctx := c, released := [], stop := .keyFault k }
    | .ok c1 =>
      let t := c1.takeByte b
      if t.1.sectorsDone = t.1.count then
        { ctx := t.1, released := t.2, stop := .complete !bs.isEmpty }
      else
        let rest := s.takeBytes bs t.1
        { rest with released := t.2 ++ rest.released }

/-- Append the output DATA frame of a fragment, where it released a byte, to the queue of the direction (R37). -/
def State.appendReleased (s : State) (id : CtxId) (dir : Direction) (bytes : List Byte) : State :=
  if bytes.isEmpty then s
  else
    match dir with
    | .write => s.appendBack (.data id bytes)
    | .read => s.appendFront (.data id bytes)

/-- The advance of W by a migrate writer that has completed with OK (R120): the greater of W and first + count,
placed, with an ADVANCE event. Without a migration record nothing moves. -/
def State.advance (s : State) (c : Context) : State :=
  match c.segments with
  | [] => s
  | g :: _ =>
    match (s.bands[g.band]).bind (·.migration) with
    | none => s
    | some r => s.moveWatermark g.band (s.placeFor g.band (max r.w (c.first + c.count))) true

/-- Completion (R39, R41): DONE and END with OK, the record FREE, a migrate writer's advance, then what follows from
the counts. -/
def State.complete (s : State) (id : CtxId) (c : Context) : State :=
  let s1 := s.endContext id .ok
  let s2 := if c.migrate ∧ c.dir = .write then s1.advance c else s1
  s2.settleCuts false none

/-- A fragment processed for an open context of its lane's direction (R33 to R39). -/
def State.processFragment (s : State) (id : CtxId) (c : Context) (bytes : List Byte) : State :=
  let f := s.takeBytes bytes c
  let s1 := (s.setContext id (some f.ctx)).appendReleased id c.dir f.released
  match f.stop with
  | .more => s1
  | .complete overrun =>
    let s2 := s1.complete id f.ctx
    if overrun then s2.discard .overrun (some id) else s2
  | .keyFault k => s1.keyFault k

/-- The direction of an inbound lane's data (R143). -/
def laneDir : InLane → Direction
  | .front => .write
  | .back => .read

/-- DATA taken (R31): a fragment of no byte is ignored (R145), a FREE record makes the frame STRAY, the other
direction WRONG_LANE; otherwise it is processed whole. An id byte above 63 or a fragment above 2048 bytes makes the
frame malformed (R145). -/
def takeData (lane : InLane) (ctx : Byte) (bytes : List Byte) (s : State) : State :=
  match ctxOf ctx with
  | none => s.discard .malformed none
  | some id =>
    if Config.fragmentMax < bytes.length then s.discard .malformed (some id)
    else if bytes.isEmpty then s
    else
      match s.contexts[id] with
      | none => s.discard .stray (some id)
      | some c =>
        if c.dir = laneDir lane then s.processFragment id c bytes else s.discard .wrongLane (some id)

/-! ### The banks a fragment needs (R32) -/

/-- The LBAs whose sectors start within a fragment's in-range bytes (R18, R32): the fragment's bytes are numbered
from sectors completed times S plus the offset; a sector starts at each multiple of S below count times S. -/
def Context.startingLbas (c : Context) (len : Nat) : List Nat :=
  let size := c.format.sectorBytes
  let b0 := c.sectorsDone * size + c.offset
  let b1 := min (b0 + len) (c.count * size)
  let k0 := (b0 + size - 1) / size
  let k1 := (b1 + size - 1) / size
  (List.range' k0 (k1 - k0)).map fun k => c.first + k

/-- Whether a DATA frame needs a bank that is busy (R32, R82): a stray or wrong-lane frame needs none. -/
def State.needsBusyBank (s : State) (lane : InLane) (ctx : Byte) (len : Nat) : Bool :=
  match (ctxOf ctx).bind fun id => s.contexts[id] with
  | none => false
  | some c =>
    decide (c.dir = laneDir lane) && (c.startingLbas len).any fun lba => s.bankBusy (bankOf (s.slotFor c lba))

/-! ### ABORT and malformed frames (R44, R145) -/

/-- ABORT taken (R44): an open context is cut with ABORTED, a FREE record makes the frame STRAY. -/
def takeAbort (ctx : Byte) (s : State) : State :=
  match ctxOf ctx with
  | none => s.discard .malformed none
  | some id =>
    match s.contexts[id] with
    | none => s.discard .stray (some id)
    | some _ => (s.endContext id .aborted).settleCuts false none

/-- A malformed frame taken (R145): discarded and counted, with its context id where it carries a readable one. -/
def takeMalformed (frame : List Byte) (s : State) : State := s.discard .malformed (malformedCtx frame)

/-! ### QUERY-CONTEXT (R47) -/

/-- The code of an open record's state (11.5). -/
def Progress.code : Progress → Byte
  | .boundary => 1
  | .insector _ _ _ _ => 2
  | .tailing _ _ _ _ _ => 3

/-- Whether a held block is present. -/
def Progress.holdsBlock : Progress → Bool
  | .tailing _ _ _ _ _ => true
  | _ => false

/-- The code of a direction in a report (11.5). -/
def directionCode : Direction → Byte
  | .write => 1
  | .read => 2

/-- What QUERY-CONTEXT reports of a record (R47). -/
def describeContext : Option Context → ContextReport
  | none => {}
  | some c =>
    { state := c.progress.code
      direction := directionCode c.dir
      flags := bitByte c.migrate 0
      namespaceNumber := BitVec.ofNat 8 (c.ns.val + 1)
      first := BitVec.ofNat 48 c.first
      countMinusOne := BitVec.ofNat 16 (c.count - 1)
      sectorsDone := BitVec.ofNat 16 c.sectorsDone
      offset := BitVec.ofNat 16 c.offset
      residueLength := countByte c.residue.length
      heldPresent := bitByte c.progress.holdsBlock 0
      segmentCount := countByte c.segments.length
      openTime := c.openTime }

/-- QUERY-CONTEXT taken (R47). -/
def takeQueryContext (tag : Byte) (body : Body Byte) (s : State) : State :=
  let refuse := s.reserve.reply tag RequestCode.queryContext.byte .badRequest (.context {})
  match body with
  | .wrongLength _ => refuse
  | .fields f =>
    match ctxOf f with
    | none => refuse
    | some id =>
      s.reserve.reply tag RequestCode.queryContext.byte .ok (.context (describeContext s.contexts[id]))

end Sys2Proof.Machine
end

