-- ==== Sys2Proof/Machine/Control.lean ====
section
/-! DEFINITION. The control unit's and the notice unit's requests: NOTICE-PERIOD (R168), NOTICE-ACK (R169), GO-ONLINE (R161), TIME-SET (R163), QUERY-STATUS (R164), and a REQUEST with an undefined code (R156). -/

namespace Sys2Proof.Machine

/-! ### Notices (R168, R169) -/

/-- An accepted NOTICE-PERIOD: the class's period takes the value, its counter is cleared (R168). -/
def State.setPeriod (s : State) (k : NoticeClass) (period : Nat) : State :=
  s.setClass k { s.classOf k with period := period, counter := 0 }

/-- NOTICE-PERIOD taken (R168): a value of 8 or more is clamped to 7. -/
def takeNoticePeriod (tag : Byte) (body : Body NoticePeriodFields) (s : State) : State :=
  let refuse := s.reserve.reply tag RequestCode.noticePeriod.byte .badRequest (.noticePeriod 0 0)
  match body with
  | .wrongLength _ => refuse
  | .fields f =>
    match classCodeOf f.noticeClass with
    | none => refuse
    | some k =>
      let period := min f.period.toNat Config.periodMax
      (s.reserve.setPeriod k period).reply tag RequestCode.noticePeriod.byte .ok
        (.noticePeriod f.noticeClass (countByte period))

/-- The acknowledgement of one class (R169): a clear flag and a NOTICE still in its slot change nothing; otherwise
the flag is cleared, and a class whose counter stands at a period of at least 1 queues its latest event anew. -/
def State.acknowledge (s : State) (k : NoticeClass) : State :=
  let c := s.classOf k
  if c.flag = false ∨ (s.noticeSlots[k.idx]).isSome then s
  else
    let s1 := s.setClass k { c with flag := false }
    match c.latest with
    | none => s1
    | some e => if c.period ≠ 0 ∧ c.counter = c.period then s1.queueNotice k e else s1

/-- The classes of an acknowledgement mask, in priority order; `none` for a mask with another member (R169,
R173). -/
def classMaskOf (mask : Byte) : Option (List NoticeClass) :=
  if mask.toNat ≤ 31 then some (NoticeClass.all.filter fun k => mask.getLsbD k.idx.val) else none

/-- The set of classes whose flags are set, as its mask byte (R169, 11.5). -/
def State.flaggedMask (s : State) : Byte :=
  NoticeClass.all.foldl (fun acc k => acc + bitByte (s.classOf k).flag k.idx.val) 0

/-- NOTICE-ACK taken (R169): the REPLY carries the classes whose flags are set afterwards. -/
def takeNoticeAck (tag : Byte) (body : Body Byte) (s : State) : State :=
  let refuse := s.reserve.reply tag RequestCode.noticeAck.byte .badRequest (.noticeAck 0)
  match body with
  | .wrongLength _ => refuse
  | .fields f =>
    match classMaskOf f with
    | none => refuse
    | some classes =>
      let s1 := inOrder (fun k t => t.acknowledge k) classes s.reserve
      s1.reply tag RequestCode.noticeAck.byte .ok (.noticeAck s1.flaggedMask)

/-! ### Life state, time, status (R161, R163, R164) -/

/-- The ordered checks of GO-ONLINE (R161). -/
def State.goOnlineRefusal (s : State) : Option ReplyStatus :=
  firstFailing [
    (s.life == .online, .wrongState),
    (!allWraps.any fun w => (s.wraps[w]).isLoaded, .noWrap)]

/-- GO-ONLINE taken (R161). -/
def takeGoOnline (tag : Byte) (body : Body Unit) (s : State) : State :=
  let answer := fun (t : State) status => t.reply tag RequestCode.goOnline.byte status .none
  match body with
  | .wrongLength _ => answer s.reserve .badRequest
  | .fields _ =>
    match s.goOnlineRefusal with
    | some status => answer s.reserve status
    | none => answer { s.reserve with life := .online } .ok

/-- TIME-SET taken (R163): link time becomes the value; the REPLY carries the one replaced. -/
def takeTimeSet (tag : Byte) (body : Body (BitVec 32)) (s : State) : State :=
  match body with
  | .wrongLength _ => s.reserve.reply tag RequestCode.timeSet.byte .badRequest (.time 0)
  | .fields v => { s.reserve with linkTime := v }.reply tag RequestCode.timeSet.byte .ok (.time s.linkTime)

/-- The code of a life state (11.5). -/
def Life.code : Life → Byte
  | .prepare => 0
  | .online => 1

/-- What QUERY-STATUS reports; the reservations in use are those of the state given, which already counts the
request's own (R164). -/
def State.describeStatus (s : State) : StatusReport :=
  { life := s.life.code
    latched := s.latched.byte
    lines := bitByte s.plock 0 + bitByte s.pfail 1
    openContexts := countByte s.openContexts
    discards := s.discards
    linkTime := s.linkTime
    grace := BitVec.ofNat 32 s.graceSetting
    reservations := countByte s.reservations }

/-- QUERY-STATUS taken (R164). -/
def takeQueryStatus (tag : Byte) (body : Body Unit) (s : State) : State :=
  match body with
  | .wrongLength _ => s.reserve.reply tag RequestCode.queryStatus.byte .badRequest (.status {})
  | .fields _ =>
    s.reserve.reply tag RequestCode.queryStatus.byte .ok (.status s.reserve.describeStatus)

/-- A REQUEST with an undefined code taken (R156): answered BAD_REQUEST, the code echoed as received, with no result
field (R173). -/
def takeUndefined (tag code : Byte) (s : State) : State := s.reserve.reply tag code .badRequest .none

end Sys2Proof.Machine
end

