-- ==== Sys2Proof/Machine/Link.lean ====
section
/-! DEFINITION. The port units: presenting an inbound frame and holding its lane (R143 to R146), testing held head frames again (R146, R152), choosing and starting a sending (R151), and its completion (R152). -/

namespace Sys2Proof.Machine

/-! ### Taking (R143 to R146) -/

/-- The inbound lane a frame arrives on (R143). -/
def frameLane : Instr → InLane
  | .data lane _ _ => lane
  | .malformedFrame lane _ => lane
  | _ => .front

/-- Whether a reply reservation can be made (R155). -/
def State.reservationFree (s : State) : Bool := decide (s.reservations < Config.maxReservations)

/-- The conditions of an OPEN (R146). An OPEN with a context id above 63 is malformed and taken at once (R145). -/
def State.openTakeable (s : State) (ctx : Byte) : Bool :=
  match ctxOf ctx with
  | none => true
  | some id => s.frontPlaceFree && (s.donePlaces[id] != .filled) && (s.endPlaces[id] != .filled)

/-- The conditions of a DATA frame (R32, R146). A malformed one and one of zero length are taken at once (R145). -/
def State.dataTakeable (s : State) (lane : InLane) (ctx : Byte) (len : Nat) : Bool :=
  (ctxOf ctx).isNone || decide (Config.fragmentMax < len) || (len == 0) ||
  (s.pairedPlaceFree lane && !s.needsBusyBank lane ctx len)

/-- The conditions under which a head frame is taken (R146). A command that is no frame stands at no head. -/
def State.takeable (s : State) : Instr → Bool
  | .openFrame ctx _ _ _ _ _ => s.openTakeable ctx
  | .data lane ctx bytes => s.dataTakeable lane ctx bytes.length
  | .abort _ => true
  | .malformedFrame _ _ => true
  | _ => s.reservationFree

/-- The taking of a frame: the event in which the owning block acts on it. A command that is no frame is not
taken. -/
def takeFrame : Instr → State → State
  | .openFrame ctx dir flags ns first countMinusOne => takeOpen ctx dir flags ns first countMinusOne
  | .data lane ctx bytes => takeData lane ctx bytes
  | .abort ctx => takeAbort ctx
  | .malformedFrame _ frame => takeMalformed frame
  | .undefinedRequestCode tag code _ => takeUndefined tag code
  | .wrapLoad tag body => takeWrapLoad tag body
  | .keyLoad tag body => takeKeyLoad tag body
  | .querySlot tag body => takeQuerySlot tag body
  | .keyPurge tag body => takeKeyPurge tag body
  | .purgeAll tag body => takePurgeAll tag body
  | .setGrace tag body => takeSetGrace tag body
  | .bandSet tag body => takeBandSet tag body
  | .bandLock tag body => takeBandLock tag body
  | .queryBand tag body => takeQueryBand tag body
  | .migrateStart tag body => takeMigrateStart tag body
  | .tripForce tag body => takeTripForce tag body
  | .tripClear tag body => takeTripClear tag body
  | .noticePeriod tag body => takeNoticePeriod tag body
  | .noticeAck tag body => takeNoticeAck tag body
  | .queryContext tag body => takeQueryContext tag body
  | .goOnline tag body => takeGoOnline tag body
  | .timeSet tag body => takeTimeSet tag body
  | .queryStatus tag body => takeQueryStatus tag body
  | _ => id

/-- The head frame of an inbound lane (R143). -/
def State.headOf (s : State) : InLane → Option Instr
  | .front => s.frontHead
  | .back => s.backHead

/-- Write the head of an inbound lane. -/
def State.setHead (s : State) (lane : InLane) (frame : Option Instr) : State :=
  match lane with
  | .front => { s with frontHead := frame }
  | .back => { s with backHead := frame }

/-- Test the head frame of a lane and take it if its conditions hold (R146, R152). -/
def State.tryHead (s : State) (lane : InLane) : State :=
  match s.headOf lane with
  | none => s
  | some frame => if s.takeable frame then takeFrame frame (s.setHead lane none) else s

/-- Whether a lane's head frame would be taken now. -/
def State.headReady (s : State) (lane : InLane) : Bool :=
  match s.headOf lane with
  | none => false
  | some frame => s.takeable frame

/-- At the end of an event the held head frames are tested again (R146, R152). Where both could be taken the spec
lets either be first (R83, R152): the order is free (log 6). Where one could, its taking may free what the other
waits for, so the other is tested after it (log 8). -/
def State.settle (s : State) : State :=
  if s.headReady .front && s.headReady .back then
    inAnyOrder (fun lane t => t.tryHead lane) [InLane.front, InLane.back] s
  else ((s.tryHead .front).tryHead .back).tryHead .front

/-- A frame presented on its lane: not received while the hold line is asserted (R144, log 7); otherwise taken if
its conditions hold, and left standing at the head if not (R146). -/
def State.present (s : State) (frame : Instr) : State :=
  if s.holdLine (frameLane frame) then s
  else if s.takeable frame then takeFrame frame s
  else s.setHead (frameLane frame) (some frame)

/-- A frame whose taking may change what the other lane's head frame waits for: presented, and the held head frames
tested again where it was taken. -/
def State.presentAndSettle (s : State) (frame : Instr) : State :=
  if s.holdLine (frameLane frame) then s
  else if s.takeable frame then (takeFrame frame s).settle
  else s.setHead (frameLane frame) (some frame)

/-! ### Sending (R144, R151) -/

/-- The hold line of an outbound lane, as the controller drives it (R144). -/
def State.outHold (s : State) : OutLane → Bool
  | .front => s.frontOutHold
  | .back => s.backOutHold

/-- Whether no frame may begin on an outbound lane: its hold line, LINKRST or PORST is asserted (R144, R153,
R154). -/
def State.sendStopped (s : State) (lane : OutLane) : Bool := s.outHold lane || s.linkrstLine || s.porstLine

/-- The front-out arbiter's choice (R151): the NOTICE of the highest class, else the oldest REPLY, else the oldest
entry of the front-out data queue. -/
def State.frontChoice (s : State) : Option FrontSource :=
  match NoticeClass.all.find? fun k => (s.noticeSlots[k.idx]).isSome with
  | some k => some (.notice k)
  | none =>
    if !s.replies.isEmpty then some .reply
    else if !s.frontQueue.isEmpty then some .data
    else none

/-- A sending begins on a lane that is not sending, is not stopped, and has a frame (R151). -/
def State.startSending (s : State) : OutLane → State
  | .front =>
    if s.frontSending.isSome || s.sendStopped .front then s else { s with frontSending := s.frontChoice }
  | .back =>
    if s.backSending || s.sendStopped .back then s else { s with backSending := !s.backQueue.isEmpty }

/-! ### The completion of a sending (R152) -/

/-- The place of the oldest front-out data-queue entry becomes free: a DATA place with the entry, a DONE place to
IDLE (R152). -/
def State.popFront (s : State) : State :=
  match s.frontQueue with
  | [] => s
  | .done id _ _ _ :: rest => { s with frontQueue := rest, donePlaces := s.donePlaces.set id .idle }
  | .data _ _ :: rest => { s with frontQueue := rest }
  | .refusal _ _ :: rest => { s with frontQueue := rest }

/-- The place of the oldest back-out entry becomes free: a DATA place with the entry, an END place to IDLE
(R152). -/
def State.popBack (s : State) : State :=
  match s.backQueue with
  | [] => s
  | .ended id _ _ :: rest => { s with backQueue := rest, endPlaces := s.endPlaces.set id .idle }
  | .data _ _ :: rest => { s with backQueue := rest }

/-- What the completed sending of a front-out frame frees: the NOTICE's slot, the REPLY's reservation, or the place
of a data-queue entry (R150, R152, R158). -/
def State.freeFront (s : State) : FrontSource → State
  | .notice k => { s with noticeSlots := s.noticeSlots.set k.idx none }
  | .reply => { s with replies := s.replies.tail, reservations := s.reservations - 1 }
  | .data => s.popFront

/-- The completion of a frame's sending: its place is freed, and the held head frames are tested again in the same
event (R152). A lane that is not sending completes nothing. -/
def State.completeSending (s : State) : OutLane → State
  | .front =>
    match s.frontSending with
    | none => s
    | some source => ({ s with frontSending := none }.freeFront source).settle
  | .back => if s.backSending then ({ s with backSending := false }.popBack).settle else s

/-- The hold line of an outbound lane takes a level (R144). -/
def State.setOutHold (s : State) (lane : OutLane) (level : Bool) : State :=
  match lane with
  | .front => { s with frontOutHold := level }
  | .back => { s with backOutHold := level }

end Sys2Proof.Machine
end

