-- ==== Sys2Proof/Machine/Events.lean ====
section
/-! DEFINITION. The events of the lines, of time and of the resets: PLOCK and PFAIL (R134, R139), LINKRST (R49, R70, R92, R109, R153, R159, R171), PORST (R142, R154), and a microsecond (R78, R100, R102, R162). -/

namespace Sys2Proof.Machine

/-! ### PLOCK and PFAIL (R134, R139) -/

/-- The assertion of the PLOCK line (R134). A line already asserted has no edge (log 18); under PORST the line state
stays deasserted (R142). -/
def State.assertPlock (s : State) : State :=
  if s.plockLine then s
  else if s.porstLine then { s with plockLine := true }
  else { s with plockLine := true, plock := true }.latch .plock

/-- The deassertion of the PLOCK line changes the line state alone (R134). -/
def State.deassertPlock (s : State) : State := { s with plockLine := false, plock := false }

/-- The assertion of the PFAIL line: its line state, and a TRIP event with the latched set unchanged (R139, R141). A
line already asserted has no edge (log 18); under PORST the line state stays deasserted (R142). -/
def State.assertPfail (s : State) : State :=
  if s.pfailLine then s
  else if s.porstLine then { s with pfailLine := true }
  else { s with pfailLine := true, pfail := true }.report (.trip .pfail s.latched)

/-- The deassertion of the PFAIL line changes the line state alone (R139). -/
def State.deassertPfail (s : State) : State := { s with pfailLine := false, pfail := false }

/-! ### LINKRST (R153) -/

/-- A slot state that owes no REPLY any more (R159). -/
def SlotState.dropOwed : SlotState → SlotState
  | .loading l => .loading { l with owed := none }
  | .purging m a => .purging m { a with owed := none }
  | .empty => .empty
  | .ready m => .ready m
  | .poisoned m => .poisoned m

/-- A band whose pending change owes no REPLY any more (R159). -/
def Band.dropOwed (b : Band) : Band := { b with pending := b.pending.map fun p => { p with owed := none } }

/-- The port units and the reply reservations at LINKRST (R153, R159): heads discarded, stores emptied, places
freed, sendings stopped, reservations dropped. -/
def State.resetPorts (s : State) : State :=
  { s with
    frontHead := none
    frontQueue := []
    donePlaces := Vector.replicate 64 .idle
    replies := []
    noticeSlots := Vector.replicate 5 none
    frontSending := none
    backHead := none
    backQueue := []
    endPlaces := Vector.replicate 64 .idle
    backSending := false
    reservations := 0 }

/-- The contexts at LINKRST: every record FREE, every open count and holder count 0, every open migrate writer
cleared, and no reply owed (R49, R70, R92, R159). -/
def State.freeContexts (s : State) : State :=
  { s with
    contexts := Vector.replicate 64 none
    bands := s.bands.map fun ob => ob.map fun b => { b.dropOwed with openCount := 0, writer := none }
    slots := s.slots.map fun v => { v with holders := 0, state := v.state.dropOwed } }

/-- The notice unit at LINKRST, after the other blocks: flags and counters cleared, slots empty, periods and latest
events kept (R171). -/
def State.clearNotices (s : State) : State :=
  { s with
    classes := s.classes.map fun c => { c with flag := false, counter := 0 }
    noticeSlots := Vector.replicate 5 none }

/-- The link reset (R153): the port units, the contexts, the pending changes that now apply (R70), the purges that
now drain (R109), and the notice unit last (R171). -/
def State.linkReset (s : State) : State :=
  (((s.resetPorts.freeContexts).applyIdleChanges).drainIdle none).clearNotices

/-- The assertion of LINKRST (R153). A line already asserted has no edge, and under PORST there is nothing to reset
(log 18). -/
def State.assertLinkrst (s : State) : State :=
  if s.linkrstLine then s
  else if s.porstLine then { s with linkrstLine := true }
  else { s with linkrstLine := true }.linkReset

/-! ### PORST (R142, R154) -/

/-- The part while PORST is asserted: every item at its value after PORST, the lines as the board drives them (R154,
log 28). -/
def State.powerOn (s : State) : State :=
  { State.reset with
    porstLine := true
    linkrstLine := s.linkrstLine
    plockLine := s.plockLine
    pfailLine := s.pfailLine
    frontOutHold := s.frontOutHold
    backOutHold := s.backOutHold
    choices := s.choices
    pending := s.pending }

/-- The assertion of PORST; a line already asserted has no edge (log 18). -/
def State.assertPorst (s : State) : State := if s.porstLine then s else s.powerOn

/-- The release of PORST (R142, R162): link time counts from 0, the line states take the states of their lines, and
PLOCK latches where its line is asserted. -/
def State.releasePorst (s : State) : State :=
  if s.porstLine then
    let s1 := { s with porstLine := false, linkTime := 0, plock := s.plockLine, pfail := s.pfailLine }
    if s.plockLine then s1.latch .plock else s1
  else s

/-! ### The events of single slots and bands (R65, R79, R101, R102) -/

/-- The drain of a purge, where the slot is PURGING without a holder (R101, log 10). -/
def State.drainSlot (s : State) (k : SlotId) : State :=
  if (s.slots[k]).isPurging && ((s.slots[k]).holders == 0) then s.endPurge k else s

/-- The expiry of a purge is due: the countdown stands at 0 with holders remaining (R102). -/
def State.expiryDue (s : State) (k : SlotId) : Bool :=
  match (s.slots[k]).state with
  | .purging _ a => (a.grace == 0) && ((s.slots[k]).holders != 0)
  | _ => false

/-- The expiry of a purge, where it is due (R102, log 10). -/
def State.expireSlot (s : State) (k : SlotId) : State := if s.expiryDue k then s.expire false k else s

/-! ### A microsecond (R78, R100, R102, R162) -/

/-- The loads whose unwrap has run for its 40 microseconds when this one has passed (R78, log 9). -/
def State.unwrapsDue (s : State) : List SlotId :=
  allSlots.filter fun k =>
    match (s.slots[k]).state with
    | .loading l => decide (l.timeLeft ≤ 1)
    | _ => false

/-- A slot one microsecond later: the grace of a purge falls by 1 down to 0 (R100), and a load has one microsecond
less (R78). -/
def SlotState.tick : SlotState → SlotState
  | .purging m a => .purging m { a with grace := a.grace - 1 }
  | .loading l => .loading { l with timeLeft := l.timeLeft - 1 }
  | .empty => .empty
  | .ready m => .ready m
  | .poisoned m => .poisoned m

/-- Link time and the countdowns one microsecond later (R100, R162). -/
def State.tick (s : State) : State :=
  { s with
    linkTime := s.linkTime + 1
    slots := s.slots.map fun v => { v with state := v.state.tick } }

/-- The purges whose expiry is due (R102). -/
def State.expiriesDue (s : State) : List SlotId := allSlots.filter fun k => s.expiryDue k

/-- A microsecond passes: unwraps at their bound complete, each with the held head frames tested after it (R78, log 9),
link time and the countdowns move (R100, R162), purges whose countdown has reached 0 expire (R102), and the held head
frames are tested again. DESIGN CHOICE: where several purges expire, they are tested once, after the last expiry, and not
after each one (R100, R146; log 33). Time stands still under PORST (R154, R162, log 19). -/
def State.microsecond (s : State) : State :=
  if s.porstLine then s
  else
    let s1 := inAnyOrder (fun k t => (t.completeLoad k).settle) s.unwrapsDue s
    let s2 := s1.tick
    (inAnyOrder (fun k t => t.expireSlot k) s2.expiriesDue s2).settle

end Sys2Proof.Machine
end

