-- ==== Sys2Proof/Machine/EventCommands.lean ====
section
/-! DEFINITION. The meanings of the events: of the key store and the band unit, of sending, of the lines, and of time. -/

namespace Sys2Proof.Machine

/-- UNWRAP_COMPLETE (R79, R80): the load ends, its bank becomes free, and held frames are tested again (R83). -/
def execUnwrapComplete (slot : SlotId) (s : State) : Host.Outcome State Fault Refusal :=
  .next ((s.completeLoad slot).settle)

/-- PURGE_DRAIN (R101). -/
def execPurgeDrain (slot : SlotId) (s : State) : Host.Outcome State Fault Refusal :=
  .next (s.drainSlot slot)

/-- PURGE_EXPIRY (R102). -/
def execPurgeExpiry (slot : SlotId) (s : State) : Host.Outcome State Fault Refusal :=
  .next ((s.expireSlot slot).settle)

/-- PENDING_CHANGE_APPLY (R65, R113). -/
def execPendingChangeApply (band : BandId) (s : State) : Host.Outcome State Fault Refusal :=
  .next ((s.applyPending band).settle)

/-- BIT_DAMAGE (R84): a stored bit inverts. -/
def execBitDamage (location : BitLocation) (s : State) : Host.Outcome State Fault Refusal :=
  .next (s.damage location)

/-- SEND_START (R151). -/
def execSendStart (lane : OutLane) (s : State) : Host.Outcome State Fault Refusal :=
  .next (s.startSending lane)

/-- FRAME_SENT (R152). -/
def execFrameSent (lane : OutLane) (s : State) : Host.Outcome State Fault Refusal :=
  .next (s.completeSending lane)

/-- OUTBOUND_HOLD (R144). -/
def execOutboundHold (lane : OutLane) (asserted : Bool) (s : State) : Host.Outcome State Fault Refusal :=
  .next (s.setOutHold lane asserted)

/-- PLOCK_ASSERT (R134). -/
def execPlockAssert (s : State) : Host.Outcome State Fault Refusal :=
  .next (s.assertPlock.settle)

/-- PLOCK_DEASSERT (R134). -/
def execPlockDeassert (s : State) : Host.Outcome State Fault Refusal :=
  .next (s.deassertPlock)

/-- PFAIL_ASSERT (R139). -/
def execPfailAssert (s : State) : Host.Outcome State Fault Refusal :=
  .next (s.assertPfail)

/-- PFAIL_DEASSERT (R139). -/
def execPfailDeassert (s : State) : Host.Outcome State Fault Refusal :=
  .next (s.deassertPfail)

/-- LINKRST_ASSERT (R153). -/
def execLinkrstAssert (s : State) : Host.Outcome State Fault Refusal :=
  .next (s.assertLinkrst)

/-- LINKRST_RELEASE: the lanes take and send again from the stores as the assertion left them (R153). -/
def execLinkrstRelease (s : State) : Host.Outcome State Fault Refusal :=
  .next ({ s with linkrstLine := false })

/-- PORST_ASSERT (R154). -/
def execPorstAssert (s : State) : Host.Outcome State Fault Refusal :=
  .next (s.assertPorst)

/-- PORST_RELEASE (R142, R154, R162). -/
def execPorstRelease (s : State) : Host.Outcome State Fault Refusal :=
  .next (s.releasePorst)

/-- MICROSECOND_PASSES (R100, R102, R162). -/
def execMicrosecondPasses (s : State) : Host.Outcome State Fault Refusal :=
  .next (s.microsecond)

end Sys2Proof.Machine
end

