-- ==== Sys2Proof/Machine/FrameCommands.lean ====
section
/-! DEFINITION. The meanings of the frame commands that are no known request: OPEN, DATA, ABORT, MALFORMED_FRAME, UNDEFINED_REQUEST_CODE. -/

namespace Sys2Proof.Machine

/-- OPEN: presented on front-in (R24, R144, R146). -/
def execOpen (ctx : Byte) (dir : Direction) (flags namespaceByte : Byte) (first : BitVec 48)
    (countMinusOne : BitVec 16) (s : State) : Host.Outcome State Fault Refusal :=
  .next (s.present (.openFrame ctx dir flags namespaceByte first countMinusOne))

/-- DATA: presented on its lane (R31, R144, R146). Its taking may end contexts, move W and free a bank's holders. -/
def execData (lane : InLane) (ctx : Byte) (bytes : List Byte) (s : State) : Host.Outcome State Fault Refusal :=
  .next (s.presentAndSettle (.data lane ctx bytes))

/-- ABORT: presented on front-in (R44, R146). -/
def execAbort (ctx : Byte) (s : State) : Host.Outcome State Fault Refusal :=
  .next (s.presentAndSettle (.abort ctx))

/-- MALFORMED_FRAME: presented on its lane and discarded (R145). -/
def execMalformedFrame (lane : InLane) (frame : List Byte) (s : State) : Host.Outcome State Fault Refusal :=
  .next (s.present (.malformedFrame lane frame))

/-- UNDEFINED_REQUEST_CODE: presented on front-in and answered BAD_REQUEST (R156). -/
def execUndefinedRequestCode (tag code : Byte) (rest : List Byte) (s : State) : Host.Outcome State Fault Refusal :=
  .next (s.present (.undefinedRequestCode tag code rest))

end Sys2Proof.Machine
end

