-- ==== Sys2Proof/Machine/RequestCommands.lean ====
section
/-! DEFINITION. The meanings of the requests of 9.1: each is presented on front-in and taken when a reply reservation can be made (R146, R155). -/

namespace Sys2Proof.Machine

/-- WRAP_LOAD (R75). -/
def execWrapLoad (tag : Byte) (body : Body WrapLoadFields) (s : State) : Host.Outcome State Fault Refusal :=
  .next (s.present (.wrapLoad tag body))

/-- KEY_LOAD (R76, R77). -/
def execKeyLoad (tag : Byte) (body : Body KeyLoadFields) (s : State) : Host.Outcome State Fault Refusal :=
  .next (s.present (.keyLoad tag body))

/-- QUERY_SLOT (R91). -/
def execQuerySlot (tag : Byte) (body : Body Byte) (s : State) : Host.Outcome State Fault Refusal :=
  .next (s.present (.querySlot tag body))

/-- KEY_PURGE (R95, R96). -/
def execKeyPurge (tag : Byte) (body : Body Byte) (s : State) : Host.Outcome State Fault Refusal :=
  .next (s.presentAndSettle (.keyPurge tag body))

/-- PURGE_ALL (R107). -/
def execPurgeAll (tag : Byte) (body : Body Unit) (s : State) : Host.Outcome State Fault Refusal :=
  .next (s.presentAndSettle (.purgeAll tag body))

/-- SET_GRACE (R105). -/
def execSetGrace (tag : Byte) (body : Body (BitVec 32)) (s : State) : Host.Outcome State Fault Refusal :=
  .next (s.present (.setGrace tag body))

/-- BAND_SET (R60, R63, R65). Its application may move a watermark, and with it a held frame's key choice (R32). -/
def execBandSet (tag : Byte) (body : Body BandSetFields) (s : State) : Host.Outcome State Fault Refusal :=
  .next (s.presentAndSettle (.bandSet tag body))

/-- BAND_LOCK (R67). -/
def execBandLock (tag : Byte) (body : Body BandLockFields) (s : State) : Host.Outcome State Fault Refusal :=
  .next (s.present (.bandLock tag body))

/-- QUERY_BAND (R69). -/
def execQueryBand (tag : Byte) (body : Body Byte) (s : State) : Host.Outcome State Fault Refusal :=
  .next (s.present (.queryBand tag body))

/-- MIGRATE_START (R111, R113). Its application gives a watermark, and with it a held frame's key choice (R32). -/
def execMigrateStart (tag : Byte) (body : Body MigrateStartFields) (s : State) : Host.Outcome State Fault Refusal :=
  .next (s.presentAndSettle (.migrateStart tag body))

/-- TRIP_FORCE (R136). -/
def execTripForce (tag : Byte) (body : Body Unit) (s : State) : Host.Outcome State Fault Refusal :=
  .next (s.presentAndSettle (.tripForce tag body))

/-- TRIP_CLEAR (R137). -/
def execTripClear (tag : Byte) (body : Body Byte) (s : State) : Host.Outcome State Fault Refusal :=
  .next (s.present (.tripClear tag body))

/-- NOTICE_PERIOD (R168). -/
def execNoticePeriod (tag : Byte) (body : Body NoticePeriodFields) (s : State) : Host.Outcome State Fault Refusal :=
  .next (s.present (.noticePeriod tag body))

/-- NOTICE_ACK (R169). -/
def execNoticeAck (tag : Byte) (body : Body Byte) (s : State) : Host.Outcome State Fault Refusal :=
  .next (s.present (.noticeAck tag body))

/-- QUERY_CONTEXT (R47). -/
def execQueryContext (tag : Byte) (body : Body Byte) (s : State) : Host.Outcome State Fault Refusal :=
  .next (s.present (.queryContext tag body))

/-- GO_ONLINE (R161). -/
def execGoOnline (tag : Byte) (body : Body Unit) (s : State) : Host.Outcome State Fault Refusal :=
  .next (s.present (.goOnline tag body))

/-- TIME_SET (R163). -/
def execTimeSet (tag : Byte) (body : Body (BitVec 32)) (s : State) : Host.Outcome State Fault Refusal :=
  .next (s.present (.timeSet tag body))

/-- QUERY_STATUS (R164). -/
def execQueryStatus (tag : Byte) (body : Body Unit) (s : State) : Host.Outcome State Fault Refusal :=
  .next (s.present (.queryStatus tag body))

end Sys2Proof.Machine
end

