-- ==== Sys2Proof/Machine/Dispatch.lean ====
section
/-! DEFINITION. The meaning of each command: one arm for each constructor. -/

namespace Sys2Proof.Machine

def exec (i : Instr) (s : State) : Host.Outcome State Fault Refusal :=
  match i with
  | .openFrame ctx dir flags ns first count => Sys2Proof.Machine.execOpen ctx dir flags ns first count s
  | .data lane ctx bytes => Sys2Proof.Machine.execData lane ctx bytes s
  | .abort ctx => Sys2Proof.Machine.execAbort ctx s
  | .malformedFrame lane frame => Sys2Proof.Machine.execMalformedFrame lane frame s
  | .undefinedRequestCode tag code rest => Sys2Proof.Machine.execUndefinedRequestCode tag code rest s
  | .wrapLoad tag body => Sys2Proof.Machine.execWrapLoad tag body s
  | .keyLoad tag body => Sys2Proof.Machine.execKeyLoad tag body s
  | .querySlot tag body => Sys2Proof.Machine.execQuerySlot tag body s
  | .keyPurge tag body => Sys2Proof.Machine.execKeyPurge tag body s
  | .purgeAll tag body => Sys2Proof.Machine.execPurgeAll tag body s
  | .setGrace tag body => Sys2Proof.Machine.execSetGrace tag body s
  | .bandSet tag body => Sys2Proof.Machine.execBandSet tag body s
  | .bandLock tag body => Sys2Proof.Machine.execBandLock tag body s
  | .queryBand tag body => Sys2Proof.Machine.execQueryBand tag body s
  | .migrateStart tag body => Sys2Proof.Machine.execMigrateStart tag body s
  | .tripForce tag body => Sys2Proof.Machine.execTripForce tag body s
  | .tripClear tag body => Sys2Proof.Machine.execTripClear tag body s
  | .noticePeriod tag body => Sys2Proof.Machine.execNoticePeriod tag body s
  | .noticeAck tag body => Sys2Proof.Machine.execNoticeAck tag body s
  | .queryContext tag body => Sys2Proof.Machine.execQueryContext tag body s
  | .goOnline tag body => Sys2Proof.Machine.execGoOnline tag body s
  | .timeSet tag body => Sys2Proof.Machine.execTimeSet tag body s
  | .queryStatus tag body => Sys2Proof.Machine.execQueryStatus tag body s
  | .unwrapComplete slot => Sys2Proof.Machine.execUnwrapComplete slot s
  | .purgeDrain slot => Sys2Proof.Machine.execPurgeDrain slot s
  | .purgeExpiry slot => Sys2Proof.Machine.execPurgeExpiry slot s
  | .pendingChangeApply band => Sys2Proof.Machine.execPendingChangeApply band s
  | .bitDamage location => Sys2Proof.Machine.execBitDamage location s
  | .sendStart lane => Sys2Proof.Machine.execSendStart lane s
  | .frameSent lane => Sys2Proof.Machine.execFrameSent lane s
  | .outboundHold lane asserted => Sys2Proof.Machine.execOutboundHold lane asserted s
  | .plockAssert => Sys2Proof.Machine.execPlockAssert s
  | .plockDeassert => Sys2Proof.Machine.execPlockDeassert s
  | .pfailAssert => Sys2Proof.Machine.execPfailAssert s
  | .pfailDeassert => Sys2Proof.Machine.execPfailDeassert s
  | .linkrstAssert => Sys2Proof.Machine.execLinkrstAssert s
  | .linkrstRelease => Sys2Proof.Machine.execLinkrstRelease s
  | .porstAssert => Sys2Proof.Machine.execPorstAssert s
  | .porstRelease => Sys2Proof.Machine.execPorstRelease s
  | .microsecondPasses => Sys2Proof.Machine.execMicrosecondPasses s

end Sys2Proof.Machine
end

