-- ==== Sys2Proof/Machine/Frames.lean ====
section
/-! DEFINITION. The outbound frames: which frame a lane is sending (R151) and its bytes by chapter 11 (R172 to R174). -/

namespace Sys2Proof.Machine

/-! ### Code values (11.5) -/

/-- The code of a DONE or END status (11.5). -/
def TransferStatus.code : TransferStatus → Byte
  | .ok => 0
  | .notOnline => 1
  | .ctxBusy => 2
  | .noNamespace => 3
  | .outOfRange => 4
  | .bandChanging => 5
  | .noKey => 6
  | .keyFault => 7
  | .locked => 8
  | .powerHold => 9
  | .migrateOrder => 10
  | .aborted => 11
  | .tripped => 12
  | .keyPurged => 13

/-- The code of a REPLY status (11.5). -/
def ReplyStatus.code : ReplyStatus → Byte
  | .ok => 0
  | .badRequest => 1
  | .wrongState => 2
  | .slotBusy => 3
  | .bankBusy => 4
  | .noWrap => 5
  | .wrapInvalid => 6
  | .wrapFault => 7
  | .keyWeak => 8
  | .abandoned => 9
  | .notReady => 10
  | .genMismatch => 11
  | .noBand => 12
  | .outOfRange => 13
  | .overlap => 14
  | .busy => 15
  | .migrating => 16
  | .noKey => 17
  | .tripped => 18
  | .stillAsserted => 19

/-- The code of a trip source in a detail (11.5). -/
def TripCause.code : TripCause → Byte
  | .source .plock => 0
  | .source .soft => 1
  | .source .keyfault => 2
  | .pfail => 3

/-- The code of a purge cause (11.5). -/
def PurgeCause.code : PurgeCause → Byte
  | .request => 0
  | .trip => 1
  | .migrateFail => 2
  | .all => 3

/-- The code of a MIGRATE event's kind (11.5). -/
def MigrateKind.code : MigrateKind → Byte
  | .advance => 0
  | .complete => 1
  | .failed => 2

/-- The code of a DISCARD event's kind (11.5). -/
def DiscardKind.code : DiscardKind → Byte
  | .stray => 0
  | .wrongLane => 1
  | .overrun => 2
  | .malformed => 3

/-- The code of a notice class (11.5). -/
def NoticeClass.code (k : NoticeClass) : Byte := BitVec.ofNat 8 k.idx.val

/-! ### Little-endian fields -/

/-- A number in `size` bytes, least significant first (00_scope, Byte order). -/
def leBytes : Nat → Nat → List Byte
  | 0, _ => []
  | size + 1, n => BitVec.ofNat 8 n :: leBytes size (n / 256)

/-- A word of bits in `size` bytes, least significant first. -/
def leWord {n : Nat} (size : Nat) (v : BitVec n) : List Byte := leBytes size v.toNat

/-! ### Result fields (11.3) -/

/-- The QUERY-SLOT result: 8 bytes (11.3). -/
def SlotReport.bytes (r : SlotReport) : List Byte :=
  [r.state] ++ leWord 2 r.generation ++ [r.holders] ++ leWord 4 r.grace

/-- The QUERY-BAND result: 49 bytes (11.3). -/
def BandReport.bytes (r : BandReport) : List Byte :=
  [r.state, r.namespaceNumber, r.format, r.metaMode] ++ leWord 8 r.extentA ++ leWord 8 r.extentB ++
  [r.bindingPresent, r.slot] ++ leWord 2 r.generation ++ [r.locks, r.saltPresent] ++ leWord 4 r.salt ++
  [r.tripMask, r.latchedAction, r.pfailResponse, r.openCount, r.recordPresent, r.target] ++
  leWord 2 r.targetGeneration ++ leWord 8 r.w ++ [r.writerPresent, r.writer, r.pendingKind]

/-- The QUERY-CONTEXT result: 23 bytes (11.3). -/
def ContextReport.bytes (r : ContextReport) : List Byte :=
  [r.state, r.direction, r.flags, r.namespaceNumber] ++ leWord 6 r.first ++ leWord 2 r.countMinusOne ++
  leWord 2 r.sectorsDone ++ leWord 2 r.offset ++ [r.residueLength, r.heldPresent, r.segmentCount] ++
  leWord 4 r.openTime

/-- The QUERY-STATUS result: 17 bytes (11.3). -/
def StatusReport.bytes (r : StatusReport) : List Byte :=
  [r.life, r.latched, r.lines, r.openContexts] ++ leWord 4 r.discards ++ leWord 4 r.linkTime ++
  leWord 4 r.grace ++ [r.reservations]

/-- The result fields of a REPLY (11.3). -/
def Result.bytes : Result → List Byte
  | .none => []
  | .keyLoad k generation => k :: leWord 2 generation
  | .slot r => r.bytes
  | .keyPurge k drained cut => [k, drained, cut]
  | .grace taken => leWord 4 taken
  | .band i => [i]
  | .bandReport r => r.bytes
  | .migrateStart i w => i :: leWord 8 w
  | .latched set => [set.byte]
  | .noticePeriod k period => [k, period]
  | .noticeAck flagged => [flagged]
  | .context r => r.bytes
  | .time replaced => leWord 4 replaced
  | .status r => r.bytes

/-! ### NOTICE details (11.4) -/

/-- The detail bytes a class uses (11.4). -/
def Detail.usedBytes : Detail → List Byte
  | .trip cause latched => [cause.code, latched.byte]
  | .keyfault (.keySlot k) cut => [0, slotByte k, countByte cut]
  | .keyfault (.wrapSlot w) cut => [1, BitVec.ofNat 8 w.val, countByte cut]
  | .purge k cause drained cut => [slotByte k, cause.code, countByte drained, countByte cut]
  | .migrate i kind w => [bandByte i, kind.code] ++ leBytes 8 w
  | .discard kind ctx counter =>
    [kind.code, match ctx with
      | none => 0xFF
      | some id => BitVec.ofNat 8 id.val] ++ leWord 4 counter

/-- The 10 detail bytes: those not used by the class are 0 (R174). -/
def Detail.bytes (d : Detail) : List Byte := d.usedBytes ++ List.replicate (10 - d.usedBytes.length) 0

/-! ### Frames (11.1, 11.2) -/

/-- A frame: kind, body length, the fourth byte, and the body (11.1, R174). -/
def frameBytes (kind fourth : Byte) (body : List Byte) : List Byte :=
  kind :: leBytes 2 body.length ++ [fourth] ++ body

/-- A context id as a byte. -/
def ctxByte (id : CtxId) : Byte := BitVec.ofNat 8 id.val

/-- The body of a DONE (11.2). -/
def doneBody (status : TransferStatus) (sectors : Nat) (elapsed : BitVec 32) : List Byte :=
  [status.code] ++ leBytes 4 sectors ++ leWord 4 elapsed

/-- The body of an END (11.2). -/
def endedBody (status : TransferStatus) (sectors : Nat) : List Byte := [status.code] ++ leBytes 4 sectors

/-- The frame of a front-out data-queue entry (11.2). A refusal DONE has sectors 0 and elapsed 0 (R40). -/
def FrontEntry.bytes : FrontEntry → List Byte
  | .data id bytes => frameBytes 0x02 (ctxByte id) bytes
  | .refusal id status => frameBytes 0x11 (ctxByte id) (doneBody status 0 0)
  | .done id status sectors elapsed => frameBytes 0x11 (ctxByte id) (doneBody status sectors elapsed)

/-- The frame of a back-out entry (11.2). -/
def BackEntry.bytes : BackEntry → List Byte
  | .data id bytes => frameBytes 0x02 (ctxByte id) bytes
  | .ended id status sectors => frameBytes 0x12 (ctxByte id) (endedBody status sectors)

/-- The frame of a REPLY (11.3). -/
def Reply.bytes (r : Reply) : List Byte := frameBytes 0x13 r.tag ([r.code, r.status.code] ++ r.result.bytes)

/-- The frame of a NOTICE (11.4). -/
def Notice.bytes (n : Notice) : List Byte :=
  frameBytes 0x14 n.event.detail.noticeClass.code
    (leWord 4 n.event.time ++ [countByte n.count] ++ n.event.detail.bytes)

/-- The bytes of the frame that front-out is sending (R151). -/
def State.frontFrame (s : State) : Option (List Byte) :=
  match s.frontSending with
  | none => none
  | some (.notice k) => (s.noticeSlots[k.idx]).map Notice.bytes
  | some .reply => s.replies.head?.map Reply.bytes
  | some .data => s.frontQueue.head?.map FrontEntry.bytes

/-- The bytes of the frame that back-out is sending (R151). -/
def State.backFrame (s : State) : Option (List Byte) :=
  if s.backSending then s.backQueue.head?.map BackEntry.bytes else none

end Sys2Proof.Machine
end

