-- ==== Sys2Proof/Safety.lean ====
section
/-! DEFINITION. The invariants of the part in the words of the spec: what holds of the state between two commands. The statements of Certificates use them. -/

namespace Sys2Proof.Machine

/-- Whether a command is a frame, presented on an inbound lane (R143). -/
def isFrame : Instr → Bool
  | .openFrame _ _ _ _ _ _ => true
  | .data _ _ _ => true
  | .abort _ => true
  | .malformedFrame _ _ => true
  | .undefinedRequestCode _ _ _ => true
  | .wrapLoad _ _ => true
  | .keyLoad _ _ => true
  | .querySlot _ _ => true
  | .keyPurge _ _ => true
  | .purgeAll _ _ => true
  | .setGrace _ _ => true
  | .bandSet _ _ => true
  | .bandLock _ _ => true
  | .queryBand _ _ => true
  | .migrateStart _ _ => true
  | .tripForce _ _ => true
  | .tripClear _ _ => true
  | .noticePeriod _ _ => true
  | .noticeAck _ _ => true
  | .queryContext _ _ => true
  | .goOnline _ _ => true
  | .timeSet _ _ => true
  | .queryStatus _ _ => true
  | _ => false

/-- Whether a command is a REQUEST frame (11.1, 9.1). -/
def isRequest : Instr → Bool
  | .undefinedRequestCode _ _ _ => true
  | .wrapLoad _ _ => true
  | .keyLoad _ _ => true
  | .querySlot _ _ => true
  | .keyPurge _ _ => true
  | .purgeAll _ _ => true
  | .setGrace _ _ => true
  | .bandSet _ _ => true
  | .bandLock _ _ => true
  | .queryBand _ _ => true
  | .migrateStart _ _ => true
  | .tripForce _ _ => true
  | .tripClear _ _ => true
  | .noticePeriod _ _ => true
  | .noticeAck _ _ => true
  | .queryContext _ _ => true
  | .goOnline _ _ => true
  | .timeSet _ _ => true
  | .queryStatus _ _ => true
  | _ => false

/-- An order table read from its top: `r` is the status of the first condition that holds, and `none` where none
does. -/
def FirstToHold {σ : Type} : List (Prop × σ) → Option σ → Prop
  | [], r => r = none
  | (p, status) :: rest, r => (p → r = some status) ∧ (¬p → FirstToHold rest r)

/-- No frame stands at a head that could be taken: a head frame is held only while its conditions fail (R146). -/
def State.Settled (s : State) : Prop := ∀ lane, s.headReady lane = false

/-- No frame stands at either head. -/
def State.NoHeads (s : State) : Prop := s.frontHead = none ∧ s.backHead = none

/-- The state a command answers with; every command answers a next state. -/
def State.afterCommand (s : State) (c : Instr) : State :=
  match exec c s with
  | .next t => t
  | _ => s

/-- A REQUEST presented now is taken at once: front-in is not held and fewer than 8 reservations are in use (R144,
R155). -/
def State.TakesRequests (s : State) : Prop :=
  s.holdLine .front = false ∧ s.reservations < Config.maxReservations

/-- The state after an immediate REPLY: one more reservation, filled by it (R157, R158). -/
def State.answered (s : State) (tag : Byte) (code : RequestCode) (status : ReplyStatus) (result : Result) : State :=
  { s with
    reservations := s.reservations + 1
    replies := s.replies ++ [{ tag := tag, code := code.byte, status := status, result := result }] }

/-- Two states agree on the lines, the line states, the heads and the sendings: what no block's work changes. -/
def State.SameLines (s t : State) : Prop :=
  t.porstLine = s.porstLine ∧ t.linkrstLine = s.linkrstLine ∧ t.plockLine = s.plockLine ∧
  t.pfailLine = s.pfailLine ∧ t.plock = s.plock ∧ t.pfail = s.pfail ∧ t.frontOutHold = s.frontOutHold ∧
  t.backOutHold = s.backOutHold ∧ t.frontHead = s.frontHead ∧ t.backHead = s.backHead ∧
  t.frontSending = s.frontSending ∧ t.backSending = s.backSending ∧ t.pending = s.pending

/-- Two states agree on the control unit's life state, link time and grace setting. -/
def State.SameControl (s t : State) : Prop :=
  t.life = s.life ∧ t.linkTime = s.linkTime ∧ t.graceSetting = s.graceSetting

/-- Two states agree on the notice unit. -/
def State.SameNotices (s t : State) : Prop := t.classes = s.classes ∧ t.noticeSlots = s.noticeSlots

/-- Two states agree on both output queues with their DONE and END places. -/
def State.SameQueues (s t : State) : Prop :=
  t.frontQueue = s.frontQueue ∧ t.donePlaces = s.donePlaces ∧ t.backQueue = s.backQueue ∧
  t.endPlaces = s.endPlaces

/-- The number of open contexts with a property that have ended between two states. -/
def State.endedWith (s t : State) (p : Context → Bool) : Nat :=
  allContexts.countP fun id => (s.contexts[id]).any p && (t.contexts[id]).isNone

/-- A band to which nothing has happened but the ends of contexts: its open count is lower by those that named it, and
its migrate writer is gone where it is one of them (R41). -/
def State.withoutEnded (s t : State) (i : BandId) (b : Band) : Band :=
  { b with
    openCount := b.openCount - s.endedWith t fun c => c.names i
    writer := if b.writer.any (fun id => (s.contexts[id]).any (fun c => c.names i) && (t.contexts[id]).isNone) then none
      else b.writer }

/-- What the ends of contexts do to a key slot (R41, R94, R101): its holder count is lower by its holders among them; a
PURGING slot has them entered in its account, and is erased, with its owed REPLY, where no holder is left; a slot in
another state stays in it. -/
def State.SlotFollows (s t : State) (k : SlotId) (enter : Account → Nat → Account) : Prop :=
  ∀ n, n = s.endedWith t (fun c => c.holds k) →
    (t.slots[k]).generation = (s.slots[k]).generation ∧
    ((s.slots[k]).isPurging = false → (t.slots[k]).state = (s.slots[k]).state ∧
      (t.slots[k]).holders = (s.slots[k]).holders - n) ∧
    ∀ m a, (s.slots[k]).state = .purging m a →
      ((s.slots[k]).holders - n ≠ 0 → (t.slots[k]).state = .purging m (enter a n) ∧
        (t.slots[k]).holders = (s.slots[k]).holders - n) ∧
      ((s.slots[k]).holders - n = 0 → (t.slots[k]).state = .empty ∧ (t.slots[k]).holders = 0 ∧
        ∀ tag, a.owed = some tag → (⟨tag, 0x04, .ok, .keyPurge (BitVec.ofNat 8 k.val)
          (BitVec.ofNat 8 (enter a n).drained) (BitVec.ofNat 8 (enter a n).cut)⟩ : Reply) ∈ t.replies)

/-- What a BAND-SET that has just applied does to the rest of the band table and to the notice unit (R114, R125):
where it makes a locking band ACTIVE and the base band of its namespace has a record, the watermark is placed again,
with an ADVANCE event if it moved and a COMPLETE event behind it if it moved to the base band's end; otherwise the
notice unit is as it was. -/
def State.WatermarkPlacedAgain (s t : State) (new : Option BandFields) : Prop :=
  (∀ g ns first last b r w, new = some g → g.extent = .locking ns first last →
    s.bands[baseBand ns] = some b → b.migration = some r → w = t.placeFor (baseBand ns) r.w →
    (w = r.w → t.bands[baseBand ns] = some b ∧ s.SameNotices t) ∧
    (w ≠ r.w → w ≠ b.fields.extent.endLba →
      t.bands[baseBand ns] = some { b with migration := some { r with w := w } } ∧
      (s.report (.migrate (baseBand ns) .advance w)).SameNotices t) ∧
    (w ≠ r.w → w = b.fields.extent.endLba →
      t.bands[baseBand ns] = some { b with
        fields := { b.fields with binding := some ⟨r.target, r.targetGeneration⟩ },
        migration := none, writer := none } ∧
      ((s.report (.migrate (baseBand ns) .advance w)).report
        (.migrate (baseBand ns) .complete w)).SameNotices t)) ∧
  ((∀ g ns first last b, new = some g → g.extent = .locking ns first last →
    s.bands[baseBand ns] = some b → b.migration = none) → s.SameNotices t)

/-- A frame has been discarded and nothing else done: the discard counter is one higher or stands at its largest
value, the DISCARD class has the event, counted once as every event is, and every other item is as it was (R46). -/
def State.Discarded (s t : State) (kind : DiscardKind) (ctx : Option CtxId) : Prop :=
  t.discards = (if s.discards = BitVec.allOnes 32 then s.discards else s.discards + 1) ∧
  (t.classOf .discard).latest = some { time := s.linkTime, detail := .discard kind ctx t.discards } ∧
  (s.report (.discard kind ctx t.discards)).SameNotices t ∧
  (∀ k : NoticeClass, k ≠ .discard →
    t.classOf k = s.classOf k ∧ t.noticeSlots[k.idx] = s.noticeSlots[k.idx]) ∧
  { t with discards := s.discards, classes := s.classes, noticeSlots := s.noticeSlots } = s

/-! ### Notices (R165 to R167, R169) -/

/-- One class with its slot: the period is 0 to 7 and the counter at most the period; a filled slot goes with a set
flag; a class whose flag is clear stands below its period; a counted event is the latest event; and the events are
of the class. -/
def ClassOk (k : NoticeClass) (c : ClassState) (slot : Option Notice) : Prop :=
  c.period ≤ Config.periodMax ∧ c.counter ≤ c.period ∧
  (slot.isSome = true → c.flag = true) ∧
  (c.flag = false → c.period ≠ 0 → c.counter < c.period) ∧
  (c.counter ≠ 0 → c.latest.isSome = true) ∧
  (∀ e, c.latest = some e → e.detail.noticeClass = k) ∧
  (∀ n, slot = some n → n.event.detail.noticeClass = k ∧ 1 ≤ n.count ∧ n.count ≤ Config.periodMax)

/-- The notice unit and the notice slots agree (R165 to R167). -/
def State.NoticesOk (s : State) : Prop := ∀ k : NoticeClass, ClassOk k (s.classOf k) s.noticeSlots[k.idx]

/-! ### Reply reservations (R155, R158) -/

/-- One waiting reservation where a tag is owed. -/
def owes : Option Byte → Nat
  | none => 0
  | some _ => 1

/-- The waiting reservations of a key slot: a load's, or a purge's (R158). -/
def SlotState.owing : SlotState → Nat
  | .loading l => owes l.owed
  | .purging _ a => owes a.owed
  | _ => 0

/-- The waiting reservation of a band entry: its staged change's (R158). -/
def bandOwing : Option Band → Nat
  | none => 0
  | some b =>
    match b.pending with
    | none => 0
    | some p => owes p.owed

/-- The number of waiting reservations (R158). -/
def State.waiting (s : State) : Nat :=
  (allSlots.map fun k => (s.slots[k]).state.owing).sum + (allBands.map fun i => bandOwing s.bands[i]).sum

/-- Reservations in use are those waiting plus those filled, and at most 8 (R155, R158). A REPLY that is being sent
stands in the reply queue. -/
def State.ReservationsOk (s : State) : Prop :=
  s.reservations = s.waiting + s.replies.length ∧ s.reservations ≤ Config.maxReservations ∧
  (s.frontSending = some .reply → s.replies ≠ [])

/-! ### Places (R148, R149) -/

/-- Whether an entry is the DONE of an ended context of this id. -/
def FrontEntry.isDoneOf (id : CtxId) : FrontEntry → Bool
  | .done i _ _ _ => i == id
  | _ => false

/-- Whether an entry is the END of this id. -/
def BackEntry.isEndedOf (id : CtxId) : BackEntry → Bool
  | .ended i _ _ => i == id
  | _ => false

/-- The places of one id: its DONE place is RESERVED exactly while the context is open, and FILLED exactly while its
DONE stands once in the queue; its END place likewise for an open write (R148, R149). -/
def State.PlacesOfOk (s : State) (id : CtxId) : Prop :=
  (s.donePlaces[id] = .reserved ↔ (s.contexts[id]).isSome = true) ∧
  (s.endPlaces[id] = .reserved ↔ ∃ c, s.contexts[id] = some c ∧ c.dir = .write) ∧
  s.frontQueue.countP (FrontEntry.isDoneOf id) = (if s.donePlaces[id] = .filled then 1 else 0) ∧
  s.backQueue.countP (BackEntry.isEndedOf id) = (if s.endPlaces[id] = .filled then 1 else 0)

/-- At most 16 DATA places of each output queue are filled, and each id's places are as its context and the queues
say (R148, R149). -/
def State.PlacesOk (s : State) : Prop :=
  s.frontQueue.countP FrontEntry.inDataPlace ≤ Config.dataPlaces ∧
  s.backQueue.countP BackEntry.inDataPlace ≤ Config.dataPlaces ∧
  ∀ id, s.PlacesOfOk id

/-! ### Open counts and holder counts (R58, R90) -/

/-- A band's open count is the number of open contexts that name it, no open context names an UNUSED band, and a
slot's holder count is the number of its holders (R58, R90). -/
def State.CountsOk (s : State) : Prop :=
  (∀ (i : BandId) (b : Band), s.bands[i] = some b → b.openCount = (s.naming i).length) ∧
  (∀ i : BandId, s.bands[i] = none → s.naming i = []) ∧
  (∀ k : SlotId, (s.slots[k]).holders = (s.holdersOf k).length)

/-! ### Open records (R22, R23, R16) -/

/-- An open record between two fragments: the sector is inside the count, the offset inside the sector, and by state
BOUNDARY, INSECTOR or TAILING the residue, the block index and the held bytes are what the offset says (R22, R23). -/
def Context.ok (c : Context) : Prop :=
  c.sectorsDone < c.count ∧ c.offset < c.format.sectorBytes ∧
  match c.progress with
  | .boundary => c.offset = 0 ∧ c.residue = []
  | .insector _ _ j _ =>
    0 < c.offset ∧
    ((c.offset < 16 * fullBlocks c.format c.metaMode ∧ j = c.offset / 16 ∧ c.residue.length = c.offset % 16) ∨
     (cipheredLength c.format c.metaMode ≤ c.offset ∧ tailBytes c.format c.metaMode = 0 ∧
       j + 1 = fullBlocks c.format c.metaMode ∧ c.residue = []))
  | .tailing _ _ j _ _ =>
    tailBytes c.format c.metaMode = 8 ∧ j + 1 = fullBlocks c.format c.metaMode ∧
    16 * fullBlocks c.format c.metaMode ≤ c.offset ∧ c.offset < cipheredLength c.format c.metaMode ∧
    c.residue.length = c.offset - 16 * fullBlocks c.format c.metaMode

/-- Every open record is as R22 and R23 say. -/
def State.RecordsOk (s : State) : Prop := ∀ (id : CtxId) (c : Context), s.contexts[id] = some c → c.ok

/-- The bytes a record holds back: the residue, and 16 for a held block (R16). -/
def Context.heldBack (c : Context) : Nat := c.residue.length + (if c.progress.holdsBlock then 16 else 0)

/-! ### Lines and life (R134, R137, R142, R160) -/

/-- While PORST is deasserted the line states are those of their lines, while it is asserted they are deasserted, and
PLOCK is latched while its line state is asserted (R134, R137, R142). -/
def State.LinesOk (s : State) : Prop :=
  (s.porstLine = true → s.plock = false ∧ s.pfail = false) ∧
  (s.porstLine = false → s.plock = s.plockLine ∧ s.pfail = s.pfailLine) ∧
  (s.plock = true → s.latched.plock = true)

/-- In PREPARE every record is FREE (R160). -/
def State.PrepareOk (s : State) : Prop := s.life = .prepare → ∀ id : CtxId, s.contexts[id] = none

/-- While PORST is asserted every item stands at its value after PORST (R154). -/
def State.PowerOk (s : State) : Prop := s.porstLine = true → s.powerOn = s

/-! ### The band table (R51 to R53, R60 to R62) -/

/-- Whether an extent is a base band's. -/
def Extent.isBaseExtent : Extent → Bool
  | .base _ _ _ => true
  | .locking _ _ _ => false

/-- Whether a band lies, or by its staged change would lie, over these LBAs of a namespace. -/
def Band.claims (b : Band) (ns : Ns) (e : Nat × Nat) : Prop :=
  b.presentLocking ns = some e ∨ b.stagedLocking ns = some e

/-- Entries 0 to 7 are base bands and the others locking bands (R51); every locking extent, present or staged, lies
inside its namespace's size, present and staged, and the base band stays ACTIVE (R53, R60 to R62); no two entries'
locking extents of one namespace share an LBA (R61). -/
def State.LayoutOk (s : State) : Prop :=
  (∀ (i : BandId) (b : Band), s.bands[i] = some b → b.fields.extent.isBaseExtent = isBase i ∧
    ∀ f, b.stagedSet = some (some f) → f.extent.isBaseExtent = isBase i) ∧
  (∀ (i : BandId) (b : Band) (ns : Ns) (e : Nat × Nat), s.bands[i] = some b → b.claims ns e → e.1 ≤ e.2 ∧
    ∃ base, s.bands[baseBand ns] = some base ∧ e.2 < base.fields.extent.endLba ∧
      base.stagedSet ≠ some none ∧ ∀ f, base.stagedSet = some (some f) → e.2 < f.extent.endLba) ∧
  (∀ (i j : BandId) (b b' : Band) (ns : Ns) (e e' : Nat × Nat), i ≠ j → s.bands[i] = some b → s.bands[j] = some b' → b.claims ns e →
    b'.claims ns e' → e.2 < e'.1 ∨ e'.2 < e.1)

/-- The namespace a band's LBAs belong to: the one a base band's index implies, or a locking band's own (R51). -/
def Band.nsAt (b : Band) (i : BandId) : Ns :=
  match b.fields.extent with
  | .locking ns _ _ => ns
  | .base _ _ _ => ⟨i.val % 8, by omega⟩

/-- A migrating band has a binding, its watermark lies from its first to its last LBA, and a base band's watermark
lies in no ACTIVE locking band (R110, R114). A band with a staged MIGRATE-START has a binding (R66, R111). The range
of an open migrate writer ends inside its band (R28). -/
def State.WatermarksOk (s : State) : Prop :=
  (∀ (i : BandId) (b : Band) (r : Migration), s.bands[i] = some b → b.migration = some r →
    b.fields.binding.isSome = true ∧ b.fields.extent.firstLba ≤ r.w ∧ r.w < b.fields.extent.endLba ∧
    (isBase i = true → s.lockingAt (b.nsAt i) r.w = none)) ∧
  (∀ (i : BandId) (b : Band) (target : SlotId) (generation : BitVec 16) (owed : Option Byte),
    s.bands[i] = some b → b.pending = some ⟨.migrateStart target generation, owed⟩ →
    b.fields.binding.isSome = true) ∧
  (∀ (id : CtxId) (c : Context), s.contexts[id] = some c → c.migrate = true → c.dir = .write →
    ∃ (g : Segment) (b : Band), c.segments = [g] ∧ s.bands[g.band] = some b ∧
      c.first + c.count ≤ b.fields.extent.endLba)

/-! ### Keys in use (R2, R54, R90, R110) -/

/-- A slot a band may be bound to: READY or POISONED (R54, R110). -/
def SlotState.bindable : SlotState → Bool
  | .ready _ => true
  | .poisoned _ => true
  | _ => false

/-- A slot an open context may hold: READY or PURGING (R90). -/
def SlotState.lendable : SlotState → Bool
  | .ready _ => true
  | .purging _ _ => true
  | _ => false

/-- Every binding, migration target and staged change names READY or POISONED slots, and every open context holds
READY or PURGING slots alone (R54, R90, R110). -/
def State.KeysOk (s : State) : Prop :=
  (∀ (i : BandId) (b : Band), s.bands[i] = some b →
    (∀ x, b.fields.binding = some x → (s.slots[x.slot]).state.bindable = true) ∧
    (∀ r, b.migration = some r → (s.slots[r.target]).state.bindable = true) ∧
    (∀ k : SlotId, b.changeNames k = true → (s.slots[k]).state.bindable = true)) ∧
  (∀ (id : CtxId) (c : Context) (k : SlotId), s.contexts[id] = some c → c.holds k = true → (s.slots[k]).state.lendable = true)

end Sys2Proof.Machine
end

