-- ==== Sys2Proof/WellFormed.lean ====
section
/-! DEFINITION. Which commands are well formed: their frame is one the lane can carry under the row's name. The other checks of the spec (a slot number above 31, a reserved mask bit) are answered by a REPLY and are no ill-formedness. -/

namespace Sys2Proof

/-- A context id byte of a well-formed OPEN, DATA or ABORT (R145). -/
def ctxByteOk (ctx : Byte) : Bool := decide (ctx.toNat < 64)

/-- A request body of another length: it is not the row's length, and the whole body, code included, is at
most 75 bytes (R145, R172). -/
def Body.ok {α : Type} (len : Nat) : Body α → Bool
  | .fields _ => true
  | .wrongLength bytes => (bytes.length != len) && decide (bytes.length ≤ 74)

/-- Whether the command is the one its row stands for. -/
def Instr.wellFormed : Instr → Bool
  | .openFrame ctx _ _ _ _ _ => ctxByteOk ctx
  | .data _ ctx bytes => ctxByteOk ctx && decide (bytes.length ≤ Config.fragmentMax)
  | .abort ctx => ctxByteOk ctx
  | .malformedFrame lane frame => frameMalformed lane frame
  | .undefinedRequestCode _ code rest =>
    (requestFieldsLength code == none) && decide (rest.length ≤ 74)
  | .wrapLoad _ body => body.ok 33
  | .keyLoad _ body => body.ok 74
  | .querySlot _ body => body.ok 1
  | .keyPurge _ body => body.ok 1
  | .purgeAll _ body => body.ok 0
  | .setGrace _ body => body.ok 4
  | .bandSet _ body => body.ok 34
  | .bandLock _ body => body.ok 2
  | .queryBand _ body => body.ok 1
  | .migrateStart _ body => body.ok 4
  | .tripForce _ body => body.ok 0
  | .tripClear _ body => body.ok 1
  | .noticePeriod _ body => body.ok 2
  | .noticeAck _ body => body.ok 1
  | .queryContext _ body => body.ok 1
  | .goOnline _ body => body.ok 0
  | .timeSet _ body => body.ok 4
  | .queryStatus _ body => body.ok 0
  | .unwrapComplete _ => true
  | .purgeDrain _ => true
  | .purgeExpiry _ => true
  | .pendingChangeApply _ => true
  | .bitDamage _ => true
  | .sendStart _ => true
  | .frameSent _ => true
  | .outboundHold _ _ => true
  | .plockAssert => true
  | .plockDeassert => true
  | .pfailAssert => true
  | .pfailDeassert => true
  | .linkrstAssert => true
  | .linkrstRelease => true
  | .porstAssert => true
  | .porstRelease => true
  | .microsecondPasses => true

end Sys2Proof
end

