-- ==== Sys2Proof/Certificates/Slice0/Obligations.lean ====
section
/-! DEFINITION. The statements for the provers. -/

open Sys2Proof Sys2Proof.Machine

/-! ### The queue of commands, and reset -/

/-- The command at the front of the queue runs on the state with the queue's rest, and on an empty queue the part
idles. Both are the model's way of taking commands (log 1). -/
def Obligations.StepRunsTheFrontCommand : Prop :=
  (∀ (c : Instr) (rest : List Instr) (s : State),
    step { s with pending := c :: rest } = exec c { s with pending := rest }) ∧
  (∀ s : State, s.pending = [] → step s = .next s)

/-- No command stops the machine (log 27), and none changes the queue of commands, which is the model's own (log 1). -/
def Obligations.EveryCommandAnswersNext : Prop :=
  ∀ (c : Instr) (s : State), ∃ t, exec c s = .next t ∧ t.pending = s.pending

/-- What the spec says every item holds after PORST (R48, R70, R92, R105, R142, R154, R159, R160, R162, R171). -/
def Obligations.ResetValues : Prop :=
  (∀ id : CtxId, State.reset.contexts[id] = none ∧ State.reset.donePlaces[id] = .idle ∧
    State.reset.endPlaces[id] = .idle) ∧
  (∀ i : BandId, State.reset.bands[i] = none) ∧
  (∀ k : SlotId, State.reset.slots[k] = { generation := 0, holders := 0, state := .empty }) ∧
  (∀ w : WrapId, State.reset.wraps[w] = .empty) ∧
  (∀ bank, State.reset.bankBusy bank = false) ∧
  State.reset.frontHead = none ∧ State.reset.backHead = none ∧ State.reset.frontQueue = [] ∧
  State.reset.backQueue = [] ∧ State.reset.replies = [] ∧ State.reset.reservations = 0 ∧
  State.reset.frontSending = none ∧ State.reset.backSending = false ∧
  (∀ k : NoticeClass, State.reset.noticeSlots[k.idx] = none ∧
    State.reset.classOf k =
      { flag := false, counter := 0, period := if k = .migrate then 0 else 1, latest := none }) ∧
  State.reset.latched = { plock := false, soft := false, keyfault := false } ∧
  State.reset.life = .prepare ∧ State.reset.linkTime = 0 ∧ State.reset.graceSetting = 250000 ∧
  State.reset.discards = 0 ∧ State.reset.attn = false

/-- The assertion of PORST leaves every record FREE with no DONE or END for it, the discard counter 0, the queues
and reservations empty, no place reserved, and the band table and the key store at their starting values (chapters 2
and 8). The levels the board drives, and the model's own fields, are kept: the model's reading (log 28). -/
def Obligations.PorstFreesEveryContext : Prop :=
  ∀ s : State, s.porstLine = false → ∃ t, exec .porstAssert s = .next t ∧
    (∀ id : CtxId, t.contexts[id] = none ∧ t.donePlaces[id] = .idle ∧ t.endPlaces[id] = .idle) ∧
    t.discards = 0 ∧ t.frontQueue = [] ∧ t.backQueue = [] ∧ t.replies = [] ∧ t.frontSending = none ∧
    t.backSending = false ∧ t.reservations = 0 ∧ (∀ i : BandId, t.bands[i] = none) ∧
    (∀ k : SlotId, (t.slots[k]).holders = 0) ∧
    t = { State.reset with
      porstLine := true, linkrstLine := s.linkrstLine, plockLine := s.plockLine, pfailLine := s.pfailLine,
      frontOutHold := s.frontOutHold, backOutHold := s.backOutHold, choices := s.choices,
      pending := s.pending }

/-- The release of PORST: the line states take the lines' levels, link time is 0, and an asserted PLOCK line latches
PLOCK with its TRIP event, which is queued as the first NOTICE (R142, R154, R162). -/
def Obligations.PorstReleaseFollowsTheLines : Prop :=
  ∀ (s : State) (set : SourceSet) (e : NoticeEvent), s.porstLine = true → s.powerOn = s →
    set = ⟨true, false, false⟩ → e = ⟨0, .trip (.source .plock) set⟩ →
    (s.plockLine = false →
      exec .porstRelease s = .next { s with porstLine := false, linkTime := 0, pfail := s.pfailLine }) ∧
    (s.plockLine = true →
      exec .porstRelease s = .next { s with
        porstLine := false, linkTime := 0, pfail := s.pfailLine, plock := true, latched := set,
        classes := s.classes.set 0 ⟨true, 0, 1, some e⟩, noticeSlots := s.noticeSlots.set 0 (some ⟨e, 1⟩) })

/-! ### The cipher -/

/-- D inverts E and E inverts D, for every key and block (chapter 1). -/
def Obligations.DecipherInvertsEncipher : Prop :=
  ∀ (k : BitVec 256) (x : Block), blockD k (blockE k x) = x ∧ blockE k (blockD k x) = x

/-- The tables of sector sizes (R3) and of ciphered length, full blocks, tail and clear bytes (R5), row by row, and
what holds of every row: at least 32 blocks, a tail of 0 or 8 bytes, and the ciphered length is the blocks and the
tail. The bytes of the tweak (R6): the LBA in bytes 0 to 5, the namespace number in byte 8, the salt, or zero without
one, in bytes 12 to 15, zero elsewhere. The first mask is the tweak under K2; doubling shifts left by one and XORs
0x87 where bit 127 falls out, is a permutation, and takes zero to zero (R7). -/
def Obligations.FormatsAndMasks : Prop :=
  ([Format.f512, .f520, .f4096, .f4104, .f4160].map (fun f => (f.sectorBytes, f.dataBytes, f.metaBytes)) =
    [(512, 512, 0), (520, 512, 8), (4096, 4096, 0), (4104, 4096, 8), (4160, 4096, 64)]) ∧
  ([(Format.f512, MetaMode.ciphered), (.f512, .clear), (.f520, .ciphered), (.f520, .clear), (.f4096, .ciphered),
      (.f4096, .clear), (.f4104, .ciphered), (.f4104, .clear), (.f4160, .ciphered), (.f4160, .clear)].map
      (fun x => (cipheredLength x.1 x.2, fullBlocks x.1 x.2, tailBytes x.1 x.2,
        x.1.sectorBytes - cipheredLength x.1 x.2)) =
    [(512, 32, 0, 0), (512, 32, 0, 0), (520, 32, 8, 0), (512, 32, 0, 8), (4096, 256, 0, 0), (4096, 256, 0, 0),
      (4104, 256, 8, 0), (4096, 256, 0, 8), (4160, 260, 0, 0), (4096, 256, 0, 64)]) ∧
  (∀ (f : Format) (m : MetaMode), f.sectorBytes = f.dataBytes + f.metaBytes ∧
    cipheredLength f m = (if m = .ciphered then f.sectorBytes else f.dataBytes) ∧
    32 ≤ fullBlocks f m ∧ fullBlocks f m ≤ 260 ∧ (tailBytes f m = 0 ∨ tailBytes f m = 8) ∧
    cipheredLength f m = 16 * fullBlocks f m + tailBytes f m) ∧
  (∀ (ns : Ns) (lba : Nat) (salt : Option (BitVec 32)) (v : BitVec 32), v = (match salt with
      | none => 0
      | some x => x) →
    blockBytes (tweak ns lba salt) =
      [BitVec.ofNat 8 lba, BitVec.ofNat 8 (lba / 256), BitVec.ofNat 8 (lba / 256 ^ 2), BitVec.ofNat 8 (lba / 256 ^ 3),
        BitVec.ofNat 8 (lba / 256 ^ 4), BitVec.ofNat 8 (lba / 256 ^ 5), 0, 0, BitVec.ofNat 8 (ns.val + 1), 0, 0, 0,
        v.extractLsb' 0 8, v.extractLsb' 8 8, v.extractLsb' 16 8, v.extractLsb' 24 8]) ∧
  ((∀ k2 t, firstMask k2 t = blockE k2 t) ∧
  (∀ m : Block, double m = if m.getLsbD 127 then (m <<< 1) ^^^ 0x87#128 else m <<< 1) ∧
  Function.Bijective double ∧ double 0 = 0)

/-- The output of a sector, offset by offset. A normal block j (every block where r = 0, every block but the last
where r = 8) is the 16 input bytes at offsets 16j to 16j + 15 through the pipe of the direction under K1 with the mask
M(j) before and after, at the same offsets (R9). Where r = 8, block n - 1 and the tail are stolen: the held block and
the masks M(n - 1) and M(n) as the write or the read path takes them. Clear bytes pass as they are (chapter 1). -/
def Obligations.SectorsAreCipheredBlockByBlock : Prop :=
  ∀ (dir : Direction) (f : Format) (m : MetaMode) (k1 k2 : BitVec 256) (t : Block) (bytes out : List Byte)
    (n : Nat) (mask : Nat → Block),
    bytes.length = f.sectorBytes → out = cipherSector dir f m k1 k2 t bytes → n = fullBlocks f m →
    mask 0 = firstMask k2 t → (∀ j, mask (j + 1) = double (mask j)) →
    (∀ j x, (j + 1 < n ∨ (tailBytes f m = 0 ∧ j < n)) → x = blockOf ((bytes.drop (16 * j)).take 16) →
      (out.drop (16 * j)).take 16 = blockBytes (match dir with
        | .write => blockE k1 (x ^^^ mask j) ^^^ mask j
        | .read => blockD k1 (x ^^^ mask j) ^^^ mask j)) ∧
    (tailBytes f m = 8 → ∀ x held y,
      x = blockOf ((bytes.drop (16 * (n - 1))).take 16) →
      held = (match dir with
        | .write => blockE k1 (x ^^^ mask (n - 1)) ^^^ mask (n - 1)
        | .read => blockD k1 (x ^^^ mask n) ^^^ mask n) →
      y = blockOf ((bytes.drop (16 * n)).take 8 ++ (blockBytes held).drop 8) →
      (out.drop (16 * (n - 1))).take 16 = blockBytes (match dir with
        | .write => blockE k1 (y ^^^ mask n) ^^^ mask n
        | .read => blockD k1 (y ^^^ mask (n - 1)) ^^^ mask (n - 1)) ∧
      (out.drop (16 * n)).take 8 = (blockBytes held).take 8) ∧
    out.drop (cipheredLength f m) = bytes.drop (cipheredLength f m)

/-- A sector enciphered and then deciphered under the same keys and tweak is the plaintext, byte for byte, in every
format and meta mode, clear bytes included; the enciphered sector is as long as the plaintext (chapter 1). -/
def Obligations.ReadInvertsWrite : Prop :=
  ∀ (f : Format) (m : MetaMode) (k1 k2 : BitVec 256) (t : Block) (bytes : List Byte),
    bytes.length = f.sectorBytes →
    (cipherSector .write f m k1 k2 t bytes).length = bytes.length ∧
    cipherSector .read f m k1 k2 t (cipherSector .write f m k1 k2 t bytes) = bytes

/-- A sector's bytes, taken by a record in BOUNDARY, release the transform of the sector under the keys of the chosen
slot and the sector's tweak, and count the sector; the last sector of the count ends the context without overrun, an
earlier one leaves it open (chapters 1 and 2). -/
def Obligations.SectorsAreTransformedWhole : Prop :=
  ∀ (s : State) (c : Context) (bytes : List Byte) (m : Material),
    c.progress = .boundary → c.offset = 0 → c.residue = [] → c.sectorsDone + 1 ≤ c.count →
    bytes.length = c.format.sectorBytes → s.fetch (s.slotFor c (c.first + c.sectorsDone)) = some m →
    s.takeBytes bytes c =
      { ctx := { c with sectorsDone := c.sectorsDone + 1 },
        released := cipherSector c.dir c.format c.metaMode (materialK1 m) (materialK2 m)
          (tweak c.ns (c.first + c.sectorsDone) (s.saltFor c (c.first + c.sectorsDone))) bytes,
        stop := if c.sectorsDone + 1 = c.count then .complete false else .more }

/-- A fragment may be cut anywhere: taking its two parts one after the other releases the same bytes and leaves the
same record (chapter 2). While a context stays open, the bytes released are the bytes taken less the change of the
bytes held back. However it ends, a fragment releases at most its own length plus the bytes held back before it, which
are at most 23 (chapter 1). -/
def Obligations.FragmentsMayBeSplit : Prop :=
  (∀ (s : State) (c : Context) (xs ys : List Byte), (s.takeBytes xs c).stop = .more →
    s.takeBytes (xs ++ ys) c =
      { s.takeBytes ys (s.takeBytes xs c).ctx with
        released := (s.takeBytes xs c).released ++ (s.takeBytes ys (s.takeBytes xs c).ctx).released }) ∧
  (∀ (s : State) (c : Context) (bytes : List Byte), c.ok → (s.takeBytes bytes c).stop = .more →
    (s.takeBytes bytes c).released.length + (s.takeBytes bytes c).ctx.heldBack = bytes.length + c.heldBack) ∧
  (∀ (s : State) (c : Context) (bytes : List Byte), c.ok → c.heldBack ≤ 23 ∧
    (s.takeBytes bytes c).released.length ≤ bytes.length + c.heldBack ∧
    (s.takeBytes bytes c).released.length ≤ bytes.length + 23)

/-- A word passes its check when its 33 bits hold an odd number of ones: a fresh word passes, one inverted bit turns
the result, and stored keys read back (chapter 4). BIT_DAMAGE inverts the one stored bit of a key slot that stores
words, or of a wrap slot that does, and changes nothing else (chapter 4). -/
def Obligations.ParityDetectsOneDamagedBit : Prop :=
  ((∀ v : BitVec 32, (StoredWord.fresh v).passes = true ∧ (StoredWord.fresh v).word = v) ∧
  (∀ (w : StoredWord) (bit : Fin 33), (w.invert bit).passes = !w.passes ∧ (w.invert bit).invert bit = w) ∧
  (∀ key : BitVec 256, allPass (storeWords 8 key) = true ∧ wrapKey (storeWords 8 key) = key) ∧
  (∀ m : BitVec 512, allPass (storeWords 16 m) = true ∧
    materialK1 (storeWords 16 m) = m.extractLsb' 0 256 ∧ materialK2 (storeWords 16 m) = m.extractLsb' 256 256)) ∧
  (∀ (s : State) (k : SlotId) (w : WrapId) (i : Fin 16) (j : Fin 8) (bit : Fin 33),
    exec (.bitDamage (.key k i bit)) s = .next { s with slots := s.slots.set k { s.slots[k] with
      state := match (s.slots[k]).state with
        | .ready m => .ready (m.set i ((m[i]).invert bit))
        | .purging m a => .purging (m.set i ((m[i]).invert bit)) a
        | .poisoned m => .poisoned (m.set i ((m[i]).invert bit))
        | .empty => .empty
        | .loading l => .loading l } } ∧
    exec (.bitDamage (.wrap w j bit)) s = .next { s with wraps := s.wraps.set w (match s.wraps[w] with
      | .loaded m => .loaded (m.set j ((m[j]).invert bit))
      | .faulty m => .faulty (m.set j ((m[j]).invert bit))
      | .empty => .empty) })

/-! ### Inbound lanes -/

/-- Every run of bytes on an inbound lane is one well-formed frame command of that lane. A run shorter than a header
is malformed (log 21); a longer one is malformed exactly where the length in its header disagrees with its body, or
its kind, lane, body length, context id byte or direction byte is not as listed (R145, R172). The DISCARD event of a
malformed frame carries the id byte where the kind is OPEN, DATA or ABORT and the byte is 0 to 63 (R172). Every frame
laid out as listed gives the command with its fields: OPEN, DATA, ABORT, and every REQUEST by its code; a REQUEST whose
body has another length, or whose code is not in the table, keeps its bytes (11.2, 11.3). The outbound frames are laid
out as listed: DATA, DONE, END, REPLY with its result fields, NOTICE with its detail padded by zeros, and every code
value (R174, 11.2 to 11.5); a lane that sends shows the bytes of the frame it sends. -/
def Obligations.FramesFollowTheirLayouts : Prop :=
  -- little-endian fields
  (∀ (size n : Nat), (leBytes size n).length = size ∧
    (∀ j, j < size → (leBytes size n)[j]? = some (BitVec.ofNat 8 (n / 256 ^ j))) ∧
    ∀ (w : Nat) (v : BitVec w), leWord size v = leBytes size v.toNat) ∧
  -- what any bytes give
  (∀ (lane : InLane) (frame : List Byte),
    (frameCommand lane frame).wellFormed = true ∧ isFrame (frameCommand lane frame) = true ∧
    frameLane (frameCommand lane frame) = lane ∧
    (frame.length < 4 → frameCommand lane frame = .malformedFrame lane frame ∧ malformedCtx frame = none)) ∧
  (∀ (lane : InLane) (kind l0 l1 id : Byte) (body frame : List Byte), frame = kind :: l0 :: l1 :: id :: body →
    (frameCommand lane frame = .malformedFrame lane frame ↔
      l0.toNat + 256 * l1.toNat ≠ body.length ∨
      (kind ≠ 0x01 ∧ kind ≠ 0x02 ∧ kind ≠ 0x03 ∧ kind ≠ 0x04) ∨ (lane = .back ∧ kind ≠ 0x02) ∨
      (kind = 0x01 ∧ (body.length ≠ 11 ∨ 64 ≤ id.toNat ∨ (body[0]? ≠ some 0x01 ∧ body[0]? ≠ some 0x02))) ∨
      (kind = 0x02 ∧ (2048 < body.length ∨ 64 ≤ id.toNat)) ∨
      (kind = 0x03 ∧ (body.length ≠ 0 ∨ 64 ≤ id.toNat)) ∨
      (kind = 0x04 ∧ (body.length = 0 ∨ 75 < body.length))) ∧
    (∀ j : CtxId, malformedCtx frame = some j ↔
      (kind = 0x01 ∨ kind = 0x02 ∨ kind = 0x03) ∧ j.val = id.toNat)) ∧
  -- inbound transfer frames
  (∀ (lane : InLane) (id flags ns : Byte) (first : BitVec 48) (count : BitVec 16) (bytes : List Byte),
    id.toNat < 64 → bytes.length ≤ 2048 →
    frameCommand .front ([0x01, 11, 0, id, 0x01, flags, ns] ++ leWord 6 first ++ leWord 2 count) =
      .openFrame id .write flags ns first count ∧
    frameCommand .front ([0x01, 11, 0, id, 0x02, flags, ns] ++ leWord 6 first ++ leWord 2 count) =
      .openFrame id .read flags ns first count ∧
    frameCommand lane ([0x02] ++ leBytes 2 bytes.length ++ [id] ++ bytes) = .data lane id bytes ∧
    frameCommand .front [0x03, 0, 0, id] = .abort id) ∧
  -- requests, by code
  (∀ (tag : Byte) (request : List Byte → Instr),
    (∀ body, request body = frameCommand .front ([0x04] ++ leBytes 2 body.length ++ [tag] ++ body)) →
    (∀ f : WrapLoadFields, request ([0x01, f.wrapSlot] ++ leWord 32 f.key) = .wrapLoad tag (.fields f)) ∧
    (∀ f : KeyLoadFields,
      request ([0x02, f.keySlot, f.wrapSlot] ++ leWord 72 f.blob) = .keyLoad tag (.fields f)) ∧
    (∀ f : BandSetFields, request ([0x07, f.band, f.state, f.namespaceNumber, f.format, f.metaMode,
        f.bindingPresent, f.slot] ++ leWord 2 f.generation ++ [f.locks, f.saltPresent] ++ leWord 4 f.salt ++
        [f.tripMask, f.latchedAction, f.pfailResponse] ++ leWord 8 f.extentA ++ leWord 8 f.extentB) =
      .bandSet tag (.fields f)) ∧
    (∀ f : BandLockFields, request [0x08, f.band, f.locks] = .bandLock tag (.fields f)) ∧
    (∀ f : MigrateStartFields,
      request ([0x0A, f.band, f.target] ++ leWord 2 f.generation) = .migrateStart tag (.fields f)) ∧
    (∀ f : NoticePeriodFields, request [0x0D, f.noticeClass, f.period] = .noticePeriod tag (.fields f)) ∧
    (∀ v : BitVec 32, request ([0x06] ++ leWord 4 v) = .setGrace tag (.fields v) ∧
      request ([0x11] ++ leWord 4 v) = .timeSet tag (.fields v)) ∧
    (∀ b : Byte, request [0x03, b] = .querySlot tag (.fields b) ∧ request [0x04, b] = .keyPurge tag (.fields b) ∧
      request [0x09, b] = .queryBand tag (.fields b) ∧ request [0x0C, b] = .tripClear tag (.fields b) ∧
      request [0x0E, b] = .noticeAck tag (.fields b) ∧ request [0x0F, b] = .queryContext tag (.fields b)) ∧
    request [0x05] = .purgeAll tag (.fields ()) ∧ request [0x0B] = .tripForce tag (.fields ()) ∧
    request [0x10] = .goOnline tag (.fields ()) ∧ request [0x12] = .queryStatus tag (.fields ()) ∧
    (∀ rest : List Byte, rest.length ≤ 74 →
      (rest.length ≠ 33 → request (0x01 :: rest) = .wrapLoad tag (.wrongLength rest)) ∧
      (rest.length ≠ 74 → request (0x02 :: rest) = .keyLoad tag (.wrongLength rest)) ∧
      (rest.length ≠ 1 → request (0x03 :: rest) = .querySlot tag (.wrongLength rest) ∧
        request (0x04 :: rest) = .keyPurge tag (.wrongLength rest) ∧
        request (0x09 :: rest) = .queryBand tag (.wrongLength rest) ∧
        request (0x0C :: rest) = .tripClear tag (.wrongLength rest) ∧
        request (0x0E :: rest) = .noticeAck tag (.wrongLength rest) ∧
        request (0x0F :: rest) = .queryContext tag (.wrongLength rest)) ∧
      (rest.length ≠ 0 → request (0x05 :: rest) = .purgeAll tag (.wrongLength rest) ∧
        request (0x0B :: rest) = .tripForce tag (.wrongLength rest) ∧
        request (0x10 :: rest) = .goOnline tag (.wrongLength rest) ∧
        request (0x12 :: rest) = .queryStatus tag (.wrongLength rest)) ∧
      (rest.length ≠ 4 → request (0x06 :: rest) = .setGrace tag (.wrongLength rest) ∧
        request (0x0A :: rest) = .migrateStart tag (.wrongLength rest) ∧
        request (0x11 :: rest) = .timeSet tag (.wrongLength rest)) ∧
      (rest.length ≠ 34 → request (0x07 :: rest) = .bandSet tag (.wrongLength rest)) ∧
      (rest.length ≠ 2 → request (0x08 :: rest) = .bandLock tag (.wrongLength rest) ∧
        request (0x0D :: rest) = .noticePeriod tag (.wrongLength rest)) ∧
      (∀ code : Byte, code = 0 ∨ 0x12 < code.toNat →
        request (code :: rest) = .undefinedRequestCode tag code rest))) ∧
  -- outbound transfer frames
  (∀ (id : CtxId) (bytes : List Byte) (status : TransferStatus) (sectors : Nat) (elapsed : BitVec 32) (c : Byte),
    c = BitVec.ofNat 8 id.val →
    (FrontEntry.data id bytes).bytes = [0x02] ++ leBytes 2 bytes.length ++ [c] ++ bytes ∧
    (BackEntry.data id bytes).bytes = [0x02] ++ leBytes 2 bytes.length ++ [c] ++ bytes ∧
    (FrontEntry.done id status sectors elapsed).bytes =
      [0x11, 9, 0, c, status.code] ++ leBytes 4 sectors ++ leWord 4 elapsed ∧
    (FrontEntry.refusal id status).bytes = [0x11, 9, 0, c, status.code, 0, 0, 0, 0, 0, 0, 0, 0] ∧
    (BackEntry.ended id status sectors).bytes = [0x12, 5, 0, c, status.code] ++ leBytes 4 sectors) ∧
  -- replies
  (∀ r : Reply, r.bytes = [0x13] ++ leBytes 2 (2 + r.result.bytes.length) ++ [r.tag, r.code, r.status.code] ++
    r.result.bytes) ∧
  (Result.none.bytes = [] ∧ (∀ k g, (Result.keyLoad k g).bytes = [k] ++ leWord 2 g) ∧
    (∀ k d c, (Result.keyPurge k d c).bytes = [k, d, c]) ∧ (∀ v, (Result.grace v).bytes = leWord 4 v) ∧
    (∀ i, (Result.band i).bytes = [i]) ∧ (∀ i w, (Result.migrateStart i w).bytes = [i] ++ leWord 8 w) ∧
    (∀ x, (Result.latched x).bytes = [x.byte]) ∧ (∀ k p, (Result.noticePeriod k p).bytes = [k, p]) ∧
    (∀ m, (Result.noticeAck m).bytes = [m]) ∧ (∀ v, (Result.time v).bytes = leWord 4 v) ∧
    (∀ r, (Result.slot r).bytes = [r.state] ++ leWord 2 r.generation ++ [r.holders] ++ leWord 4 r.grace ∧
      (Result.slot r).bytes.length = 8) ∧
    (∀ r, (Result.bandReport r).bytes = [r.state, r.namespaceNumber, r.format, r.metaMode] ++ leWord 8 r.extentA ++
        leWord 8 r.extentB ++ [r.bindingPresent, r.slot] ++ leWord 2 r.generation ++ [r.locks, r.saltPresent] ++
        leWord 4 r.salt ++ [r.tripMask, r.latchedAction, r.pfailResponse, r.openCount, r.recordPresent, r.target] ++
        leWord 2 r.targetGeneration ++ leWord 8 r.w ++ [r.writerPresent, r.writer, r.pendingKind] ∧
      (Result.bandReport r).bytes.length = 49) ∧
    (∀ r, (Result.context r).bytes = [r.state, r.direction, r.flags, r.namespaceNumber] ++ leWord 6 r.first ++
        leWord 2 r.countMinusOne ++ leWord 2 r.sectorsDone ++ leWord 2 r.offset ++
        [r.residueLength, r.heldPresent, r.segmentCount] ++ leWord 4 r.openTime ∧
      (Result.context r).bytes.length = 23) ∧
    (∀ r, (Result.status r).bytes = [r.life, r.latched, r.lines, r.openContexts] ++ leWord 4 r.discards ++
        leWord 4 r.linkTime ++ leWord 4 r.grace ++ [r.reservations] ∧
      (Result.status r).bytes.length = 17)) ∧
  -- notices
  (∀ (time : BitVec 32) (count : Nat) (notice : Detail → List Byte) (head : Byte → List Byte),
    (∀ d, notice d = (Notice.mk ⟨time, d⟩ count).bytes) →
    (∀ code, head code = [0x14, 15, 0, code] ++ leWord 4 time ++ [BitVec.ofNat 8 count]) →
    (∀ cause x, notice (.trip cause x) = head 0 ++ [cause.code, x.byte] ++ List.replicate 8 0) ∧
    (∀ k n, notice (.keyfault (.keySlot k) n) =
      head 1 ++ [0, BitVec.ofNat 8 k.val, BitVec.ofNat 8 n] ++ List.replicate 7 0) ∧
    (∀ w n, notice (.keyfault (.wrapSlot w) n) =
      head 1 ++ [1, BitVec.ofNat 8 w.val, BitVec.ofNat 8 n] ++ List.replicate 7 0) ∧
    (∀ k cause drained cut, notice (.purge k cause drained cut) = head 2 ++
      [BitVec.ofNat 8 k.val, cause.code, BitVec.ofNat 8 drained, BitVec.ofNat 8 cut] ++ List.replicate 6 0) ∧
    (∀ i kind w, notice (.migrate i kind w) = head 3 ++ [BitVec.ofNat 8 i.val, kind.code] ++ leBytes 8 w) ∧
    (∀ kind n, notice (.discard kind none n) = head 4 ++ [kind.code, 0xFF] ++ leWord 4 n ++ List.replicate 4 0) ∧
    (∀ kind id n, notice (.discard kind (some id) n) =
      head 4 ++ [kind.code, BitVec.ofNat 8 id.val] ++ leWord 4 n ++ List.replicate 4 0)) ∧
  -- code values
  ([TransferStatus.ok, .notOnline, .ctxBusy, .noNamespace, .outOfRange, .bandChanging, .noKey, .keyFault, .locked,
      .powerHold, .migrateOrder, .aborted, .tripped, .keyPurged].map (·.code) =
    [0, 1, 2, 3, 4, 5, 6, 7, 8, 9, 10, 11, 12, 13]) ∧
  ([ReplyStatus.ok, .badRequest, .wrongState, .slotBusy, .bankBusy, .noWrap, .wrapInvalid, .wrapFault, .keyWeak,
      .abandoned, .notReady, .genMismatch, .noBand, .outOfRange, .overlap, .busy, .migrating, .noKey, .tripped,
      .stillAsserted].map (·.code) =
    [0, 1, 2, 3, 4, 5, 6, 7, 8, 9, 10, 11, 12, 13, 14, 15, 16, 17, 18, 19]) ∧
  ([TripCause.source .plock, .source .soft, .source .keyfault, .pfail].map (·.code) = [0, 1, 2, 3]) ∧
  ([PurgeCause.request, .trip, .migrateFail, .all].map (·.code) = [0, 1, 2, 3]) ∧
  ([MigrateKind.advance, .complete, .failed].map (·.code) = [0, 1, 2]) ∧
  ([DiscardKind.stray, .wrongLane, .overrun, .malformed].map (·.code) = [0, 1, 2, 3]) ∧
  ([RequestCode.wrapLoad, .keyLoad, .querySlot, .keyPurge, .purgeAll, .setGrace, .bandSet, .bandLock, .queryBand,
      .migrateStart, .tripForce, .tripClear, .noticePeriod, .noticeAck, .queryContext, .goOnline, .timeSet,
      .queryStatus].map (·.byte) = (List.range 18).map fun n => BitVec.ofNat 8 (n + 1)) ∧
  (∀ a b c : Bool, (SourceSet.mk a b c).byte =
    (if a then 0x01#8 else 0) ||| (if b then 0x02#8 else 0) ||| (if c then 0x04#8 else 0)) ∧
  -- the frame a lane sends
  (∀ s : State, (s.frontSending = none → s.frontFrame = none) ∧
    (∀ k n, s.frontSending = some (.notice k) → s.noticeSlots[k.idx] = some n → s.frontFrame = some n.bytes) ∧
    (∀ r rest, s.frontSending = some .reply → s.replies = r :: rest → s.frontFrame = some r.bytes) ∧
    (∀ e rest, s.frontSending = some .data → s.frontQueue = e :: rest → s.frontFrame = some e.bytes) ∧
    (∀ e rest, s.backSending = true → s.backQueue = e :: rest → s.backFrame = some e.bytes) ∧
    (s.backSending = false → s.backFrame = none))

/-- A frame begun while its lane's hold line is asserted is not received (chapter 8; log 7). A frame whose
conditions fail stands at its lane's head, the lane is then held, and nothing else changes (chapter 8). -/
def Obligations.FramesAreHeldByTheirLane : Prop :=
  (∀ (frame : Instr) (s : State), isFrame frame = true → s.holdLine (frameLane frame) = true →
    exec frame s = .next s) ∧
  (∀ (frame : Instr) (s : State), isFrame frame = true → s.holdLine (frameLane frame) = false →
    s.takeable frame = false →
    exec frame s = .next (match frameLane frame with
      | .front => { s with frontHead := some frame }
      | .back => { s with backHead := some frame }) ∧
    (s.setHead (frameLane frame) (some frame)).holdLine (frameLane frame) = true)

/-- When each kind of frame is taken (the table of chapter 8): an OPEN with a free DATA place and its id's DONE and END
places not FILLED; DATA with a free DATA place of its lane's queue, where, for an open context of the lane's direction,
no in-range byte of the fragment at a sector's first offset takes a slot in a bank with a load in progress (chapters 2
and 4); a REQUEST, whatever its code, with a free reply reservation; DATA of no byte, ABORT and a malformed frame at
once. -/
def Obligations.FramesAreTakenWhen : Prop :=
  ∀ s : State,
    (∀ (ctx : Byte) (id : CtxId) dir flags ns first count, ctxOf ctx = some id →
      (s.takeable (.openFrame ctx dir flags ns first count) = true ↔
        s.frontQueue.countP FrontEntry.inDataPlace < 16 ∧ s.donePlaces[id] ≠ .filled ∧
        s.endPlaces[id] ≠ .filled)) ∧
    (∀ (lane : InLane) (ctx : Byte) (id : CtxId) (bytes : List Byte), ctxOf ctx = some id → 1 ≤ bytes.length →
      bytes.length ≤ 2048 →
      (s.pairedPlaceFree lane = true ↔ (match lane with
        | .front => s.backQueue.countP BackEntry.inDataPlace
        | .back => s.frontQueue.countP FrontEntry.inDataPlace) < 16) ∧
      ((∀ c, s.contexts[id] = some c → c.dir ≠ laneDir lane) →
        (s.takeable (.data lane ctx bytes) = true ↔ s.pairedPlaceFree lane = true)) ∧
      (∀ c, s.contexts[id] = some c → c.dir = laneDir lane →
        (s.takeable (.data lane ctx bytes) = true ↔
          s.pairedPlaceFree lane = true ∧
          ∀ n p, n < bytes.length → p = c.sectorsDone * c.format.sectorBytes + c.offset + n →
            p < c.count * c.format.sectorBytes → p % c.format.sectorBytes = 0 →
            ∀ k : SlotId, k.val % 2 = (s.slotFor c (c.first + p / c.format.sectorBytes)).val % 2 →
              (s.slots[k]).isLoading = false))) ∧
    (∀ (lane : InLane) (ctx : Byte), s.takeable (.data lane ctx []) = true) ∧
    (∀ ctx, s.takeable (.abort ctx) = true) ∧
    (∀ lane frame, s.takeable (.malformedFrame lane frame) = true) ∧
    (∀ request, isRequest request = true → (s.takeable request = true ↔ s.reservations < 8))

/-- Every command keeps it that no head frame stands whose conditions hold (chapter 8), where the items stand at their
values after PORST while PORST is asserted, as every command keeps. An event that tests the held heads takes the head
frame whose conditions have come to hold: where one alone is ready it is taken, and the other is then tested against
what its taking left; where both are, either may be first, which is left open (chapters 4 and 8; log 6); where none is,
nothing changes; and after it none is ready. The taking is that of the frame's own command: a frame presented on a lane
that is not held, whose conditions hold, is taken, and the other head tested. Every command but a reset does with frames
standing at the heads what it does without them, as the other statements say it, and the heads are then tested; which
events test them is the model's reading (log 8; of a microsecond stated where no unwrap is at its bound, since its end is
an event of its own: log 9; that several expiries of one microsecond are followed by one test is its choice: log 33). -/
def Obligations.SettledIsKept : Prop :=
  (∀ (c : Instr) (s t : State), s.PowerOk → s.Settled → exec c s = .next t → t.Settled) ∧
  (∀ (s : State) (lane : InLane), s.settle.headReady lane = false) ∧
  -- what testing the heads does
  (∀ s : State, s.Settled → s.settle = s) ∧
  (∀ (s : State) (f : Instr), s.frontHead = some f → s.backHead = none → s.takeable f = true →
    s.settle = takeFrame f { s with frontHead := none }) ∧
  (∀ (s : State) (g : Instr), s.frontHead = none → s.backHead = some g → s.takeable g = true →
    s.settle = takeFrame g { s with backHead := none }) ∧
  (∀ (s r : State) (f g : Instr), s.frontHead = some f → s.backHead = some g →
    (s.takeable f = true → s.takeable g = false → r = takeFrame f { s with frontHead := none } →
      s.settle = if r.takeable g then takeFrame g { r with backHead := none } else r) ∧
    (s.takeable f = false → s.takeable g = true → r = takeFrame g { s with backHead := none } →
      s.settle = if r.takeable f then takeFrame f { r with frontHead := none } else r)) ∧
  (∀ (s u r q : State) (f g : Instr), s.frontHead = some f → s.backHead = some g → s.takeable f = true →
    s.takeable g = true → u = { s with choices := s.choices + 2 } →
    r = takeFrame f { u with frontHead := none } → q = takeFrame g { u with backHead := none } →
    (s.settle = if r.takeable g then takeFrame g { r with backHead := none } else r) ∨
    (s.settle = if q.takeable f then takeFrame f { q with frontHead := none } else q)) ∧
  -- which commands take frames and test the heads
  (∀ (frame : Instr) (s : State), s.Settled → isFrame frame = true → s.holdLine (frameLane frame) = false →
    s.takeable frame = true → exec frame s = .next (takeFrame frame s).settle) ∧
  (∀ (c : Instr) (s v : State), s.PowerOk → s.Settled →
    (match c with
      | .linkrstAssert => False
      | .porstAssert => False
      | .microsecondPasses => ∀ (k : SlotId) (l : Load), (s.slots[k]).state = .loading l → 1 < l.timeLeft
      | _ => isFrame c = true → s.holdLine (frameLane c) = false ∧ s.takeable c = true) →
    exec c { s with frontHead := none, backHead := none } = .next v →
    exec c s = .next ({ v with frontHead := s.frontHead, backHead := s.backHead } : State).settle)

/-! ### OPEN -/

/-- An OPEN in PREPARE is refused with NOT_ONLINE, and one that names an open record with CTX_BUSY: a refusal DONE
in a DATA place, and nothing else changes (chapter 2). The fifth check on a band, in its order; over the bands, in the
order of their segments, the first band that fails gives the status (chapter 2). The sixth check, for an OPEN with the
migrate flag: one segment, of a band with a record, a READ at or above W, a WRITE at W without an open migrate writer;
otherwise MIGRATE_ORDER (chapter 2). An OPEN that passes every check is not refused. -/
def Obligations.OpenChecksInOrder : Prop :=
  (∀ (s : State) (ctx : Byte) (id : CtxId) (dir : Direction) (flags nsByte : Byte) (first : BitVec 48)
    (count : BitVec 16), ctxOf ctx = some id → s.holdLine .front = false → s.openTakeable ctx = true →
    (s.life = .prepare → exec (.openFrame ctx dir flags nsByte first count) s =
      .next { s with frontQueue := s.frontQueue ++ [.refusal id .notOnline] }) ∧
    (s.life = .online → (s.contexts[id]).isSome = true →
      exec (.openFrame ctx dir flags nsByte first count) s =
      .next { s with frontQueue := s.frontQueue ++ [.refusal id .ctxBusy] })) ∧
  (∀ (s : State) (dir : Direction) (b : Band), s.bandRefusal dir b =
    if b.pending.isSome then some .bandChanging
    else if b.fields.binding.isNone then some .noKey
    else if (b.fields.binding.any fun x => (s.slots[x.slot]).isPoisoned) ||
      (b.migration.any fun r => (s.slots[r.target]).isPoisoned) then some .keyFault
    else if (match dir with
      | .read => b.fields.readLock
      | .write => b.fields.writeLock) then some .locked
    else if dir = .write ∧ s.pfail = true ∧ b.fields.pfail = .hold then some .powerHold
    else none) ∧
  (∀ (s : State) (ctx : Byte) (id : CtxId) (dir : Direction) (flags nsByte : Byte) (first : BitVec 48)
    (count : BitVec 16) (ns : Ns) (base : Band) (size : Nat) (f : Format) (m : MetaMode) (spans : List Span),
    ctxOf ctx = some id → s.holdLine .front = false → s.openTakeable ctx = true → s.life = .online →
    s.contexts[id] = none → nsOf nsByte = some ns → s.bands[baseBand ns] = some base →
    base.fields.extent = .base size f m → first.toNat + (count.toNat + 1) ≤ size →
    spans = s.spans ns first.toNat (count.toNat + 1) →
    (∀ before g after b status, spans = before ++ g :: after →
      (∀ h ∈ before, ∀ x, s.bands[h.band] = some x → s.bandRefusal dir x = none) →
      s.bands[g.band] = some b → s.bandRefusal dir b = some status →
      exec (.openFrame ctx dir flags nsByte first count) s =
        .next { s with frontQueue := s.frontQueue ++ [.refusal id status] }) ∧
    ((∀ h ∈ spans, ∀ x, s.bands[h.band] = some x → s.bandRefusal dir x = none) →
      (flags.getLsbD 0 = false →
        s.openRefusal id dir false (some ns) first.toNat (count.toNat + 1) = none) ∧
      (flags.getLsbD 0 = true →
        (∀ g b r, spans = [g] → s.bands[g.band] = some b → b.migration = some r →
          (dir = .read → r.w ≤ first.toNat) → (dir = .write → first.toNat = r.w ∧ b.writer = none) →
          s.openRefusal id dir true (some ns) first.toNat (count.toNat + 1) = none) ∧
        ((∀ g b r, spans = [g] → s.bands[g.band] = some b → b.migration = some r →
            ¬((dir = .read → r.w ≤ first.toNat) ∧ (dir = .write → first.toNat = r.w ∧ b.writer = none))) →
          exec (.openFrame ctx dir flags nsByte first count) s =
            .next { s with frontQueue := s.frontQueue ++ [.refusal id .migrateOrder] }))))

/-- The third and fourth checks of an OPEN: the base band of its namespace is ACTIVE, and the range ends at or below
that band's size as it stands (R26). -/
def Obligations.OpenNeedsANamespaceAndARange : Prop :=
  ∀ (s : State) (ctx : Byte) (id : CtxId) (dir : Direction) (flags nsByte : Byte) (first : BitVec 48)
    (count : BitVec 16), ctxOf ctx = some id → s.holdLine .front = false → s.openTakeable ctx = true →
    s.life = .online → s.contexts[id] = none →
    (nsOf nsByte = none ↔ nsByte.toNat = 0 ∨ 9 ≤ nsByte.toNat) ∧
    (∀ ns, nsOf nsByte = some ns → (baseBand ns).val = nsByte.toNat - 1) ∧
    ((nsByte.toNat = 0 ∨ 9 ≤ nsByte.toNat) → exec (.openFrame ctx dir flags nsByte first count) s =
      .next { s with frontQueue := s.frontQueue ++ [.refusal id .noNamespace] }) ∧
    (∀ ns, nsOf nsByte = some ns → s.bands[baseBand ns] = none →
      exec (.openFrame ctx dir flags nsByte first count) s =
      .next { s with frontQueue := s.frontQueue ++ [.refusal id .noNamespace] }) ∧
    (∀ ns b size f m, nsOf nsByte = some ns → s.bands[baseBand ns] = some b → b.fields.extent = .base size f m →
      (size < first.toNat + (count.toNat + 1) → exec (.openFrame ctx dir flags nsByte first count) s =
        .next { s with frontQueue := s.frontQueue ++ [.refusal id .outOfRange] }) ∧
      (first.toNat + (count.toNat + 1) ≤ size →
        exec (.openFrame ctx dir flags nsByte first count) s ≠
          .next { s with frontQueue := s.frontQueue ++ [.refusal id .noNamespace] } ∧
        exec (.openFrame ctx dir flags nsByte first count) s ≠
          .next { s with frontQueue := s.frontQueue ++ [.refusal id .outOfRange] }))

/-- The segments of a range: contiguous, from its first to its last LBA, each owned throughout by its band, and two
neighbours by different bands (chapter 1). The premise is the band table's own invariant. -/
def Obligations.SegmentsFollowTheOwners : Prop :=
  ∀ (s : State) (ns : Ns) (first count : Nat), s.LayoutOk → 0 < count →
    (s.spans ns first count).head?.map (·.first) = some first ∧
    (s.spans ns first count).getLast?.map (·.last) = some (first + count - 1) ∧
    (∀ g ∈ s.spans ns first count, g.first ≤ g.last ∧
      ∀ lba, g.first ≤ lba → lba ≤ g.last → s.owner ns lba = g.band) ∧
    (∀ k a b, (s.spans ns first count)[k]? = some a → (s.spans ns first count)[k + 1]? = some b →
      b.first = a.last + 1 ∧ b.band ≠ a.band)

/-- An OPEN that passes its checks opens the record in BOUNDARY with the slots its bands have now, reserves its
places and raises the counts of what it names, once each; a refused one appends its refusal DONE alone (chapter 2).
Each segment takes its band's current slot, and the target of the band's migration record where it has one; the format
and meta mode are those of the namespace's base band (chapter 2). -/
def Obligations.OpenIsRefusedOrAccepted : Prop :=
  (∀ (s : State) (g : Span), (s.segmentOf g).band = g.band ∧ (s.segmentOf g).first = g.first ∧
    (s.segmentOf g).last = g.last ∧
    (∀ b x, s.bands[g.band] = some b → b.fields.binding = some x → (s.segmentOf g).current = x.slot) ∧
    (∀ b, s.bands[g.band] = some b → b.migration = none → (s.segmentOf g).target = none) ∧
    (∀ b r, s.bands[g.band] = some b → b.migration = some r → (s.segmentOf g).target = some r.target)) ∧
  (∀ (s : State) (ns : Ns) (b : Band) (size : Nat) (f : Format) (m : MetaMode),
    s.bands[baseBand ns] = some b → b.fields.extent = .base size f m → s.formatOfNs ns = (f, m)) ∧
  (∀ (s : State) (ctx : Byte) (id : CtxId) (dir : Direction) (flags nsByte : Byte) (first : BitVec 48)
    (count : BitVec 16), ctxOf ctx = some id → s.holdLine .front = false → s.openTakeable ctx = true →
    (∀ status, s.openRefusal id dir (flags.getLsbD 0) (nsOf nsByte) first.toNat (count.toNat + 1) = some status →
      exec (.openFrame ctx dir flags nsByte first count) s =
        .next { s with frontQueue := s.frontQueue ++ [.refusal id status] }) ∧
    (s.openRefusal id dir (flags.getLsbD 0) (nsOf nsByte) first.toNat (count.toNat + 1) = none →
      ∃ t c ns, exec (.openFrame ctx dir flags nsByte first count) s = .next t ∧ nsOf nsByte = some ns ∧
        t.contexts = s.contexts.set id (some c) ∧
        c = { dir := dir, migrate := flags.getLsbD 0, ns := ns, first := first.toNat, count := count.toNat + 1,
              format := (s.formatOfNs ns).1, metaMode := (s.formatOfNs ns).2,
              segments := (s.spans ns first.toNat (count.toNat + 1)).map s.segmentOf,
              sectorsDone := 0, offset := 0, residue := [], progress := .boundary, openTime := s.linkTime } ∧
        t.donePlaces = s.donePlaces.set id .reserved ∧
        t.endPlaces = (if dir = .write then s.endPlaces.set id .reserved else s.endPlaces) ∧
        (∀ i : BandId, t.bands[i] = (s.bands[i]).map fun b =>
          if c.names i then { b with
            openCount := b.openCount + 1,
            writer := if c.migrate = true ∧ dir = .write then some id else b.writer } else b) ∧
        (∀ k : SlotId, t.slots[k] =
          if c.holds k then { s.slots[k] with holders := (s.slots[k]).holders + 1 } else s.slots[k]) ∧
        { t with contexts := s.contexts, donePlaces := s.donePlaces, endPlaces := s.endPlaces,
                 bands := s.bands, slots := s.slots } = s))

/-! ### DATA, ABORT, and discards -/

/-- A fragment that leaves its context open changes the record and appends one DATA frame of the released bytes,
where there are any, to the queue of its direction, and nothing else (chapter 2). -/
def Obligations.DataIsProcessed : Prop :=
  ∀ (s : State) (lane : InLane) (ctx : Byte) (id : CtxId) (bytes : List Byte) (c : Context) (f : Fragment),
    ctxOf ctx = some id → s.holdLine .front = false → s.holdLine .back = false → bytes ≠ [] →
    bytes.length ≤ 2048 → s.contexts[id] = some c → c.dir = laneDir lane → s.pairedPlaceFree lane = true →
    s.needsBusyBank lane ctx bytes.length = false → s.takeBytes bytes c = f → f.stop = .more →
    exec (.data lane ctx bytes) s = .next { s with
      contexts := s.contexts.set id (some f.ctx),
      frontQueue := if c.dir = .read ∧ f.released ≠ [] then s.frontQueue ++ [.data id f.released]
        else s.frontQueue,
      backQueue := if c.dir = .write ∧ f.released ≠ [] then s.backQueue ++ [.data id f.released]
        else s.backQueue }

/-- The fragment that ends the last sector completes the context: its DATA frame, then DONE OK with the sectors and the
elapsed time in the DONE place, for a write END OK in the END place, and the record is FREE; no other record changes.
Overrun bytes are counted once, and the DISCARD class then has an event of kind OVERRUN with the context id and the
counter's new value, counted once as every event is; without overrun the class stays, and the TRIP and KEYFAULT classes
stay (chapters 2 and 10). The open count of every band it names, where no change is staged, and the holder count of
every slot it holds fall by 1, and it is no band's migrate writer any more (chapter 2). A PURGING slot it holds enters
it as drained, and is erased with its reply where it was the last holder; a slot in another state stays in it; the one
purge that drains so reports its PURGE event, and where none drains the PURGE class stays (chapter 5). A migrate writer
moves the watermark of its band to the greater of W and its first LBA + count, placed, with an ADVANCE event; at the
band's last LBA + 1 the binding becomes the target, the record is gone, and COMPLETE follows it: one or two events,
each counted once; without a record, and for every other context, nothing moves (chapter 6). Where another band's
staged change applies in the same event it may report MIGRATE events of its own, and move a base band's watermark
again: the events, and the watermark of a base band, are stated where no band has a staged change. -/
def Obligations.LastSectorCompletes : Prop :=
  ∀ (s : State) (lane : InLane) (ctx : Byte) (id : CtxId) (bytes : List Byte) (c : Context) (f : Fragment)
    (overrun : Bool),
    ctxOf ctx = some id → s.holdLine .front = false → s.holdLine .back = false → bytes ≠ [] →
    bytes.length ≤ 2048 → s.contexts[id] = some c → c.dir = laneDir lane → s.pairedPlaceFree lane = true →
    s.needsBusyBank lane ctx bytes.length = false → s.takeBytes bytes c = f → f.stop = .complete overrun →
    ∃ t, exec (.data lane ctx bytes) s = .next t ∧
      t.contexts = s.contexts.set id none ∧
      t.frontQueue = s.frontQueue ++
        (if c.dir = .read ∧ f.released ≠ [] then [.data id f.released] else []) ++
        [.done id .ok c.count (s.linkTime - c.openTime)] ∧
      t.donePlaces = s.donePlaces.set id .filled ∧
      t.backQueue = s.backQueue ++
        (if c.dir = .write ∧ f.released ≠ [] then [.data id f.released] else []) ++
        (if c.dir = .write then [.ended id .ok c.count] else []) ∧
      t.endPlaces = (if c.dir = .write then s.endPlaces.set id .filled else s.endPlaces) ∧
      t.discards = (if overrun then raised s.discards else s.discards) ∧
      (overrun = true → ∀ u, u = s.report (.discard .overrun (some id) t.discards) →
        (t.classOf .discard).latest = some ⟨s.linkTime, .discard .overrun (some id) t.discards⟩ ∧
        t.classOf .discard = u.classOf .discard ∧ t.noticeSlots[4] = u.noticeSlots[4]) ∧
      (∀ k : NoticeClass, k = .trip ∨ k = .keyfault ∨ (k = .discard ∧ overrun = false) →
        t.classOf k = s.classOf k ∧ t.noticeSlots[k.idx] = s.noticeSlots[k.idx]) ∧
      (∀ drains : SlotId → Prop, (∀ k, drains k ↔ (s.slots[k]).isPurging = true ∧
          (if c.holds k then (s.slots[k]).holders - 1 else (s.slots[k]).holders) = 0) →
        ((∀ k, ¬drains k) → t.classOf .purge = s.classOf .purge ∧ t.noticeSlots[2] = s.noticeSlots[2]) ∧
        (∀ k m a u, (s.slots[k]).state = .purging m a → c.holds k = true → (∀ x, drains x ↔ x = k) →
          u = s.report (.purge k a.cause (a.drained + 1) a.cut) →
          t.classOf .purge = u.classOf .purge ∧ t.noticeSlots[2] = u.noticeSlots[2])) ∧
      (∀ (i : BandId) (b : Band), s.bands[i] = some b → b.pending = none → ∃ b', t.bands[i] = some b' ∧
        b'.pending = none ∧ b'.openCount = (if c.names i then b.openCount - 1 else b.openCount) ∧
        (c.names i = true → b'.writer ≠ some id)) ∧
      (∀ k : SlotId, (t.slots[k]).holders =
        if c.holds k then (s.slots[k]).holders - 1 else (s.slots[k]).holders) ∧
      ((∀ (i : BandId) (b : Band), s.bands[i] = some b → b.pending = none) →
        (c.migrate = false ∨ c.dir = .read) → t.classOf .migrate = s.classOf .migrate ∧
          t.noticeSlots[3] = s.noticeSlots[3] ∧ ∀ i : BandId, t.bands[i] = (s.bands[i]).map fun b => if c.names i then { b with
            openCount := b.openCount - 1, writer := if b.writer = some id then none else b.writer } else b) ∧
      (∀ (g : Segment) (b : Band) (alone : Prop), c.migrate = true → c.dir = .write → c.segments = [g] →
        s.bands[g.band] = some b → b.pending = none →
        (alone ↔ ∀ (i : BandId) (x : Band), s.bands[i] = some x → x.pending = none) →
        (isBase g.band = false ∨ alone) →
        (b.migration = none → (alone → t.classOf .migrate = s.classOf .migrate ∧
            t.noticeSlots[3] = s.noticeSlots[3]) ∧
          t.bands[g.band] = some { b with
            openCount := b.openCount - 1, writer := if b.writer = some id then none else b.writer }) ∧
        (∀ r w, b.migration = some r → w = s.placeFor g.band (max r.w (c.first + c.count)) →
          (w ≠ b.fields.extent.endLba →
            t.bands[g.band] = some { b with
              openCount := b.openCount - 1, migration := some { r with w := w },
              writer := if b.writer = some id then none else b.writer } ∧
            (alone → ∀ u, u = s.report (.migrate g.band .advance w) →
              (t.classOf .migrate).latest = some ⟨s.linkTime, .migrate g.band .advance w⟩ ∧
              t.classOf .migrate = u.classOf .migrate ∧ t.noticeSlots[3] = u.noticeSlots[3])) ∧
          (w = b.fields.extent.endLba →
            t.bands[g.band] = some { b with
              fields := { b.fields with binding := some ⟨r.target, r.targetGeneration⟩ },
              openCount := b.openCount - 1, migration := none, writer := none } ∧
            (alone → ∀ u, u = (s.report (.migrate g.band .advance w)).report (.migrate g.band .complete w) →
              (t.classOf .migrate).latest = some ⟨s.linkTime, .migrate g.band .complete w⟩ ∧
              t.classOf .migrate = u.classOf .migrate ∧ t.noticeSlots[3] = u.noticeSlots[3])))) ∧
      (∀ k : SlotId, s.SlotFollows t k fun a n => { a with drained := a.drained + n }) ∧
      s.SameLines t ∧ s.SameControl t ∧ t.wraps = s.wraps ∧ t.latched = s.latched ∧
      t.reservations = s.reservations

/-- A sector start whose slot fails the parity check (chapters 2, 4, 5 and 7). In v the holders have been cut: the one
DATA frame of the bytes released before the failing sector start is appended, and behind it the DONE of every holder with
KEY_FAULT, its whole sectors and its elapsed time, and a write's END, in an order left open (log 6); their records are
FREE and what they counted is withdrawn; a READY slot is POISONED; a PURGING slot has them entered as cut; nothing else
has changed. In w each staged change of a band at an open count of 0 has applied, as PENDING_CHANGE_APPLY does, in
increasing order of band index, but for those that the latching drops: one waits only if the latching, taken with every
waiting change left, purges a slot it names, and every one waits of which this can be said without a loss to the others,
which is the model's choice (log 32); where KEYFAULT is latched already none waits. In u the purges without a holder
have drained, as PURGE_DRAIN does. That all the changes come in one batch behind the cuts is the model's reading (log
31), and that they come before the drains too (log 23). Then KEYFAULT latches, with the actions of the bands as u has
them, drops each waiting change, and the KEYFAULT event is reported with the holder count the slot had. A slot that was
READY is POISONED or has been erased by an action; one that was PURGING is erased, and its owed reply counts the holders
among the cut (stated where the holder counts count the holders). -/
def Obligations.FailedParityCutsTheHolders : Prop :=
  ∀ (s : State) (lane : InLane) (ctx : Byte) (id : CtxId) (bytes : List Byte) (c : Context) (f : Fragment)
    (k : SlotId) (cut : CtxId → Bool) (done : CtxId → Context → Nat),
    ctxOf ctx = some id → s.holdLine .front = false → s.holdLine .back = false → bytes ≠ [] →
    bytes.length ≤ 2048 → s.contexts[id] = some c → c.dir = laneDir lane → s.pairedPlaceFree lane = true →
    s.needsBusyBank lane ctx bytes.length = false → s.takeBytes bytes c = f → f.stop = .keyFault k →
    (∀ j : CtxId, cut j = (s.contexts[j]).any fun x => x.holds k) →
    (∀ (j : CtxId) (x : Context), done j x = if j = id then f.ctx.sectorsDone else x.sectorsDone) →
    ∃ (t u v w : State) (dones lateDones : List FrontEntry) (ends lateEnds : List BackEntry) (waits : BandId → Bool)
      (drains : List SlotId) (n : Nat) (ahead : (BandId → Bool) → State) (free : BandId → Prop)
      (purges : (BandId → Bool) → SlotId → Prop), exec (.data lane ctx bytes) s = .next t ∧
      -- the cuts
      (∀ j : CtxId, v.contexts[j] = if cut j then none else if j = id then some f.ctx else s.contexts[j]) ∧
      v.frontQueue = s.frontQueue ++ (if c.dir = .read ∧ f.released ≠ [] then [.data id f.released] else []) ++ dones ∧
      v.backQueue = s.backQueue ++ (if c.dir = .write ∧ f.released ≠ [] then [.data id f.released] else []) ++ ends ∧
      dones.Perm ((List.finRange 64).filterMap fun j : CtxId => (s.contexts[j]).bind fun x =>
        if x.holds k then some (.done j .keyFault (done j x) (s.linkTime - x.openTime)) else none) ∧
      ends.Perm ((List.finRange 64).filterMap fun j : CtxId => (s.contexts[j]).bind fun x =>
        if x.holds k ∧ x.dir = .write then some (.ended j .keyFault (done j x)) else none) ∧
      (∀ j : CtxId, v.donePlaces[j] = (if cut j then .filled else s.donePlaces[j]) ∧
        v.endPlaces[j] = (if (s.contexts[j]).any (fun x => x.holds k && x.dir == .write) then .filled
          else s.endPlaces[j])) ∧
      (∀ i : BandId, v.bands[i] = (s.bands[i]).map fun b => { b with
        openCount := b.openCount - (List.finRange 64).countP fun j =>
          (s.contexts[j]).any fun x => x.holds k && x.names i,
        writer := if b.writer.any (fun j => (s.contexts[j]).any fun x => x.holds k && x.names i) then none
          else b.writer }) ∧
      (∀ (x : SlotId) (ended : Nat), ended = (List.finRange 64).countP (fun j =>
          (s.contexts[j]).any fun y => y.holds k && y.holds x) →
        v.slots[x] = {
          generation := (s.slots[x]).generation, holders := (s.slots[x]).holders - ended
          state := match (s.slots[x]).state with
            | .ready m => if x = k then .poisoned m else .ready m
            | .purging m a => .purging m { a with cut := a.cut + ended }
            | other => other }) ∧
      { v with contexts := s.contexts, slots := s.slots, bands := s.bands, frontQueue := s.frontQueue,
               backQueue := s.backQueue, donePlaces := s.donePlaces, endPlaces := s.endPlaces,
               choices := s.choices } = s ∧
      -- the staged changes, and the purges without a holder
      (∀ kept, ahead kept =
        inOrder (fun i y => if kept i then y else y.afterCommand (.pendingChangeApply i)) (List.finRange 32) v) ∧
      (∀ (kept : BandId → Bool) (x : SlotId) (y : State), y = (ahead kept).drainIdle none → (purges kept x ↔
        ((y.slots[x]).isReady = true ∨ (y.slots[x]).isPoisoned = true) ∧
          ((y.latch .keyfault).slots[x]).isEmpty = true)) ∧
      (∀ i : BandId, waits i = true → free i ∧
        ∃ (b : Band) (x : SlotId), u.bands[i] = some b ∧ b.changeNames x = true ∧ purges waits x) ∧
      (∀ (i : BandId) (b : Band) (x : SlotId) (more : BandId → Bool), waits i = false → free i → v.bands[i] = some b →
        b.changeNames x = true → purges waits x → (∀ j, more j = (waits j || j == i)) →
        ∃ j : BandId, more j = true ∧ ∀ (b' : Band) (x' : SlotId), ((ahead more).drainIdle none).bands[j] = some b' →
          b'.changeNames x' = true → ¬purges more x') ∧
      (∀ i : BandId, free i ↔ ∃ b, v.bands[i] = some b ∧ b.openCount = 0 ∧ b.pending.isSome = true) ∧
      (s.latched.keyfault = true → ∀ i, waits i = false) ∧
      w = ahead waits ∧ u = w.drainIdle none ∧
      drains.Perm ((List.finRange 32).filter fun x : SlotId => (w.slots[x]).isPurging && (w.slots[x]).holders == 0) ∧
      u = inOrder (fun x y => y.afterCommand (.purgeDrain x)) drains { w with choices := n } ∧
      u.latched = s.latched ∧ u.classOf .trip = s.classOf .trip ∧ s.SameLines u ∧ s.SameControl u ∧
      u.wraps = s.wraps ∧ u.discards = s.discards ∧ u.reservations = s.reservations ∧
      u.contexts = v.contexts ∧ u.frontQueue = v.frontQueue ∧ u.backQueue = v.backQueue ∧
      ((s.slots[k]).isReady = true → (u.slots[k]).isPoisoned = true ∧ (u.slots[k]).holders =
        (s.slots[k]).holders - (List.finRange 64).countP fun j => (s.contexts[j]).any fun x => x.holds k) ∧
      (∀ x : SlotId, x ≠ k → (s.slots[x]).isPurging = false → (u.slots[x]).state = (s.slots[x]).state ∧
        (u.slots[x]).generation = (s.slots[x]).generation) ∧
      -- the latching
      t = (u.latch .keyfault).report (.keyfault (.keySlot k) (s.slots[k]).holders) ∧
      (∀ (i : BandId) (b : Band) (p : Pending) (tag : Byte), waits i = true → v.bands[i] = some b →
        b.pending = some p → p.owed = some tag → (∀ b', t.bands[i] = some b' → b'.pending = none) ∧
        ∃ r ∈ t.replies, r.tag = tag ∧ r.status = .abandoned) ∧
      (∀ j : CtxId, cut j = true → t.contexts[j] = none) ∧
      t.frontQueue = v.frontQueue ++ lateDones ∧ t.backQueue = v.backQueue ++ lateEnds ∧
      ((s.slots[k]).isReady = true → (t.slots[k]).isPoisoned = true ∨ (t.slots[k]).isEmpty = true) ∧
      (∀ m a, s.CountsOk → (s.slots[k]).state = .purging m a →
        (t.slots[k]).state = .empty ∧ (t.slots[k]).holders = 0 ∧
        (t.slots[k]).generation = (s.slots[k]).generation ∧
        ∀ tag, a.owed = some tag → (⟨tag, 0x04, .ok, .keyPurge (BitVec.ofNat 8 k.val) (BitVec.ofNat 8 a.drained)
          (BitVec.ofNat 8 (a.cut + (s.slots[k]).holders))⟩ : Reply) ∈ t.replies) ∧
      t.latched.keyfault = true ∧
      (t.classOf .keyfault).latest =
        some { time := s.linkTime, detail := .keyfault (.keySlot k) (s.slots[k]).holders } ∧
      s.SameLines t ∧ s.SameControl t ∧ t.wraps = s.wraps ∧ t.discards = s.discards

/-- DATA that names a FREE record is counted as STRAY, DATA of the other direction as WRONG_LANE, and DATA of no
byte is ignored (chapter 2, chapter 8). A malformed frame is taken at once, counted with its readable context id,
and changes nothing else (chapter 8). -/
def Obligations.DiscardedFramesAreCounted : Prop :=
  (∀ (s : State) (lane : InLane) (ctx : Byte) (id : CtxId) (bytes : List Byte),
    ctxOf ctx = some id → s.holdLine .front = false → s.holdLine .back = false →
    exec (.data lane ctx []) s = .next s ∧
    (bytes ≠ [] → bytes.length ≤ 2048 → s.pairedPlaceFree lane = true →
      (s.contexts[id] = none →
        ∃ t, exec (.data lane ctx bytes) s = .next t ∧ s.Discarded t .stray (some id)) ∧
      (∀ c, s.contexts[id] = some c → c.dir ≠ laneDir lane →
        ∃ t, exec (.data lane ctx bytes) s = .next t ∧ s.Discarded t .wrongLane (some id)))) ∧
  (∀ (s : State) (lane : InLane) (frame : List Byte), s.holdLine lane = false →
    ∃ t, exec (.malformedFrame lane frame) s = .next t ∧ s.Discarded t .malformed (malformedCtx frame))

/-- An ABORT is taken whatever the queues, banks and reservations are. It cuts an open context with ABORTED: DONE with
the whole sectors and the elapsed time, END for a write, and the record FREE, no other record changed. A band without
a staged change keeps everything but its open count and its writer (a base band's W may move where a staged change
applies: chapter 6); a PURGING slot it holds enters it as cut, and is erased where it was the last holder (chapters 2
and 5). Of a FREE record it is counted as STRAY (chapter 2). -/
def Obligations.AbortCuts : Prop :=
  ∀ (s : State) (ctx : Byte) (id : CtxId),
    ctxOf ctx = some id → s.holdLine .front = false → s.backHead = none →
    (s.contexts[id] = none → ∃ t, exec (.abort ctx) s = .next t ∧ s.Discarded t .stray (some id)) ∧
    (∀ c, s.contexts[id] = some c → ∃ t, exec (.abort ctx) s = .next t ∧
      t.contexts = s.contexts.set id none ∧
      t.frontQueue = s.frontQueue ++ [.done id .aborted c.sectorsDone (s.linkTime - c.openTime)] ∧
      t.donePlaces = s.donePlaces.set id .filled ∧
      t.backQueue = s.backQueue ++ (if c.dir = .write then [.ended id .aborted c.sectorsDone] else []) ∧
      t.endPlaces = (if c.dir = .write then s.endPlaces.set id .filled else s.endPlaces) ∧
      (∀ i b, s.bands[i] = some b → c.names i = true → b.pending = none → isBase i = false →
        ∃ b', t.bands[i] = some b' ∧ b'.openCount = b.openCount - 1 ∧ b'.migration = b.migration ∧
          b'.writer = (if b.writer = some id then none else b.writer)) ∧
      (∀ (i : BandId) (b : Band), s.bands[i] = some b → b.pending = none →
        (isBase i = false ∨ b.migration = none ∨ ∀ (j : BandId) (x : Band), s.bands[j] = some x → x.pending = none) →
        t.bands[i] = some (s.withoutEnded t i b)) ∧
      (∀ k : SlotId, s.SlotFollows t k fun a n => { a with cut := a.cut + n }) ∧
      s.SameLines t ∧ s.SameControl t ∧ t.wraps = s.wraps ∧ t.latched = s.latched ∧
      t.discards = s.discards ∧ t.reservations = s.reservations)

/-! ### Requests: the common part -/

/-- A REQUEST whose body has another length is answered BAD_REQUEST with its result fields 0, but for TRIP-CLEAR,
which carries the latched set; nothing else changes (chapter 9). A REQUEST with an undefined code is answered
BAD_REQUEST with the code as received (chapter 9). -/
def Obligations.BadRequestsChangeNothing : Prop :=
  (∀ (s : State) (tag : Byte) (bs : List Byte), s.TakesRequests → s.backHead = none →
    exec (.wrapLoad tag (.wrongLength bs)) s = .next (s.answered tag .wrapLoad .badRequest .none) ∧
    exec (.keyLoad tag (.wrongLength bs)) s = .next (s.answered tag .keyLoad .badRequest (.keyLoad 0 0)) ∧
    exec (.querySlot tag (.wrongLength bs)) s = .next (s.answered tag .querySlot .badRequest (.slot {})) ∧
    exec (.keyPurge tag (.wrongLength bs)) s = .next (s.answered tag .keyPurge .badRequest (.keyPurge 0 0 0)) ∧
    exec (.purgeAll tag (.wrongLength bs)) s = .next (s.answered tag .purgeAll .badRequest .none) ∧
    exec (.setGrace tag (.wrongLength bs)) s = .next (s.answered tag .setGrace .badRequest (.grace 0)) ∧
    exec (.bandSet tag (.wrongLength bs)) s = .next (s.answered tag .bandSet .badRequest (.band 0)) ∧
    exec (.bandLock tag (.wrongLength bs)) s = .next (s.answered tag .bandLock .badRequest (.band 0)) ∧
    exec (.queryBand tag (.wrongLength bs)) s = .next (s.answered tag .queryBand .badRequest (.bandReport {})) ∧
    exec (.migrateStart tag (.wrongLength bs)) s =
      .next (s.answered tag .migrateStart .badRequest (.migrateStart 0 0)) ∧
    exec (.tripForce tag (.wrongLength bs)) s =
      .next (s.answered tag .tripForce .badRequest (.latched SourceSet.empty)) ∧
    exec (.tripClear tag (.wrongLength bs)) s =
      .next (s.answered tag .tripClear .badRequest (.latched s.latched)) ∧
    exec (.noticePeriod tag (.wrongLength bs)) s =
      .next (s.answered tag .noticePeriod .badRequest (.noticePeriod 0 0)) ∧
    exec (.noticeAck tag (.wrongLength bs)) s = .next (s.answered tag .noticeAck .badRequest (.noticeAck 0)) ∧
    exec (.queryContext tag (.wrongLength bs)) s =
      .next (s.answered tag .queryContext .badRequest (.context {})) ∧
    exec (.goOnline tag (.wrongLength bs)) s = .next (s.answered tag .goOnline .badRequest .none) ∧
    exec (.timeSet tag (.wrongLength bs)) s = .next (s.answered tag .timeSet .badRequest (.time 0)) ∧
    exec (.queryStatus tag (.wrongLength bs)) s = .next (s.answered tag .queryStatus .badRequest (.status {}))) ∧
  (∀ (s : State) (tag code : Byte) (rest : List Byte), s.TakesRequests →
    exec (.undefinedRequestCode tag code rest) s = .next { s with
      reservations := s.reservations + 1,
      replies := s.replies ++ [{ tag := tag, code := code, status := .badRequest, result := .none }] })

/-- The four queries report the items as they stand, field by field, and change nothing but the reservation and the
reply; a number out of range is refused (chapters 2, 3, 4, 9 and 11). A field of QUERY-BAND that the band's kind does
not hold is 0 (log 29). -/
def Obligations.QueriesReportTheState : Prop :=
  (∀ f : Byte, (∀ k : SlotId, slotOf f = some k ↔ k.val = f.toNat) ∧ (∀ i : BandId, bandOf f = some i ↔ i.val = f.toNat) ∧
    (∀ id : CtxId, ctxOf f = some id ↔ id.val = f.toNat) ∧ (slotOf f = none ↔ 32 ≤ f.toNat) ∧
    (bandOf f = none ↔ 32 ≤ f.toNat) ∧ (ctxOf f = none ↔ 64 ≤ f.toNat)) ∧
  ∀ (s : State) (tag f : Byte), s.TakesRequests →
    (∀ k, slotOf f = some k → exec (.querySlot tag (.fields f)) s = .next (s.answered tag .querySlot .ok (.slot
      { state := (match (s.slots[k]).state with
          | .empty => 0
          | .loading _ => 1
          | .ready _ => 2
          | .purging _ _ => 3
          | .poisoned _ => 4),
        generation := (s.slots[k]).generation,
        holders := BitVec.ofNat 8 (s.slots[k]).holders,
        grace := BitVec.ofNat 32 (match (s.slots[k]).state with
          | .purging _ a => a.grace
          | _ => 0) }))) ∧
    (slotOf f = none →
      exec (.querySlot tag (.fields f)) s = .next (s.answered tag .querySlot .badRequest (.slot {}))) ∧
    (∀ i, bandOf f = some i → s.bands[i] = none → exec (.queryBand tag (.fields f)) s =
      .next (s.answered tag .queryBand .ok (.bandReport
        { namespaceNumber := if i.val < 8 then BitVec.ofNat 8 (i.val + 1) else 0 }))) ∧
    (∀ i b, bandOf f = some i → s.bands[i] = some b → exec (.queryBand tag (.fields f)) s =
      .next (s.answered tag .queryBand .ok (.bandReport
        { state := 1,
          namespaceNumber := if i.val < 8 then BitVec.ofNat 8 (i.val + 1) else (match b.fields.extent with
            | .locking ns _ _ => BitVec.ofNat 8 (ns.val + 1)
            | .base _ _ _ => 0),
          format := (match b.fields.extent with
            | .base _ .f512 _ => 0
            | .base _ .f520 _ => 1
            | .base _ .f4096 _ => 2
            | .base _ .f4104 _ => 3
            | .base _ .f4160 _ => 4
            | .locking _ _ _ => 0),
          metaMode := (match b.fields.extent with
            | .base _ _ .clear => 1
            | _ => 0),
          extentA := BitVec.ofNat 64 (match b.fields.extent with
            | .base size _ _ => size
            | .locking _ first _ => first),
          extentB := BitVec.ofNat 64 (match b.fields.extent with
            | .base _ _ _ => 0
            | .locking _ _ last => last),
          bindingPresent := (match b.fields.binding with
            | none => 0
            | some _ => 1),
          slot := (match b.fields.binding with
            | none => 0
            | some x => BitVec.ofNat 8 x.slot.val),
          generation := (match b.fields.binding with
            | none => 0
            | some x => x.generation),
          locks := (if b.fields.readLock then 1 else 0) + (if b.fields.writeLock then 2 else 0),
          saltPresent := (match b.fields.salt with
            | none => 0
            | some _ => 1),
          salt := (match b.fields.salt with
            | none => 0
            | some x => x),
          tripMask := (if b.fields.tripMask.plock then 1 else 0) + (if b.fields.tripMask.soft then 2 else 0) +
            (if b.fields.tripMask.keyfault then 4 else 0),
          latchedAction := (match b.fields.action with
            | .none => 0
            | .lock => 1
            | .cut => 2
            | .purge => 3),
          pfailResponse := (match b.fields.pfail with
            | .none => 0
            | .hold => 1),
          openCount := BitVec.ofNat 8 b.openCount,
          recordPresent := (match b.migration with
            | none => 0
            | some _ => 1),
          target := (match b.migration with
            | none => 0
            | some r => BitVec.ofNat 8 r.target.val),
          targetGeneration := (match b.migration with
            | none => 0
            | some r => r.targetGeneration),
          w := (match b.migration with
            | none => 0
            | some r => BitVec.ofNat 64 r.w),
          writerPresent := (match b.writer with
            | none => 0
            | some _ => 1),
          writer := (match b.writer with
            | none => 0
            | some id => BitVec.ofNat 8 id.val),
          pendingKind := (match b.pending with
            | none => 0
            | some ⟨.bandSet _, _⟩ => 1
            | some ⟨.migrateStart _ _, _⟩ => 2) }))) ∧
    (bandOf f = none →
      exec (.queryBand tag (.fields f)) s = .next (s.answered tag .queryBand .badRequest (.bandReport {}))) ∧
    (∀ id, ctxOf f = some id → s.contexts[id] = none → exec (.queryContext tag (.fields f)) s =
      .next (s.answered tag .queryContext .ok (.context {}))) ∧
    (∀ id c, ctxOf f = some id → s.contexts[id] = some c → exec (.queryContext tag (.fields f)) s =
      .next (s.answered tag .queryContext .ok (.context
        { state := (match c.progress with
            | .boundary => 1
            | .insector _ _ _ _ => 2
            | .tailing _ _ _ _ _ => 3),
          direction := (match c.dir with
            | .write => 1
            | .read => 2),
          flags := if c.migrate then 1 else 0,
          namespaceNumber := BitVec.ofNat 8 (c.ns.val + 1),
          first := BitVec.ofNat 48 c.first,
          countMinusOne := BitVec.ofNat 16 (c.count - 1),
          sectorsDone := BitVec.ofNat 16 c.sectorsDone,
          offset := BitVec.ofNat 16 c.offset,
          residueLength := BitVec.ofNat 8 c.residue.length,
          heldPresent := (match c.progress with
            | .tailing _ _ _ _ _ => 1
            | _ => 0),
          segmentCount := BitVec.ofNat 8 c.segments.length,
          openTime := c.openTime }))) ∧
    (ctxOf f = none →
      exec (.queryContext tag (.fields f)) s = .next (s.answered tag .queryContext .badRequest (.context {}))) ∧
    exec (.queryStatus tag (.fields ())) s = .next (s.answered tag .queryStatus .ok (.status
      { life := (match s.life with
          | .prepare => 0
          | .online => 1),
        latched := (if s.latched.plock then 1 else 0) + (if s.latched.soft then 2 else 0) +
          (if s.latched.keyfault then 4 else 0),
        lines := (if s.plock then 1 else 0) + (if s.pfail then 2 else 0),
        openContexts := BitVec.ofNat 8 ((List.finRange 64).countP fun id => (s.contexts[id]).isSome),
        discards := s.discards, linkTime := s.linkTime,
        grace := BitVec.ofNat 32 s.graceSetting,
        reservations := BitVec.ofNat 8 (s.reservations + 1) }))

/-- TIME-SET loads link time with any value in either life state and answers with the value replaced; link time
rises from the new value, a context that ends later has its elapsed time against it, an event is stamped with it,
and nothing else changes (chapter 9). -/
def Obligations.TimeSetLoadsLinkTime : Prop :=
  ∀ (s : State) (tag : Byte) (v : BitVec 32), s.TakesRequests → s.backHead = none →
    ∃ t, exec (.timeSet tag (.fields v)) s = .next t ∧
      t = { s.answered tag .timeSet .ok (.time s.linkTime) with linkTime := v } ∧
      (∃ u, exec .microsecondPasses t = .next u ∧ u.linkTime = v + 1) ∧
      (∀ (id : CtxId) (c : Context) (status : TransferStatus), s.contexts[id] = some c →
        (t.endContext id status).frontQueue =
          s.frontQueue ++ [.done id status c.sectorsDone (v - c.openTime)]) ∧
      (∀ d : Detail, ((t.report d).classOf d.noticeClass).latest = some { time := v, detail := d })

/-- SET-GRACE takes the value, clamped to 10,000,000, and answers with the value taken (chapter 5). GO-ONLINE is
refused ONLINE with WRONG_STATE and without a LOADED wrap slot with NO_WRAP, in that order; otherwise the life state
is ONLINE (chapter 9). -/
def Obligations.SetGraceAndGoOnline : Prop :=
  (∀ (s : State) (tag : Byte) (v : BitVec 32), s.TakesRequests →
    exec (.setGrace tag (.fields v)) s = .next
      { s.answered tag .setGrace .ok (.grace (BitVec.ofNat 32 (min v.toNat 10000000))) with
        graceSetting := min v.toNat 10000000 }) ∧
  (∀ (s : State) (tag : Byte), s.TakesRequests →
    (s.life = .online →
      exec (.goOnline tag (.fields ())) s = .next (s.answered tag .goOnline .wrongState .none)) ∧
    (s.life = .prepare → (∀ w : WrapId, (s.wraps[w]).isLoaded = false) →
      exec (.goOnline tag (.fields ())) s = .next (s.answered tag .goOnline .noWrap .none)) ∧
    (s.life = .prepare → (∃ w : WrapId, (s.wraps[w]).isLoaded = true) →
      exec (.goOnline tag (.fields ())) s =
        .next { s.answered tag .goOnline .ok .none with life := .online }))

/-! ### Notices -/

/-- An event reported into a class replaces its latest event, is counted below the period, and queues a NOTICE with
the period as its count when the counter reaches a period of at least 1 with the flag clear; no other class and no
other item changes (chapter 10). ATTN is asserted exactly while PORST is deasserted and some class's flag is set
(chapter 10). -/
def Obligations.EventsAreCountedIntoNotices : Prop :=
  (∀ (s : State) (d : Detail) (c : ClassState) (e : NoticeEvent) (n : Nat),
    c = s.classOf d.noticeClass → e = { time := s.linkTime, detail := d } →
    n = (if c.counter < c.period then c.counter + 1 else c.counter) →
    (s.report d).classOf d.noticeClass =
      (if c.period ≠ 0 ∧ n = c.period ∧ c.flag = false
        then { flag := true, counter := 0, period := c.period, latest := some e }
        else { flag := c.flag, counter := n, period := c.period, latest := some e }) ∧
    (s.report d).noticeSlots = (if c.period ≠ 0 ∧ n = c.period ∧ c.flag = false
      then s.noticeSlots.set d.noticeClass.idx (some { event := e, count := c.period }) else s.noticeSlots) ∧
    (∀ k : NoticeClass, k ≠ d.noticeClass → (s.report d).classOf k = s.classOf k) ∧
    { s.report d with classes := s.classes, noticeSlots := s.noticeSlots } = s) ∧
  (∀ s : State, s.attn = true ↔ s.porstLine = false ∧ ∃ k : NoticeClass, (s.classOf k).flag = true)

/-- NOTICE-PERIOD clamps the period to 7, clears the counter and keeps flag, latest event and queued NOTICE; a code
of no class is refused (chapter 10). NOTICE-ACK clears the flag of each class of its mask whose NOTICE has been
sent, and such a class whose counter stands at a period of at least 1 queues its latest event anew; every other
class stays; the reply carries the flags afterwards (chapter 10), the bit of each class in its place, no other bit
(chapter 11). The class codes are 0 to 4 in the order of priority (chapter 11). -/
def Obligations.NoticeRequests : Prop :=
  (∀ b : Byte, (∀ k : NoticeClass, classCodeOf b = some k ↔
      b.toNat = (match k with
        | .trip => 0
        | .keyfault => 1
        | .purge => 2
        | .migrate => 3
        | .discard => 4)) ∧
    (classCodeOf b = none ↔ 4 < b.toNat)) ∧
  (∀ s : State, s.flaggedMask.getLsbD 0 = (s.classOf .trip).flag ∧
    s.flaggedMask.getLsbD 1 = (s.classOf .keyfault).flag ∧ s.flaggedMask.getLsbD 2 = (s.classOf .purge).flag ∧
    s.flaggedMask.getLsbD 3 = (s.classOf .migrate).flag ∧ s.flaggedMask.getLsbD 4 = (s.classOf .discard).flag ∧
    ∀ n, 5 ≤ n → s.flaggedMask.getLsbD n = false) ∧
  (∀ (s : State) (tag : Byte) (f : NoticePeriodFields), s.TakesRequests →
    (classCodeOf f.noticeClass = none → exec (.noticePeriod tag (.fields f)) s =
      .next (s.answered tag .noticePeriod .badRequest (.noticePeriod 0 0))) ∧
    (∀ k, classCodeOf f.noticeClass = some k → exec (.noticePeriod tag (.fields f)) s = .next
      { s.answered tag .noticePeriod .ok
          (.noticePeriod f.noticeClass (BitVec.ofNat 8 (min f.period.toNat 7))) with
        classes := s.classes.set k.idx
          { s.classOf k with period := min f.period.toNat 7, counter := 0 } })) ∧
  (∀ (s : State) (tag mask : Byte), s.TakesRequests →
    (31 < mask.toNat → exec (.noticeAck tag (.fields mask)) s =
      .next (s.answered tag .noticeAck .badRequest (.noticeAck 0))) ∧
    (mask.toNat ≤ 31 → ∃ t, exec (.noticeAck tag (.fields mask)) s = .next t ∧
      { t with classes := s.classes, noticeSlots := s.noticeSlots } =
        s.answered tag .noticeAck .ok (.noticeAck t.flaggedMask) ∧
      ∀ k : NoticeClass,
        (mask.getLsbD k.idx.val = false ∨ (s.classOf k).flag = false ∨
            (s.noticeSlots[k.idx]).isSome = true →
          t.classOf k = s.classOf k ∧ t.noticeSlots[k.idx] = s.noticeSlots[k.idx]) ∧
        (mask.getLsbD k.idx.val = true → (s.classOf k).flag = true → s.noticeSlots[k.idx] = none →
          (¬((s.classOf k).period ≠ 0 ∧ (s.classOf k).counter = (s.classOf k).period) →
            t.classOf k = { s.classOf k with flag := false } ∧ t.noticeSlots[k.idx] = none) ∧
          (∀ e, (s.classOf k).period ≠ 0 → (s.classOf k).counter = (s.classOf k).period →
            (s.classOf k).latest = some e →
            t.classOf k = { s.classOf k with flag := true, counter := 0 } ∧
            t.noticeSlots[k.idx] = some { event := e, count := (s.classOf k).period }))))

/-! ### Keys -/

/-- WRAP-LOAD: its ordered checks, and the wrap slot LOADED with the key (chapter 4). KEY-LOAD: its ordered checks,
and the slot LOADING with its bank busy and no reply yet (chapter 4). Wrap slots are 0 to 3; one is in use while a
LOADING slot names it; a bank, of the even or the odd slots, is busy while one of its slots is LOADING (chapter 4). -/
def Obligations.WrapLoadAndKeyLoad : Prop :=
  (∀ b : Byte, (∀ w : WrapId, wrapOf b = some w ↔ w.val = b.toNat) ∧ (wrapOf b = none ↔ 3 < b.toNat)) ∧
  (∀ (s : State) (w : WrapId), s.wrapInUse w = true ↔
    ∃ (k : SlotId) (l : Load), (s.slots[k]).state = .loading l ∧ l.wrapSlot = w) ∧
  (∀ (s : State) (k : SlotId), s.bankBusy (bankOf k) = true ↔
    ∃ (j : SlotId) (l : Load), (s.slots[j]).state = .loading l ∧ j.val % 2 = k.val % 2) ∧
  (∀ (s : State) (tag : Byte) (f : WrapLoadFields), s.TakesRequests →
    (wrapOf f.wrapSlot = none →
      exec (.wrapLoad tag (.fields f)) s = .next (s.answered tag .wrapLoad .badRequest .none)) ∧
    (∀ w, wrapOf f.wrapSlot = some w →
      (s.life = .online →
        exec (.wrapLoad tag (.fields f)) s = .next (s.answered tag .wrapLoad .wrongState .none)) ∧
      (s.life = .prepare → s.wrapInUse w = true →
        exec (.wrapLoad tag (.fields f)) s = .next (s.answered tag .wrapLoad .busy .none)) ∧
      (s.life = .prepare → s.wrapInUse w = false →
        exec (.wrapLoad tag (.fields f)) s = .next
          { s.answered tag .wrapLoad .ok .none with
            wraps := s.wraps.set w (.loaded (storeWords 8 f.key)) }))) ∧
  (∀ (s : State) (tag : Byte) (f : KeyLoadFields), s.TakesRequests →
    (slotOf f.keySlot = none ∨ wrapOf f.wrapSlot = none →
      exec (.keyLoad tag (.fields f)) s = .next (s.answered tag .keyLoad .badRequest (.keyLoad 0 0))) ∧
    (∀ k w, slotOf f.keySlot = some k → wrapOf f.wrapSlot = some w →
      ((s.slots[k]).isEmpty = false →
        exec (.keyLoad tag (.fields f)) s = .next (s.answered tag .keyLoad .slotBusy (.keyLoad 0 0))) ∧
      ((s.slots[k]).isEmpty = true → (s.wraps[w]).isLoaded = false →
        exec (.keyLoad tag (.fields f)) s = .next (s.answered tag .keyLoad .noWrap (.keyLoad 0 0))) ∧
      (∀ words, (s.slots[k]).isEmpty = true → s.wraps[w] = .loaded words →
        (s.bankBusy (bankOf k) = true →
          exec (.keyLoad tag (.fields f)) s = .next (s.answered tag .keyLoad .bankBusy (.keyLoad 0 0))) ∧
        (s.bankBusy (bankOf k) = false →
          ∃ t, exec (.keyLoad tag (.fields f)) s = .next t ∧ t.bankBusy (bankOf k) = true ∧
            t.wrapInUse w = true ∧
            t = { s with
              reservations := s.reservations + 1,
              slots := s.slots.set k { s.slots[k] with
                state := .loading ⟨w, words, f.blob, some tag, 40⟩ } }))))

/-- The end of an unwrap whose wrapping key passed: WRAP_INVALID, KEY_WEAK, or READY with the material, the generation
raised and the reply with the new generation; a slot that is not LOADING is left (chapter 4). Of the unwrap's result,
open otherwise, the spec says that another wrapping key gives an integrity failure, and a change in any byte of the
blob (chapters 4 and 11). The change is read of one byte, and of any change in bytes 64 to 71, the integrity value,
that leaves bytes 0 to 63, the wrapped key material (log 5). The key slot byte of a failed load is the model's reading
(log 22). A deferred reply is appended where it is still owed (chapter 9). -/
def Obligations.UnwrapEndsTheLoad : Prop :=
  (∀ (s : State) (tag : Byte) (code : RequestCode) (status : ReplyStatus) (result : Result),
    s.payReply none code status result = s ∧
    s.payReply (some tag) code status result =
      { s with replies := s.replies ++ [⟨tag, code.byte, status, result⟩] }) ∧
  (∀ (blob : BitVec 576) (key key' : BitVec 256), key ≠ key' →
    unwrap blob key = none ∨ unwrap blob key' = none) ∧
  (∀ (blob : BitVec 576) (i : Fin 72) (d : Byte) (key key' : BitVec 256), d ≠ 0 →
    unwrap blob key = none ∨ unwrap (blob ^^^ (d.setWidth 576 <<< (8 * i.val))) key' = none) ∧
  (∀ (blob blob' : BitVec 576) (key key' : BitVec 256), blob ≠ blob' →
    blob.extractLsb' 0 512 = blob'.extractLsb' 0 512 → unwrap blob key = none ∨ unwrap blob' key' = none) ∧
  (∀ (s : State) (k : SlotId), s.frontHead = none → s.backHead = none →
    ((∀ l, (s.slots[k]).state ≠ .loading l) → exec (.unwrapComplete k) s = .next s) ∧
    (∀ l, (s.slots[k]).state = .loading l → allPass l.words = true → exec (.unwrapComplete k) s =
      .next (match unwrap l.blob (wrapKey l.words) with
        | none => { s with slots := s.slots.set k { s.slots[k] with state := .empty } }.payReply l.owed .keyLoad
            .wrapInvalid (.keyLoad 0 (s.slots[k]).generation)
        | some m =>
          if m.extractLsb' 0 256 = m.extractLsb' 256 256 then
            { s with slots := s.slots.set k { s.slots[k] with state := .empty } }.payReply l.owed .keyLoad
              .keyWeak (.keyLoad 0 (s.slots[k]).generation)
          else
            { s with slots := s.slots.set k { s.slots[k] with
                generation := (s.slots[k]).generation + 1, state := .ready (storeWords 16 m) } }.payReply l.owed
              .keyLoad .ok (.keyLoad (BitVec.ofNat 8 k.val) ((s.slots[k]).generation + 1)))))

/-- The end of an unwrap whose wrapping key failed its parity check: the key slot EMPTY with its generation, a LOADED
wrap slot FAULTY, KEYFAULT latched, the owed reply WRAP_FAULT (its key slot byte: log 22), and the KEYFAULT event with
no context cut (chapter 4). The state is that of a latching of KEYFAULT, with the band actions it runs, on the state
with the two slots written; the owed reply stands before or behind the replies of the latching, which is left open
(log 14). -/
def Obligations.WrapFaultLatchesKeyfault : Prop :=
  ∀ (s : State) (k : SlotId) (l : Load), s.frontHead = none → s.backHead = none →
    (s.slots[k]).state = .loading l → allPass l.words = false →
    ∃ t u n, exec (.unwrapComplete k) s = .next t ∧
      u = { s with
        slots := s.slots.set k { s.slots[k] with state := .empty },
        wraps := s.wraps.set l.wrapSlot (match s.wraps[l.wrapSlot] with
          | .loaded words => .faulty words
          | .faulty words => .faulty words
          | .empty => .empty),
        choices := n } ∧
      (t = ((u.latch .keyfault).payReply l.owed .keyLoad .wrapFault (.keyLoad 0 (s.slots[k]).generation)).report
          (.keyfault (.wrapSlot l.wrapSlot) 0) ∨
        t = ((u.payReply l.owed .keyLoad .wrapFault (.keyLoad 0 (s.slots[k]).generation)).latch .keyfault).report
          (.keyfault (.wrapSlot l.wrapSlot) 0)) ∧
      (t.slots[k]).state = .empty ∧ (t.slots[k]).generation = (s.slots[k]).generation ∧
      (∀ words, s.wraps[l.wrapSlot] = .loaded words → t.wraps[l.wrapSlot] = .faulty words) ∧
      (∀ w : WrapId, w ≠ l.wrapSlot → t.wraps[w] = s.wraps[w]) ∧
      t.latched = { s.latched with keyfault := true } ∧
      (∀ tag, l.owed = some tag → (⟨tag, 0x02, .wrapFault, .keyLoad 0 (s.slots[k]).generation⟩ : Reply) ∈ t.replies) ∧
      (t.classOf .keyfault).latest =
        some { time := s.linkTime, detail := .keyfault (.wrapSlot l.wrapSlot) 0 } ∧
      s.SameLines t ∧ s.SameControl t ∧ t.discards = s.discards ∧ t.reservations = s.reservations

/-- KEY-PURGE by the slot's state: EMPTY is answered OK with 0 and 0; a load in progress is abandoned first; a PURGING
slot answers BUSY (chapter 5). KEY-PURGE of a READY or POISONED slot: it is then PURGING with holders and grace left
and its reply owed, or already erased; no band is bound to it, migrates to it or waits to name it; every context that
names a band whose migration the purge fails is cut with KEY_PURGED, with its DONE and for a write its END (chapters 2
and 5). The account, and the reply and the PURGE event of a purge that has ended, carry drained 0, as cut the number
of the slot's holders that the event made FREE, and the cause MIGRATE_FAIL where a band with a record was bound to the
slot or migrated to it, REQUEST otherwise (chapter 5). The replies of the event begin with ABANDONED for each staged
change that names the slot, by band index (chapter 5). Every other context is as it was, but for the slot's holders
where the grace setting is 0, so above 0 the slot is PURGING exactly while a holder is left that names no band whose
migration fails (chapter 5; stated where the holder counts count the holders). A band without a staged change, or
whose staged change is dropped, keeps everything but the binding to the slot, a record that names the slot with its
writer, and what the ends of contexts take (chapter 5; a base band's W may move where another staged change applies:
chapter 6). Another slot stays in its state, or follows the ends of its holders (chapter 5). One PURGE event is
counted where the purge has ended (stated where no other purge runs), and one FAILED event for each migration that
failed, by band index (chapter 6; stated where no staged change is left to apply). -/
def Obligations.KeyPurgeBySlotState : Prop :=
  (∀ (s : State) (tag f : Byte), s.TakesRequests → s.backHead = none →
    (slotOf f = none → exec (.keyPurge tag (.fields f)) s =
      .next (s.answered tag .keyPurge .badRequest (.keyPurge 0 0 0))) ∧
    (∀ k, slotOf f = some k →
      ((s.slots[k]).state = .empty → exec (.keyPurge tag (.fields f)) s =
        .next (s.answered tag .keyPurge .ok (.keyPurge (BitVec.ofNat 8 k.val) 0 0))) ∧
      (∀ m a, (s.slots[k]).state = .purging m a → exec (.keyPurge tag (.fields f)) s =
        .next (s.answered tag .keyPurge .busy (.keyPurge 0 0 0))) ∧
      (∀ l, (s.slots[k]).state = .loading l → exec (.keyPurge tag (.fields f)) s =
        .next (({ s with slots := s.slots.set k { s.slots[k] with state := .empty } }.payReply l.owed .keyLoad
          .abandoned (.keyLoad (BitVec.ofNat 8 k.val) 0)).answered tag .keyPurge .ok
          (.keyPurge (BitVec.ofNat 8 k.val) 0 0))))) ∧
  (∀ (s : State) (tag f : Byte) (k : SlotId), s.TakesRequests → s.backHead = none → slotOf f = some k →
    ((s.slots[k]).isReady = true ∨ (s.slots[k]).isPoisoned = true) →
    ∃ t cut cause, exec (.keyPurge tag (.fields f)) s = .next t ∧
      cut = (List.finRange 64).countP (fun id =>
        (s.contexts[id]).any (fun c => c.holds k) && (t.contexts[id]).isNone) ∧
      ((∃ (i : BandId) (b : Band) (r : Migration), s.bands[i] = some b ∧ b.migration = some r ∧
          (r.target = k ∨ ∃ x, b.fields.binding = some x ∧ x.slot = k)) → cause = .migrateFail) ∧
      ((∀ (i : BandId) (b : Band) (r : Migration), s.bands[i] = some b → b.migration = some r →
          r.target ≠ k ∧ ∀ x, b.fields.binding = some x → x.slot ≠ k) → cause = .request) ∧
      ((t.slots[k]).state = .empty ∨ ∃ m a, (t.slots[k]).state = .purging m a ∧ 0 < (t.slots[k]).holders ∧
        a.grace = s.graceSetting ∧ 0 < a.grace ∧ a.owed = some tag ∧ a.drained = 0 ∧ a.cut = cut ∧
        a.cause = cause) ∧
      (t.slots[k]).generation = (s.slots[k]).generation ∧
      (∀ (i : BandId) (b : Band), t.bands[i] = some b →
        b.boundTo k = false ∧ b.migratesTo k = false ∧ b.changeNames k = false) ∧
      (∀ (i : BandId) (b : Band) (id : CtxId) (c : Context), s.bands[i] = some b → b.migration.isSome = true →
        (b.boundTo k = true ∨ b.migratesTo k = true) → s.contexts[id] = some c → c.names i = true →
        t.contexts[id] = none ∧
        FrontEntry.done id .keyPurged c.sectorsDone (s.linkTime - c.openTime) ∈ t.frontQueue ∧
        (c.dir = .write → BackEntry.ended id .keyPurged c.sectorsDone ∈ t.backQueue)) ∧
      ((t.slots[k]).state = .empty →
        t.replies.getLast? = some ⟨tag, 0x04, .ok, .keyPurge (BitVec.ofNat 8 k.val) 0 (BitVec.ofNat 8 cut)⟩ ∧
        (t.classOf .purge).latest = some ⟨s.linkTime, .purge k cause 0 cut⟩) ∧
      (∃ rest, t.replies = s.replies ++ (List.finRange 32).filterMap (fun i : BandId => (s.bands[i]).bind fun b =>
        if b.changeNames k then b.pending.bind fun p => p.owed.map fun owed => (match p.change with
            | .bandSet _ => (⟨owed, 0x07, .abandoned, .band (BitVec.ofNat 8 i.val)⟩ : Reply)
            | .migrateStart _ _ => ⟨owed, 0x0A, .abandoned, .migrateStart (BitVec.ofNat 8 i.val) 0⟩)
        else none) ++ rest) ∧
      t.reservations = s.reservations + 1 ∧ s.SameLines t ∧ s.SameControl t ∧ t.wraps = s.wraps ∧
      t.latched = s.latched ∧ t.discards = s.discards) ∧
  (∀ (s t : State) (tag f : Byte) (k : SlotId) (fails : Band → Bool), s.TakesRequests → s.backHead = none →
    slotOf f = some k → ((s.slots[k]).isReady = true ∨ (s.slots[k]).isPoisoned = true) →
    (∀ b, fails b = (b.migration.isSome && (b.boundTo k || b.migratesTo k))) →
    exec (.keyPurge tag (.fields f)) s = .next t →
    -- the contexts, and the slot
    (0 < s.graceSetting → ∀ (id : CtxId) (c : Context), s.contexts[id] = some c →
      (∀ (i : BandId) (b : Band), s.bands[i] = some b → fails b = true → c.names i = false) →
      t.contexts[id] = some c) ∧
    (s.graceSetting = 0 → (t.slots[k]).state = .empty ∧
      ∀ (id : CtxId) (c : Context), s.contexts[id] = some c → c.holds k = true → t.contexts[id] = none) ∧
    (∀ (id : CtxId) (c : Context), s.contexts[id] = some c → c.holds k = false →
      (∀ (i : BandId) (b : Band), s.bands[i] = some b → fails b = true → c.names i = false) →
      t.contexts[id] = some c) ∧
    (0 < s.graceSetting → s.CountsOk → ((t.slots[k]).isPurging = true ↔ ∃ (id : CtxId) (c : Context),
      s.contexts[id] = some c ∧ c.holds k = true ∧
      ∀ (i : BandId) (b : Band), s.bands[i] = some b → fails b = true → c.names i = false)) ∧
    ((t.slots[k]).isPurging = true →
      (t.slots[k]).holders = (s.slots[k]).holders - s.endedWith t fun c => c.holds k) ∧
    (∀ x : SlotId, x ≠ k → s.SlotFollows t x fun a n => { a with cut := a.cut + n }) ∧
    -- the bands
    (∀ i : BandId, s.bands[i] = none → t.bands[i] = none) ∧
    (∀ (i : BandId) (b : Band), s.bands[i] = some b → (b.pending = none ∨ b.changeNames k = true) →
      (isBase i = false ∨ b.migration = none ∨ fails b = true ∨
        ∀ (j : BandId) (x : Band), s.bands[j] = some x → x.pending = none ∨ x.changeNames k = true) →
      t.bands[i] = some { s.withoutEnded t i b with
        fields := if b.boundTo k then { b.fields with binding := none } else b.fields,
        migration := if fails b then none else b.migration,
        writer := if fails b then none else (s.withoutEnded t i b).writer,
        pending := none }) ∧
    -- the notice unit
    ((∀ x : SlotId, (s.slots[x]).isPurging = false) → ∀ cause cut u,
      cause = (if (List.finRange 32).any (fun i : BandId => (s.bands[i]).any fails) then .migrateFail else .request) →
      cut = s.endedWith t (fun c => c.holds k) →
      u = (if (t.slots[k]).isPurging then s else s.report (.purge k cause 0 cut)) →
      t.classOf .purge = u.classOf .purge ∧ t.noticeSlots[2] = u.noticeSlots[2]) ∧
    ((∀ (j : BandId) (x : Band), s.bands[j] = some x → x.pending = none ∨ x.changeNames k = true) → ∀ u,
      u = ((List.finRange 32).filterMap fun i : BandId => (s.bands[i]).bind fun b =>
        if fails b then b.migration.map fun r => Detail.migrate i .failed r.w else none).foldl
          (fun u d => u.report d) s →
      t.classOf .migrate = u.classOf .migrate ∧ t.noticeSlots[3] = u.noticeSlots[3]) ∧
    (∀ c : NoticeClass, c ≠ .purge → c ≠ .migrate →
      t.classOf c = s.classOf c ∧ t.noticeSlots[c.idx] = s.noticeSlots[c.idx]))

/-- A purge without holders drains: the slot is erased with its generation, the owed reply and the PURGE event carry
the account's counts, and nothing else changes; otherwise the event has nothing to do (chapter 5; log 10). The expiry
of a purge, due where its countdown is at 0 with holders remaining, cuts every holder with KEY_PURGED in increasing
order of context id, with its DONE and for a write its END in their places, and erases the slot; the owed reply and the PURGE event carry the account's counts with those
holders among the cut; a record that does not hold the slot is not touched, a band without a staged change loses the
ended contexts alone (a base band's W may move where a staged change applies), and another slot follows the ends of
its holders; where nothing is due nothing changes (chapter 5; log 10). -/
def Obligations.PurgesEndByDrainOrExpiry : Prop :=
  (∀ (s : State) (k : SlotId),
    (((s.slots[k]).isPurging = false ∨ (s.slots[k]).holders ≠ 0) → exec (.purgeDrain k) s = .next s) ∧
    (∀ m a, (s.slots[k]).state = .purging m a → (s.slots[k]).holders = 0 →
      ∃ t, exec (.purgeDrain k) s = .next t ∧
        t.slots = s.slots.set k { generation := (s.slots[k]).generation, holders := 0, state := .empty } ∧
        t.replies = s.replies ++ (match a.owed with
          | none => []
          | some tag => [⟨tag, 0x04, .ok, .keyPurge (BitVec.ofNat 8 k.val)
              (BitVec.ofNat 8 a.drained) (BitVec.ofNat 8 a.cut)⟩]) ∧
        (t.classOf .purge).latest =
          some { time := s.linkTime, detail := .purge k a.cause a.drained a.cut } ∧
        (s.report (.purge k a.cause a.drained a.cut)).SameNotices t ∧
        (∀ c : NoticeClass, c ≠ .purge → t.classOf c = s.classOf c) ∧
        { t with slots := s.slots, replies := s.replies, classes := s.classes,
                 noticeSlots := s.noticeSlots } = s)) ∧
  (∀ (s : State) (k : SlotId), s.expiryDue k = true ↔
    ∃ m a, (s.slots[k]).state = .purging m a ∧ a.grace = 0 ∧ (s.slots[k]).holders ≠ 0) ∧
  (∀ (s : State) (k : SlotId), s.frontHead = none → s.backHead = none →
    (s.expiryDue k = false → exec (.purgeExpiry k) s = .next s) ∧
    (∀ m a, s.expiryDue k = true → (s.slots[k]).state = .purging m a → ∃ t cut, exec (.purgeExpiry k) s = .next t ∧
      (t.slots[k]).state = .empty ∧ (t.slots[k]).holders = 0 ∧
      (t.slots[k]).generation = (s.slots[k]).generation ∧
      (∀ (id : CtxId) (c : Context), s.contexts[id] = some c → c.holds k = true → t.contexts[id] = none) ∧
      t.frontQueue = s.frontQueue ++ (List.finRange 64).filterMap (fun id : CtxId => (s.contexts[id]).bind fun c =>
        if c.holds k then some (.done id .keyPurged c.sectorsDone (s.linkTime - c.openTime)) else none) ∧
      t.backQueue = s.backQueue ++ (List.finRange 64).filterMap (fun id : CtxId => (s.contexts[id]).bind fun c =>
        if c.holds k ∧ c.dir = .write then some (.ended id .keyPurged c.sectorsDone) else none) ∧
      (∀ id : CtxId, t.donePlaces[id] = (if (s.contexts[id]).any (fun c => c.holds k) then .filled
          else s.donePlaces[id]) ∧
        t.endPlaces[id] = (if (s.contexts[id]).any (fun c => c.holds k && c.dir == .write) then .filled
          else s.endPlaces[id])) ∧
      (∀ id : CtxId, (∀ c, s.contexts[id] = some c → c.holds k = false) →
        t.contexts[id] = s.contexts[id]) ∧
      cut = a.cut + (List.finRange 64).countP (fun id => (s.contexts[id]).any (fun c => c.holds k)) ∧
      (∀ tag, a.owed = some tag → t.replies.getLast? = some
        ⟨tag, 0x04, .ok, .keyPurge (BitVec.ofNat 8 k.val) (BitVec.ofNat 8 a.drained) (BitVec.ofNat 8 cut)⟩) ∧
      (t.classOf .purge).latest = some ⟨s.linkTime, .purge k a.cause a.drained cut⟩ ∧
      ((∀ x : SlotId, x ≠ k → (s.slots[x]).isPurging = false) → ∀ u, u = s.report (.purge k a.cause a.drained cut) →
        t.classOf .purge = u.classOf .purge ∧ t.noticeSlots[2] = u.noticeSlots[2]) ∧
      (∀ (i : BandId) (b : Band), s.bands[i] = some b → b.pending = none →
        (isBase i = false ∨ b.migration = none ∨ ∀ (j : BandId) (x : Band), s.bands[j] = some x → x.pending = none) →
        t.bands[i] = some (s.withoutEnded t i b)) ∧
      (∀ x : SlotId, x ≠ k → s.SlotFollows t x fun a n => { a with cut := a.cut + n }) ∧
      s.SameLines t ∧ s.SameControl t ∧ t.wraps = s.wraps ∧ t.latched = s.latched ∧
      t.discards = s.discards ∧ t.reservations = s.reservations))

/-- PURGE-ALL cuts every context with KEY_PURGED, in increasing order of context id, each with its DONE and for a
write its END, erases every key slot with its generation kept and every wrap slot, empties the band table and returns
to PREPARE (chapter 5). Its replies are, in this order: ABANDONED for the staged changes by band index, ABANDONED for
the loads by slot number, OK for the purges in progress by slot number with the counts of their accounts, the holders
cut now among the cut, and its own OK (chapters 5 and 9). A PURGE event with cause ALL is reported for every slot that
held material, in increasing order of slot number: a READY or POISONED slot's with its holder count as cut, a PURGING
slot's with the counts of its account; nothing else changes in the notice unit (chapter 5). The latched set, the
lines, link time, the grace setting and the discard counter stay (chapter 5). -/
def Obligations.PurgeAllErasesEverything : Prop :=
  ∀ (s : State) (tag : Byte) (holders : SlotId → Nat), s.TakesRequests → s.backHead = none →
    (∀ k, holders k = (List.finRange 64).countP fun id => (s.contexts[id]).any fun c => c.holds k) →
    ∃ t, exec (.purgeAll tag (.fields ())) s = .next t ∧
      (∀ id : CtxId, t.contexts[id] = none) ∧
      t.frontQueue = s.frontQueue ++ (List.finRange 64).filterMap (fun id : CtxId => (s.contexts[id]).map fun c =>
        .done id .keyPurged c.sectorsDone (s.linkTime - c.openTime)) ∧
      t.backQueue = s.backQueue ++ (List.finRange 64).filterMap (fun id : CtxId => (s.contexts[id]).bind fun c =>
        if c.dir = .write then some (.ended id .keyPurged c.sectorsDone) else none) ∧
      (∀ id : CtxId, t.donePlaces[id] = (if (s.contexts[id]).isSome then .filled else s.donePlaces[id]) ∧
        t.endPlaces[id] = (if (s.contexts[id]).any (fun c => c.dir == .write) then .filled else s.endPlaces[id])) ∧
      t.replies = s.replies ++
        (List.finRange 32).filterMap (fun i : BandId => (s.bands[i]).bind fun b => b.pending.bind fun p =>
          p.owed.map fun owed => match p.change with
            | .bandSet _ => ⟨owed, 0x07, .abandoned, .band (BitVec.ofNat 8 i.val)⟩
            | .migrateStart _ _ => ⟨owed, 0x0A, .abandoned, .migrateStart (BitVec.ofNat 8 i.val) 0⟩) ++
        (List.finRange 32).filterMap (fun k : SlotId => match (s.slots[k]).state with
          | .loading l => l.owed.map fun owed => ⟨owed, 0x02, .abandoned, .keyLoad (BitVec.ofNat 8 k.val) 0⟩
          | _ => none) ++
        (List.finRange 32).filterMap (fun k : SlotId => match (s.slots[k]).state with
          | .purging _ a => a.owed.map fun owed => ⟨owed, 0x04, .ok, .keyPurge (BitVec.ofNat 8 k.val)
              (BitVec.ofNat 8 a.drained) (BitVec.ofNat 8 (a.cut + holders k))⟩
          | _ => none) ++
        [⟨tag, 0x05, .ok, .none⟩] ∧
      (((List.finRange 32).filterMap (fun k : SlotId => match (s.slots[k]).state with
          | .ready _ => some (.purge k .all 0 (s.slots[k]).holders)
          | .poisoned _ => some (.purge k .all 0 (s.slots[k]).holders)
          | .purging _ a => some (.purge k .all a.drained (a.cut + holders k))
          | _ => none)).foldl (fun u d => u.report d) s).SameNotices t ∧
      (∀ k : SlotId, (t.slots[k]).state = .empty ∧ (t.slots[k]).generation = (s.slots[k]).generation) ∧
      (∀ w : WrapId, t.wraps[w] = .empty) ∧ (∀ i : BandId, t.bands[i] = none) ∧ t.life = .prepare ∧
      t.replies.getLast? = some { tag := tag, code := 0x05, status := .ok, result := .none } ∧
      t.reservations = s.reservations + 1 ∧ s.SameLines t ∧ t.linkTime = s.linkTime ∧
      t.graceSetting = s.graceSetting ∧ t.latched = s.latched ∧ t.discards = s.discards

/-! ### Bands -/

/-- BAND-SET: its fields are judged first, each against its encoding, and give the band, and for ACTIVE the fields they
spell, for UNUSED none (chapters 3 and 11; the slot byte of an absent binding is not judged: log 25). Then the checks in
their order give the status (chapter 3); a refusal changes nothing; for a band with open
contexts it is staged with its reply waiting; otherwise the entry takes the fields given, with set locks kept under the
trip gate, no record and no staged change (chapter 3). Where it makes a locking band ACTIVE over the watermark of its
namespace's base band, the watermark moves past it with an ADVANCE event, and completes the migration at the base band's
last LBA + 1, with a COMPLETE event behind it; every other band stays, and no other event is reported (chapter 6). -/
def Obligations.BandSetIsRefusedStagedOrApplied : Prop :=
  (∀ f : BandSetFields, bandSetOf f = none ↔
    31 < f.band.toNat ∨ 1 < f.state.toNat ∨ (f.state = 1 ∧
      (3 < f.locks.toNat ∨ 7 < f.tripMask.toNat ∨ 3 < f.latchedAction.toNat ∨ 1 < f.pfailResponse.toNat ∨
        1 < f.saltPresent.toNat ∨ 1 < f.bindingPresent.toNat ∨ (f.bindingPresent = 1 ∧ 31 < f.slot.toNat) ∨
        (f.band.toNat < 8 ∧ (f.extentA = 0 ∨ 2 ^ 48 < f.extentA.toNat ∨ 4 < f.format.toNat ∨
          1 < f.metaMode.toNat)) ∨
        (8 ≤ f.band.toNat ∧ (f.namespaceNumber = 0 ∨ 8 < f.namespaceNumber.toNat ∨ 2 ^ 48 ≤ f.extentA.toNat ∨
          2 ^ 48 ≤ f.extentB.toNat))))) ∧
  (∀ (f : BandSetFields) (i : BandId) (new : Option BandFields), bandSetOf f = some (i, new) →
    i.val = f.band.toNat ∧ (f.state = 0 → new = none) ∧ (f.state = 1 → ∃ g, new = some g ∧
      (i.val < 8 → ∃ format mode, g.extent = .base f.extentA.toNat format mode ∧
        [Format.f512, .f520, .f4096, .f4104, .f4160][f.format.toNat]? = some format ∧
        [MetaMode.ciphered, .clear][f.metaMode.toNat]? = some mode) ∧
      (8 ≤ i.val → ∃ ns : Ns, ns.val + 1 = f.namespaceNumber.toNat ∧
        g.extent = .locking ns f.extentA.toNat f.extentB.toNat) ∧
      (f.bindingPresent = 0 → g.binding = none) ∧
      (f.bindingPresent = 1 → ∃ k : SlotId, k.val = f.slot.toNat ∧ g.binding = some ⟨k, f.generation⟩) ∧
      g.readLock = f.locks.getLsbD 0 ∧ g.writeLock = f.locks.getLsbD 1 ∧
      g.salt = (if f.saltPresent = 1 then some f.salt else none) ∧
      g.tripMask = ⟨f.tripMask.getLsbD 0, f.tripMask.getLsbD 1, f.tripMask.getLsbD 2⟩ ∧
      [LatchedAction.none, .lock, .cut, .purge][f.latchedAction.toNat]? = some g.action ∧
      [PfailResponse.none, .hold][f.pfailResponse.toNat]? = some g.pfail)) ∧
  (∀ (s : State) (i : BandId) (new : Option BandFields), FirstToHold [
    (∃ b, s.bands[i] = some b ∧ b.pending ≠ none, .busy),
    (∃ b, s.bands[i] = some b ∧ b.migration ≠ none, .migrating),
    (∃ g ns first last, new = some g ∧ g.extent = .locking ns first last ∧
      ∀ b, s.bands[baseBand ns] = some b → ∃ owed, b.pending = some ⟨.bandSet none, owed⟩, .noBand),
    (∃ g ns first last b, new = some g ∧ g.extent = .locking ns first last ∧ s.bands[baseBand ns] = some b ∧
      ¬(first ≤ last ∧ last + 1 ≤ b.fields.extent.endLba ∧
        ∀ h owed, b.pending = some ⟨.bandSet (some h), owed⟩ → last + 1 ≤ h.extent.endLba), .outOfRange),
    (∃ (ns : Ns) (j : BandId) (b : Band) (e : Nat × Nat), i = baseBand ns ∧ s.bands[j] = some b ∧
      b.claims ns e ∧ ∀ g, new = some g → g.extent.endLba < e.2 + 1, .outOfRange),
    (∃ (g : BandFields) (ns : Ns) (first last : Nat) (j : BandId) (b : Band) (e : Nat × Nat), new = some g ∧
      g.extent = .locking ns first last ∧ j ≠ i ∧ s.bands[j] = some b ∧ b.claims ns e ∧ e.1 ≤ last ∧ first ≤ e.2, .overlap),
    (∃ g x, new = some g ∧ g.binding = some x ∧ (s.slots[x.slot]).isReady = false, .notReady),
    (∃ g x, new = some g ∧ g.binding = some x ∧ (s.slots[x.slot]).generation ≠ x.generation, .genMismatch),
    (∃ g b, new = some g ∧ s.bands[i] = some b ∧
      ((b.fields.readLock = true ∧ g.readLock = false) ∨ (b.fields.writeLock = true ∧ g.writeLock = false)) ∧
      (s.gateHolds b.fields.tripMask = true ∨ s.gateHolds g.tripMask = true), .tripped)]
    (s.bandSetRefusal i new)) ∧
  (∀ (s : State) (tag : Byte) (f : BandSetFields), s.TakesRequests → s.backHead = none →
    (bandSetOf f = none → exec (.bandSet tag (.fields f)) s =
      .next (s.answered tag .bandSet .badRequest (.band 0))) ∧
    (∀ i new, bandSetOf f = some (i, new) →
      (∀ status, s.bandSetRefusal i new = some status → exec (.bandSet tag (.fields f)) s =
        .next (s.answered tag .bandSet status (.band 0))) ∧
      (∀ b, s.bandSetRefusal i new = none → s.bands[i] = some b → b.openCount ≠ 0 →
        exec (.bandSet tag (.fields f)) s = .next { s with
          reservations := s.reservations + 1,
          bands := s.bands.set i (some { b with
            pending := some { change := .bandSet new, owed := some tag } }) }) ∧
      (s.bandSetRefusal i new = none → (∀ b, s.bands[i] = some b → b.openCount = 0) →
        ∃ t, exec (.bandSet tag (.fields f)) s = .next t ∧
          t.bands[i] = new.map (fun g =>
            { fields := { g with
                readLock := g.readLock || (s.bands[i].any fun b => b.fields.readLock &&
                  (s.gateHolds b.fields.tripMask || s.gateHolds g.tripMask)),
                writeLock := g.writeLock || (s.bands[i].any fun b => b.fields.writeLock &&
                  (s.gateHolds b.fields.tripMask || s.gateHolds g.tripMask)) },
              openCount := 0, migration := none, writer := none, pending := none }) ∧
          (∀ j : BandId, j ≠ i → isBase j = false → t.bands[j] = s.bands[j]) ∧
          (∀ j : BandId, j ≠ i →
            (∀ g ns first last b, new = some g → g.extent = .locking ns first last → j = baseBand ns →
              s.bands[j] = some b → b.migration = none) → t.bands[j] = s.bands[j]) ∧
          s.WatermarkPlacedAgain t new ∧
          { t with bands := s.bands, classes := s.classes, noticeSlots := s.noticeSlots } =
            s.answered tag .bandSet .ok (.band (BitVec.ofNat 8 i.val)))))

/-- Check 5 of a base band's BAND-SET: it fails exactly when a locking band of the namespace has a present extent,
or a staged one that would leave it ACTIVE there, past the new size, or any at all where the base band would become
UNUSED (R62). -/
def Obligations.BaseBandKeepsItsLockingBandsInside : Prop :=
  ∀ (s : State) (tag : Byte) (f : BandSetFields) (i : BandId) (new : Option BandFields) (ns : Ns),
    s.TakesRequests → s.backHead = none → bandSetOf f = some (i, new) → i = baseBand ns →
    (∀ b, s.bands[i] = some b → b.pending = none ∧ b.migration = none) →
    (exec (.bandSet tag (.fields f)) s = .next (s.answered tag .bandSet .outOfRange (.band 0)) ↔
      ∃ (j : BandId) (b : Band) (e : Nat × Nat), s.bands[j] = some b ∧ b.claims ns e ∧
        ∀ g, new = some g → g.extent.endLba < e.2 + 1)

/-- BAND-LOCK: out-of-range fields, an UNUSED band and a clearing under the trip gate are refused; otherwise the
locks take the values, and those of a staged BAND-SET too, where a staged lock stays set under the gate (chapter 3;
log 15). The gate holds a band whose trip mask has a latched source (chapter 3). Bit 0 of a locks byte is the
read lock, bit 1 the write lock, and none is above 3 (chapter 11). -/
def Obligations.BandLockSetsTheLocks : Prop :=
  (∀ b : Byte, (locksOf b = none ↔ 3 < b.toNat) ∧
    (b.toNat ≤ 3 → locksOf b = some (b.getLsbD 0, b.getLsbD 1))) ∧
  (∀ (s : State) (mask : SourceSet), s.gateHolds mask = true ↔
    (mask.plock = true ∧ s.latched.plock = true) ∨ (mask.soft = true ∧ s.latched.soft = true) ∨
    (mask.keyfault = true ∧ s.latched.keyfault = true)) ∧
  ∀ (s : State) (tag : Byte) (f : BandLockFields), s.TakesRequests →
    ((bandOf f.band = none ∨ locksOf f.locks = none) → exec (.bandLock tag (.fields f)) s =
      .next (s.answered tag .bandLock .badRequest (.band 0))) ∧
    (∀ i read write, bandOf f.band = some i → locksOf f.locks = some (read, write) →
      (s.bands[i] = none → exec (.bandLock tag (.fields f)) s =
        .next (s.answered tag .bandLock .noBand (.band 0))) ∧
      (∀ b, s.bands[i] = some b →
        (s.gateHolds b.fields.tripMask = true →
          ((b.fields.readLock = true ∧ read = false) ∨ (b.fields.writeLock = true ∧ write = false)) →
          exec (.bandLock tag (.fields f)) s = .next (s.answered tag .bandLock .tripped (.band 0))) ∧
        ((s.gateHolds b.fields.tripMask = false ∨
            ((b.fields.readLock = true → read = true) ∧ (b.fields.writeLock = true → write = true))) →
          exec (.bandLock tag (.fields f)) s = .next
            { s.answered tag .bandLock .ok (.band (BitVec.ofNat 8 i.val)) with
              bands := s.bands.set i (some { b with
                fields := { b.fields with readLock := read, writeLock := write },
                pending := (match b.pending with
                  | some ⟨.bandSet (some g), owed⟩ => some ⟨.bandSet (some { g with
                      readLock := read || (s.gateHolds b.fields.tripMask && g.readLock),
                      writeLock := write || (s.gateHolds b.fields.tripMask && g.writeLock) }), owed⟩
                  | other => other) }) })))

/-- MIGRATE-START: the checks in their order give the status (chapter 6); a refusal changes nothing; for a band with
open contexts it is staged; otherwise the band has a record with the target and a watermark at its first LBA placed past
locking bands, or has completed, with its OK reply that carries the watermark as placed, here the band's last LBA + 1
(log 16), and the COMPLETE event alone (chapter 6). -/
def Obligations.MigrateStartIsRefusedStagedOrApplied : Prop :=
  (∀ (s : State) (i : BandId) (target : SlotId) (generation : BitVec 16), FirstToHold [
    (∃ b, s.bands[i] = some b ∧ b.pending ≠ none, .busy),
    (∃ b, s.bands[i] = some b ∧ b.migration ≠ none, .migrating),
    (∀ b, s.bands[i] = some b → b.fields.binding = none, .noKey),
    (∃ b x, s.bands[i] = some b ∧ b.fields.binding = some x ∧ x.slot = target, .badRequest),
    ((s.slots[target]).isReady = false, .notReady),
    ((s.slots[target]).generation ≠ generation, .genMismatch)]
    (s.migrateStartRefusal i target generation)) ∧
  (∀ (s : State) (tag : Byte) (f : MigrateStartFields), s.TakesRequests → s.backHead = none →
    (bandOf f.band = none ∨ slotOf f.target = none → exec (.migrateStart tag (.fields f)) s =
      .next (s.answered tag .migrateStart .badRequest (.migrateStart 0 0))) ∧
    (∀ i target, bandOf f.band = some i → slotOf f.target = some target →
      (∀ status, s.migrateStartRefusal i target f.generation = some status →
        exec (.migrateStart tag (.fields f)) s =
          .next (s.answered tag .migrateStart status (.migrateStart 0 0))) ∧
      (∀ b, s.migrateStartRefusal i target f.generation = none → s.bands[i] = some b →
        (b.openCount ≠ 0 → exec (.migrateStart tag (.fields f)) s = .next { s with
          reservations := s.reservations + 1,
          bands := s.bands.set i (some { b with
            pending := some { change := .migrateStart target f.generation, owed := some tag } }) }) ∧
        (b.openCount = 0 → s.placeFor i b.fields.extent.firstLba ≠ b.fields.extent.endLba →
          exec (.migrateStart tag (.fields f)) s = .next
            { s.answered tag .migrateStart .ok (.migrateStart (BitVec.ofNat 8 i.val)
                (BitVec.ofNat 64 (s.placeFor i b.fields.extent.firstLba))) with
              bands := s.bands.set i (some { b with
                migration := some ⟨target, f.generation, s.placeFor i b.fields.extent.firstLba⟩,
                writer := none, pending := none }) }) ∧
        (b.openCount = 0 → s.placeFor i b.fields.extent.firstLba = b.fields.extent.endLba →
          ∃ t, exec (.migrateStart tag (.fields f)) s = .next t ∧
            t.bands = s.bands.set i (some { b with
              fields := { b.fields with binding := some ⟨target, f.generation⟩ },
              migration := none, writer := none, pending := none }) ∧
            (t.classOf .migrate).latest = some
              ⟨s.linkTime, .migrate i .complete b.fields.extent.endLba⟩ ∧
            (s.report (.migrate i .complete b.fields.extent.endLba)).SameNotices t ∧
            { t with bands := s.bands, classes := s.classes, noticeSlots := s.noticeSlots } =
              s.answered tag .migrateStart .ok (.migrateStart (BitVec.ofNat 8 i.val)
                (BitVec.ofNat 64 b.fields.extent.endLba))))))

/-- The place of a watermark: for a base band the least LBA from it on that lies in no ACTIVE locking band of the
namespace, for a locking band the LBA itself (chapter 6). A watermark given to a migrating band: below last + 1 it is
the record's new watermark; at last + 1 the binding becomes the target with its generation and the record and its
writer are gone, with a COMPLETE event, behind the ADVANCE event where one is reported (chapter 6). The key of a
sector is that of the segment enclosing its LBA, its salt that of the segment's band: without a target every context
takes the current slot; with one a migrate READ takes the current slot and a migrate WRITE the target, and an ordinary
context takes the target below W and where the record is gone, the current slot at W and above (chapters 1 and 6). -/
def Obligations.WatermarksAndKeyChoice : Prop :=
  (∀ (s : State) (i : BandId) (w : Nat), 8 ≤ i.val → s.placeFor i w = w) ∧
  (∀ (s : State) (ns : Ns) (w v : Nat) (covered : Nat → Prop),
    (∀ x, covered x ↔ ∃ (i : BandId) (b : Band) (first last : Nat), s.bands[i] = some b ∧
      b.fields.extent = .locking ns first last ∧ first ≤ x ∧ x ≤ last) →
    (s.placeFor (baseBand ns) w = v ↔ w ≤ v ∧ (∀ x, w ≤ x → x < v → covered x) ∧ ¬covered v)) ∧
  (∀ (s : State) (i : BandId) (b : Band) (r : Migration) (w : Nat) (announce : Bool),
    s.bands[i] = some b → b.migration = some r →
    (w ≠ b.fields.extent.endLba → (s.moveWatermark i w announce).bands =
      s.bands.set i (some { b with migration := some { r with w := w } }) ∧
      (if announce then s.report (.migrate i .advance w) else s).SameNotices (s.moveWatermark i w announce)) ∧
    (w = b.fields.extent.endLba → (s.moveWatermark i w announce).bands =
      s.bands.set i (some { b with
        fields := { b.fields with binding := some ⟨r.target, r.targetGeneration⟩ },
        migration := none, writer := none }) ∧
      ((s.moveWatermark i w announce).classOf .migrate).latest =
        some { time := s.linkTime, detail := .migrate i .complete w } ∧
      ((if announce then s.report (.migrate i .advance w) else s).report (.migrate i .complete w)).SameNotices
        (s.moveWatermark i w announce))) ∧
  (∀ (s : State) (c : Context) (before after : List Segment) (g : Segment) (lba : Nat),
    c.segments = before ++ g :: after → (∀ h ∈ before, ¬(h.first ≤ lba ∧ lba ≤ h.last)) →
    g.first ≤ lba → lba ≤ g.last →
    s.slotFor c lba = s.choose c.dir c.migrate g lba ∧
    (s.bands[g.band] = none → s.saltFor c lba = none) ∧
    (∀ b, s.bands[g.band] = some b → s.saltFor c lba = b.fields.salt)) ∧
  (∀ (s : State) (dir : Direction) (migrate : Bool) (g : Segment) (lba : Nat),
    (g.target = none → s.choose dir migrate g lba = g.current) ∧
    (∀ target, g.target = some target →
      (migrate = true → s.choose dir migrate g lba = (if dir = .read then g.current else target)) ∧
      (migrate = false →
        ((s.bands[g.band]).bind (·.migration) = none → s.choose dir migrate g lba = target) ∧
        (∀ r, (s.bands[g.band]).bind (·.migration) = some r →
          s.choose dir migrate g lba = (if lba < r.w then target else g.current)))))

/-- PENDING_CHANGE_APPLY: a staged BAND-SET of a band without open contexts applies: the entry takes the fields given,
with set locks kept under the trip gate, no record and no staged change, a base band's W is placed again, and the
waiting reply is OK (chapters 3 and 6). A staged MIGRATE-START gives the band its record with W placed, or completes
at once (chapter 6; the watermark of the reply: log 16). A band with open contexts or nothing staged is left (log 10).
Nothing else changes. Where one event frees several bands, each applies as if by its own event, in increasing order of
band index, and so their OK replies are appended in that order (chapter 3). -/
def Obligations.StagedChangesApplyAtOpenCountZero : Prop :=
  (∀ s : State,
    (∃ ok, s.applyIdleChanges.replies = s.replies ++ ok ∧ (∀ r ∈ ok, r.status = .ok) ∧
      ok.map (·.tag) = (List.finRange 32).filterMap fun i => (s.bands[i]).bind fun b =>
        if b.openCount = 0 then b.pending.bind (·.owed) else none) ∧
    (∀ (i : BandId) (b : Band), s.applyIdleChanges.bands[i] = some b → b.openCount = 0 → b.pending = none) ∧
    (s.frontHead = none → s.backHead = none →
      s.applyIdleChanges = (List.finRange 32).foldl (fun (u : State) (i : BandId) => match exec (.pendingChangeApply i) u with
        | .next v => v
        | _ => u) s)) ∧
  ∀ (s : State) (i : BandId), s.frontHead = none → s.backHead = none →
    ((∀ b, s.bands[i] = some b → b.openCount ≠ 0 ∨ b.pending = none) →
      exec (.pendingChangeApply i) s = .next s) ∧
    (∀ b new owed, s.bands[i] = some b → b.openCount = 0 →
      b.pending = some { change := .bandSet new, owed := owed } →
      ∃ t, exec (.pendingChangeApply i) s = .next t ∧
        t.bands[i] = new.map (fun g =>
          { fields := { g with
              readLock := g.readLock || (b.fields.readLock &&
                (s.gateHolds b.fields.tripMask || s.gateHolds g.tripMask)),
              writeLock := g.writeLock || (b.fields.writeLock &&
                (s.gateHolds b.fields.tripMask || s.gateHolds g.tripMask)) },
            openCount := 0, migration := none, writer := none, pending := none }) ∧
        (∀ j : BandId, j ≠ i →
          (∀ g ns first last x, new = some g → g.extent = .locking ns first last → j = baseBand ns →
            s.bands[j] = some x → x.migration = none) → t.bands[j] = s.bands[j]) ∧
        ((∀ g ns first last, new = some g → g.extent = .locking ns first last → i ≠ baseBand ns) →
          s.WatermarkPlacedAgain t new) ∧
        t.replies = s.replies ++ (match owed with
          | none => []
          | some tag => [⟨tag, 0x07, .ok, .band (BitVec.ofNat 8 i.val)⟩]) ∧
        { t with bands := s.bands, classes := s.classes, noticeSlots := s.noticeSlots, replies := s.replies } = s) ∧
    (∀ b target generation owed w, s.bands[i] = some b → b.openCount = 0 →
      b.pending = some { change := .migrateStart target generation, owed := owed } →
      w = s.placeFor i b.fields.extent.firstLba →
      ∃ t, exec (.pendingChangeApply i) s = .next t ∧
        (w ≠ b.fields.extent.endLba →
          t.bands = s.bands.set i (some { b with
            migration := some ⟨target, generation, w⟩, writer := none, pending := none }) ∧
          s.SameNotices t) ∧
        (w = b.fields.extent.endLba →
          t.bands = s.bands.set i (some { b with
            fields := { b.fields with binding := some ⟨target, generation⟩ },
            migration := none, writer := none, pending := none }) ∧
          (s.report (.migrate i .complete w)).SameNotices t) ∧
        t.replies = s.replies ++ (match owed with
          | none => []
          | some tag => [⟨tag, 0x0A, .ok, .migrateStart (BitVec.ofNat 8 i.val) (BitVec.ofNat 64 w)⟩]) ∧
        { t with bands := s.bands, classes := s.classes, noticeSlots := s.noticeSlots, replies := s.replies } = s)

/-! ### Lockdown -/

/-- A latching adds its source, takes the action of every band whose trip mask holds it, in order of band index,
applies the staged changes of bands without open contexts, and reports one TRIP event with the set as it then stands;
a source already latched changes nothing (chapter 7). The CUT part ends the contexts that name the band with TRIPPED,
in order of context id, and no other (chapter 7). A context that names no band reached with CUT or PURGE, holds no
slot of a purged slot set, and names no band whose migration such a purge fails is as it was; a slot outside those
sets that is not PURGING stays in its state (chapter 7). A context that names a band reached with CUT or PURGE ends
with a DONE, and a write with an END, and with TRIPPED where no lower band is reached with PURGE (chapters 2 and 7).
Every band reached with an action other than NONE, and still ACTIVE after it, has both locks set, in a BAND-SET still
staged for it too; a band not reached, without a staged change, keeps every field but its binding (chapter 7). The
action PURGE erases the slot set it finds, but for a loading slot: the band's current slot, its record's target, the
slots an open context names in a segment of the band. A purge that it begins reports cause TRIP and drained 0 (stated
of the set's last slot, its cut count where no other slot of the set is purged); the owed reply of a purge already
running counts as cut the holders that do not name the band (chapter 5, log 12; stated where the holder counts count
the holders). A READY or POISONED slot bound to a band that is purged is EMPTY after it, and no band is bound to it,
migrates to it or waits to name it (chapters 5 and 7). After a latching no band without open contexts has a staged
change; one that is gone, and owed a reply, was answered OK or ABANDONED, and ABANDONED where it named a slot that the
latching erased (chapters 3 and 7). -/
def Obligations.LatchingRunsTheActions : Prop :=
  (∀ (s : State) (src : TripSource),
    (s.latched.has src = true → s.latch src = s) ∧
    (s.latched.has src = false →
      (s.latch src).latched = s.latched.insert src ∧
      ((s.latch src).classOf .trip).latest =
        some { time := s.linkTime, detail := .trip (.source src) (s.latched.insert src) } ∧
      (∀ u, u = s.report (.trip (.source src) (s.latched.insert src)) →
        (s.latch src).classOf .trip = u.classOf .trip ∧ (s.latch src).noticeSlots[0] = u.noticeSlots[0]) ∧
      (s.latch src).plock = s.plock ∧ (s.latch src).pfail = s.pfail ∧ s.SameControl (s.latch src) ∧
      (s.latch src).wraps = s.wraps ∧ (s.latch src).reservations = s.reservations)) ∧
  -- the actions in order, and what each is
  (∀ (s : State) (src : TripSource), s.latched.has src = false →
    s.latch src = (((List.finRange 32).foldl (fun (u : State) (i : BandId) => match u.bands[i] with
      | none => u
      | some b =>
        if b.fields.tripMask.has src then
          match b.fields.action with
          | .none => u
          | .lock => { u with bands := u.bands.set i (some { b with
              fields := { b.fields with readLock := true, writeLock := true },
              pending := (match b.pending with
                | some ⟨.bandSet (some g), owed⟩ =>
                  some ⟨.bandSet (some { g with readLock := true, writeLock := true }), owed⟩
                | other => other) }) }
          | .cut => u.cutBand .cut i
          | .purge => u.purgeBand i
        else u) { s with latched := s.latched.insert src }).applyIdleChanges).report
      (.trip (.source src) (s.latched.insert src))) ∧
  (∀ (s : State) (kind : EndKind) (i : BandId),
    (s.cutBand kind i).frontQueue = s.frontQueue ++ (List.finRange 64).filterMap (fun id : CtxId =>
      (s.contexts[id]).bind fun c =>
        if c.names i then some (.done id .tripped c.sectorsDone (s.linkTime - c.openTime)) else none) ∧
    (s.cutBand kind i).backQueue = s.backQueue ++ (List.finRange 64).filterMap (fun id : CtxId =>
      (s.contexts[id]).bind fun c =>
        if c.names i ∧ c.dir = .write then some (.ended id .tripped c.sectorsDone) else none) ∧
    (∀ id : CtxId, (s.cutBand kind i).contexts[id] =
      if (s.contexts[id]).any (fun c => c.names i) then none else s.contexts[id])) ∧
  -- what a latching leaves alone
  (∀ (s : State) (src : TripSource) (reached : BandId → LatchedAction → Prop), s.latched.has src = false →
    (∀ i action, reached i action ↔
      ∃ b, s.bands[i] = some b ∧ b.fields.tripMask.has src = true ∧ b.fields.action = action) →
    (∀ (id : CtxId) (c : Context), s.contexts[id] = some c →
      (∀ i : BandId, reached i .cut ∨ reached i .purge → c.names i = false) →
      (∀ (i : BandId) (k : SlotId), reached i .purge → s.inSlotSet i k = true → c.holds k = false ∧
        ∀ (j : BandId) (b : Band), s.bands[j] = some b → b.migration.isSome = true →
          (b.boundTo k = true ∨ b.migratesTo k = true) → c.names j = false) →
      (s.latch src).contexts[id] = some c) ∧
    (∀ k : SlotId, (s.slots[k]).isPurging = false →
      (∀ i : BandId, reached i .purge → s.inSlotSet i k = false) →
      ((s.latch src).slots[k]).state = (s.slots[k]).state ∧
      ((s.latch src).slots[k]).generation = (s.slots[k]).generation) ∧
    (∀ (i : BandId) (id : CtxId) (c : Context), reached i .cut ∨ reached i .purge →
      (∀ j : BandId, j.val < i.val → ¬reached j .purge) → s.contexts[id] = some c → c.names i = true →
      FrontEntry.done id .tripped c.sectorsDone (s.linkTime - c.openTime) ∈ (s.latch src).frontQueue ∧
      (c.dir = .write → BackEntry.ended id .tripped c.sectorsDone ∈ (s.latch src).backQueue))) ∧
  (∀ (s : State) (i : BandId) (k : SlotId), s.inSlotSet i k = true ↔
    ((∃ b, s.bands[i] = some b ∧ (b.boundTo k = true ∨ b.migratesTo k = true)) ∨
      (∃ (id : CtxId) (c : Context) (g : Segment), s.contexts[id] = some c ∧ g ∈ c.segments ∧ g.band = i ∧
        (g.current = k ∨ g.target = some k)))) ∧
  (∀ (s : State) (i : BandId) (k : SlotId), s.inSlotSet i k = true →
    (∀ x : SlotId, s.inSlotSet i x = true → x.val ≤ k.val) →
    ((s.slots[k]).isReady = true ∨ (s.slots[k]).isPoisoned = true) →
    ∃ cut, ((s.purgeBand i).classOf .purge).latest = some ⟨s.linkTime, .purge k .trip 0 cut⟩ ∧
      ((∀ x : SlotId, s.inSlotSet i x = true → x ≠ k → (s.slots[x]).isEmpty = true ∨ (s.slots[x]).isLoading = true) →
        cut = (List.finRange 64).countP fun id => (s.contexts[id]).any fun c => c.holds k && !c.names i)) ∧
  (∀ (s : State) (src : TripSource) (i : BandId) (b b' : Band), s.latched.has src = false →
    s.bands[i] = some b → b.fields.tripMask.has src = true → b.fields.action ≠ .none →
    (s.latch src).bands[i] = some b' → b'.fields.readLock = true ∧ b'.fields.writeLock = true ∧
      ∀ g owed, b'.pending = some ⟨.bandSet (some g), owed⟩ → g.readLock = true ∧ g.writeLock = true) ∧
  (∀ (s : State) (src : TripSource) (i : BandId) (b : Band), s.bands[i] = some b → b.pending = none →
    (b.fields.tripMask.has src = false ∨ b.fields.action = .none) →
    ∃ b', (s.latch src).bands[i] = some b' ∧ { b'.fields with binding := b.fields.binding } = b.fields) ∧
  (∀ (s : State) (src : TripSource) (i : BandId) (b : Band), s.latched.has src = false →
    s.bands[i] = some b → b.fields.tripMask.has src = true →
    (b.fields.action = .cut ∨ b.fields.action = .purge) →
    ∀ (id : CtxId) (c : Context), s.contexts[id] = some c → c.names i = true →
      (s.latch src).contexts[id] = none ∧
      ∃ status, FrontEntry.done id status c.sectorsDone (s.linkTime - c.openTime) ∈ (s.latch src).frontQueue ∧
        (c.dir = .write → BackEntry.ended id status c.sectorsDone ∈ (s.latch src).backQueue) ∧
        (status = .tripped ∨ status = .keyPurged)) ∧
  (∀ (s : State) (i : BandId) (k : SlotId),
    ((∃ b, s.bands[i] = some b ∧ (b.boundTo k = true ∨ b.migratesTo k = true)) ∨
      (∃ (id : CtxId) (c : Context) (g : Segment), s.contexts[id] = some c ∧ g ∈ c.segments ∧ g.band = i ∧
        (g.current = k ∨ g.target = some k))) →
    ((s.slots[k]).isLoading = false → ((s.purgeBand i).slots[k]).state = .empty ∧
      ((s.purgeBand i).slots[k]).generation = (s.slots[k]).generation) ∧
    (∀ m a tag, s.CountsOk → (s.slots[k]).state = .purging m a → a.owed = some tag →
      ∃ new, (s.purgeBand i).replies = s.replies ++ new ∧
        ⟨tag, 0x04, .ok, .keyPurge (BitVec.ofNat 8 k.val) (BitVec.ofNat 8 a.drained)
          (BitVec.ofNat 8 (a.cut + (List.finRange 64).countP fun id =>
            (s.contexts[id]).any fun c => c.holds k && !c.names i))⟩ ∈ new)) ∧
  (∀ (s : State) (src : TripSource) (i : BandId) (b : Band) (k : SlotId), s.latched.has src = false →
    s.bands[i] = some b → b.fields.tripMask.has src = true → b.fields.action = .purge → b.boundTo k = true →
    ((s.slots[k]).isReady = true ∨ (s.slots[k]).isPoisoned = true) →
    ((s.latch src).slots[k]).state = .empty ∧
    ∀ (j : BandId) (b' : Band), (s.latch src).bands[j] = some b' →
      b'.boundTo k = false ∧ b'.migratesTo k = false ∧ b'.changeNames k = false) ∧
  (∀ (s : State) (src : TripSource), s.latched.has src = false →
    (∀ (j : BandId) (b' : Band), (s.latch src).bands[j] = some b' → b'.openCount = 0 → b'.pending = none) ∧
    ∃ new, (s.latch src).replies = s.replies ++ new ∧
      ∀ (i : BandId) (b : Band) (p : Pending) (tag : Byte), s.bands[i] = some b → b.pending = some p →
        p.owed = some tag →
        ((∃ b' p', (s.latch src).bands[i] = some b' ∧ b'.pending = some p' ∧ p'.owed = some tag) ∨
          ∃ r ∈ new, r.tag = tag ∧ (r.status = .ok ∨ r.status = .abandoned)) ∧
        (∀ k : SlotId, b.changeNames k = true →
          ((s.slots[k]).isReady = true ∨ (s.slots[k]).isPoisoned = true) →
          ((s.latch src).slots[k]).isEmpty = true → ∃ r ∈ new, r.tag = tag ∧ r.status = .abandoned))

/-- The assertion of the PLOCK line: an asserted line has no edge, which is the model's choice (log 18); otherwise the
line state is asserted and PLOCK latched, and a PLOCK already latched changes the line state alone (chapter 7). The
assertion of PFAIL changes its
line state and reports a TRIP event with the latched set as it is; nothing else changes (chapter 7). The deassertion of
PLOCK or PFAIL changes its line and line state alone, the release of LINKRST its line alone, and the controller's hold
line of an outbound lane its level alone (chapters 7 and 8). -/
def Obligations.LinesActOnTheirEdges : Prop :=
  (∀ s : State, s.frontHead = none → s.backHead = none → s.porstLine = false →
    (s.plockLine = true → exec .plockAssert s = .next s) ∧
    (s.plockLine = false → s.latched.plock = true →
      exec .plockAssert s = .next { s with plockLine := true, plock := true }) ∧
    (s.plockLine = false → s.latched.plock = false →
      exec .plockAssert s = .next ({ s with plockLine := true, plock := true }.latch .plock))) ∧
  (∀ s : State, s.porstLine = false → s.pfailLine = false →
    ∃ t, exec .pfailAssert s = .next t ∧ t.pfail = true ∧ t.pfailLine = true ∧
      (t.classOf .trip).latest = some { time := s.linkTime, detail := .trip .pfail s.latched } ∧
      (s.report (.trip .pfail s.latched)).SameNotices t ∧
      (∀ k : NoticeClass, k ≠ .trip → t.classOf k = s.classOf k) ∧
      { t with pfail := s.pfail, pfailLine := s.pfailLine, classes := s.classes,
               noticeSlots := s.noticeSlots } = s) ∧
  (∀ (s : State) (level : Bool),
    exec .plockDeassert s = .next { s with plockLine := false, plock := false } ∧
    exec .pfailDeassert s = .next { s with pfailLine := false, pfail := false } ∧
    exec .linkrstRelease s = .next { s with linkrstLine := false } ∧
    exec (.outboundHold .front level) s = .next { s with frontOutHold := level } ∧
    exec (.outboundHold .back level) s = .next { s with backOutHold := level })

/-- TRIP-FORCE latches SOFT if it is not latched, which runs the band actions and reports the TRIP event of a latching,
and then answers OK with the latched set as it then stands (chapter 7).
TRIP-CLEAR: a mask outside the sources is BAD_REQUEST, PLOCK with its line state asserted STILL_ASSERTED, and both
clear nothing; otherwise the sources of the mask leave the set. The reply always carries the set as it then stands
(chapter 7). -/
def Obligations.TripForceAndTripClear : Prop :=
  (∀ (s : State) (tag : Byte), s.TakesRequests → s.backHead = none →
    (s.latched.soft = true → exec (.tripForce tag (.fields ())) s =
      .next (s.answered tag .tripForce .ok (.latched s.latched))) ∧
    (s.latched.soft = false → ∃ t u, exec (.tripForce tag (.fields ())) s = .next t ∧
      u = { s with reservations := s.reservations + 1 }.latch .soft ∧
      t = { u with replies := u.replies ++ [⟨tag, 0x0B, .ok, .latched { s.latched with soft := true }⟩] } ∧
      t.latched = { s.latched with soft := true } ∧
      t.replies.getLast? = some ⟨tag, 0x0B, .ok, .latched { s.latched with soft := true }⟩ ∧
      t.reservations = s.reservations + 1 ∧ s.SameLines t ∧ s.SameControl t ∧ t.wraps = s.wraps ∧
      t.discards = s.discards)) ∧
  (∀ (s : State) (tag f : Byte) (rest : SourceSet), s.TakesRequests →
    rest = ⟨s.latched.plock && !f.getLsbD 0, s.latched.soft && !f.getLsbD 1,
      s.latched.keyfault && !f.getLsbD 2⟩ →
    (7 < f.toNat → exec (.tripClear tag (.fields f)) s =
      .next (s.answered tag .tripClear .badRequest (.latched s.latched))) ∧
    (f.toNat ≤ 7 → f.getLsbD 0 = true → s.plock = true → exec (.tripClear tag (.fields f)) s =
      .next (s.answered tag .tripClear .stillAsserted (.latched s.latched))) ∧
    (f.toNat ≤ 7 → (f.getLsbD 0 = false ∨ s.plock = false) → exec (.tripClear tag (.fields f)) s =
      .next { s.answered tag .tripClear .ok (.latched rest) with latched := rest }))

/-! ### Sending, link reset, time -/

/-- A sending begins only on a lane that is not sending and is not stopped by its hold line or a reset. Front-out
then chooses the NOTICE of the highest class, else the oldest REPLY, else the oldest data-queue entry; back-out its
oldest entry (chapter 8). -/
def Obligations.SendingChoosesByPriority : Prop :=
  ∀ s : State,
    ((s.frontSending.isSome = true ∨ s.frontOutHold = true ∨ s.linkrstLine = true ∨ s.porstLine = true) →
      exec (.sendStart .front) s = .next s) ∧
    ((s.backSending = true ∨ s.backOutHold = true ∨ s.linkrstLine = true ∨ s.porstLine = true) →
      exec (.sendStart .back) s = .next s) ∧
    (s.linkrstLine = false → s.porstLine = false → s.frontSending = none → s.frontOutHold = false →
      (∀ k : NoticeClass, (s.noticeSlots[k.idx]).isSome = true →
        (∀ j : NoticeClass, j.idx < k.idx → s.noticeSlots[j.idx] = none) →
        exec (.sendStart .front) s = .next { s with frontSending := some (.notice k) }) ∧
      ((∀ k : NoticeClass, s.noticeSlots[k.idx] = none) →
        (s.replies ≠ [] → exec (.sendStart .front) s = .next { s with frontSending := some .reply }) ∧
        (s.replies = [] → s.frontQueue ≠ [] →
          exec (.sendStart .front) s = .next { s with frontSending := some .data }) ∧
        (s.replies = [] → s.frontQueue = [] → exec (.sendStart .front) s = .next s))) ∧
    (s.linkrstLine = false → s.porstLine = false → s.backSending = false → s.backOutHold = false →
      exec (.sendStart .back) s = .next { s with backSending := !s.backQueue.isEmpty })

/-- The completion of a sending frees exactly the frame's place: a NOTICE's slot with its flag left, a REPLY's
reservation, a DATA place, or a DONE or END place, which becomes IDLE (chapter 8). -/
def Obligations.SentFramesFreeTheirPlace : Prop :=
  ∀ s : State, s.frontHead = none → s.backHead = none →
    (s.frontSending = none → exec (.frameSent .front) s = .next s) ∧
    (s.backSending = false → exec (.frameSent .back) s = .next s) ∧
    (∀ k : NoticeClass, s.frontSending = some (.notice k) → exec (.frameSent .front) s =
      .next { s with frontSending := none, noticeSlots := s.noticeSlots.set k.idx none }) ∧
    (∀ r rest, s.frontSending = some .reply → s.replies = r :: rest → exec (.frameSent .front) s =
      .next { s with frontSending := none, replies := rest, reservations := s.reservations - 1 }) ∧
    (∀ e rest, s.frontSending = some .data → s.frontQueue = e :: rest → exec (.frameSent .front) s =
      .next { s with
        frontSending := none, frontQueue := rest,
        donePlaces := match e with
          | .done id _ _ _ => s.donePlaces.set id .idle
          | _ => s.donePlaces }) ∧
    (∀ e rest, s.backSending = true → s.backQueue = e :: rest → exec (.frameSent .back) s =
      .next { s with
        backSending := false, backQueue := rest,
        endPlaces := match e with
          | .ended id _ _ => s.endPlaces.set id .idle
          | _ => s.endPlaces })

/-- The assertion of LINKRST empties heads, queues, slots and reservations, frees every context silently, applies every
staged change, in increasing order of band index, ends every purge, and clears flags and counters; loads go on, with no
reply owed. A staged BAND-SET gives the entry its fields, with set locks kept under the trip gate, or makes it UNUSED;
a staged MIGRATE-START gives the band its record, with W at its first LBA placed, or has completed, and where a
BAND-SET applies too W lies in no locking band as they then stand (chapters 3 and 6; stated where the entries' extents,
present and staged, are laid out as every command keeps them). Kept are the latched set, line states, life state, link
time, grace setting, discard counter, wrap slots and generations, and a class's latest event where nothing is reported
into the class (chapters 2 to 10; what the link reset's own events do to it is the model's reading: log 17). A band
without a staged change keeps its fields, bindings and record with its W, but for its open count and its migrate writer
(chapter 3; a base band's W may move where a staged change applies: chapter 6); an UNUSED band stays UNUSED. That an
asserted line has no edge, and that under PORST the line alone changes, is the model's choice (log 18). -/
def Obligations.LinkResetEmptiesTheLink : Prop :=
  (∀ s : State, (s.linkrstLine = true → exec .linkrstAssert s = .next s) ∧
    (s.linkrstLine = false → s.porstLine = true →
      exec .linkrstAssert s = .next { s with linkrstLine := true })) ∧
  ∀ s : State, s.linkrstLine = false → s.porstLine = false → ∃ t, exec .linkrstAssert s = .next t ∧
    t.linkrstLine = true ∧ t.frontHead = none ∧ t.backHead = none ∧ t.frontQueue = [] ∧ t.backQueue = [] ∧
    t.replies = [] ∧ t.reservations = 0 ∧ t.frontSending = none ∧ t.backSending = false ∧
    (∀ id : CtxId, t.contexts[id] = none ∧ t.donePlaces[id] = .idle ∧ t.endPlaces[id] = .idle) ∧
    (∀ (i : BandId) (b : Band), t.bands[i] = some b → b.openCount = 0 ∧ b.writer = none ∧ b.pending = none) ∧
    (∀ (i : BandId) (b : Band), s.bands[i] = some b → b.pending = none →
      (isBase i = false ∨ b.migration = none ∨ ∀ (j : BandId) (x : Band), s.bands[j] = some x → x.pending = none) →
      t.bands[i] = some { b with openCount := 0, writer := none }) ∧
    (∀ i : BandId, s.bands[i] = none → t.bands[i] = none) ∧
    -- the staged changes
    t.bands = ({ s with bands := s.bands.map (Option.map fun (b : Band) =>
      { b with openCount := 0, writer := none }) } : State).applyIdleChanges.bands ∧
    (∀ (i : BandId) (b : Band) (new : Option BandFields) (owed : Option Byte), s.bands[i] = some b →
      b.pending = some ⟨.bandSet new, owed⟩ →
      t.bands[i] = new.map fun g =>
        { fields := { g with
            readLock := g.readLock || (b.fields.readLock &&
              (s.gateHolds b.fields.tripMask || s.gateHolds g.tripMask)),
            writeLock := g.writeLock || (b.fields.writeLock &&
              (s.gateHolds b.fields.tripMask || s.gateHolds g.tripMask)) },
          openCount := 0, migration := none, writer := none, pending := none }) ∧
    (s.LayoutOk → ∀ (i : BandId) (b : Band) (target : SlotId) (generation : BitVec 16) (owed : Option Byte),
      s.bands[i] = some b → b.pending = some ⟨.migrateStart target generation, owed⟩ →
      (∃ w, t.bands[i] = some { b with
          openCount := 0, migration := some ⟨target, generation, w⟩, writer := none, pending := none } ∧
        w ≠ b.fields.extent.endLba ∧ b.fields.extent.firstLba ≤ w ∧ t.placeFor i w = w) ∨
      t.bands[i] = some { b with
        fields := { b.fields with binding := some ⟨target, generation⟩ },
        openCount := 0, migration := none, writer := none, pending := none }) ∧
    (∀ (i : BandId) (b : Band) (target : SlotId) (generation : BitVec 16) (owed : Option Byte) (w : Nat),
      s.bands[i] = some b → b.pending = some ⟨.migrateStart target generation, owed⟩ →
      (8 ≤ i.val ∨ ∀ (j : BandId) (x : Band) (new : Option BandFields) (o : Option Byte), s.bands[j] = some x →
        x.pending ≠ some ⟨.bandSet new, o⟩) →
      w = s.placeFor i b.fields.extent.firstLba →
      t.bands[i] = some (if w = b.fields.extent.endLba then { b with
          fields := { b.fields with binding := some ⟨target, generation⟩ },
          openCount := 0, migration := none, writer := none, pending := none }
        else { b with
          openCount := 0, migration := some ⟨target, generation, w⟩, writer := none, pending := none })) ∧
    (∀ k : SlotId, t.slots[k] = {
      generation := (s.slots[k]).generation, holders := 0
      state := match (s.slots[k]).state with
        | .empty => .empty
        | .loading l => .loading { l with owed := none }
        | .ready m => .ready m
        | .purging _ _ => .empty
        | .poisoned m => .poisoned m }) ∧
    (∀ k : NoticeClass, (t.classOf k).flag = false ∧ (t.classOf k).counter = 0 ∧
      (t.classOf k).period = (s.classOf k).period ∧ t.noticeSlots[k.idx] = none ∧
      ((k = .purge → ∀ x : SlotId, (s.slots[x]).isPurging = false) →
        (k = .migrate → ∀ (j : BandId) (x : Band), s.bands[j] = some x → x.pending = none) →
        (t.classOf k).latest = (s.classOf k).latest)) ∧
    t.latched = s.latched ∧ t.plock = s.plock ∧ t.pfail = s.pfail ∧ s.SameControl t ∧ t.wraps = s.wraps ∧
    t.discards = s.discards ∧ t.porstLine = false ∧ t.plockLine = s.plockLine ∧ t.pfailLine = s.pfailLine ∧
    t.frontOutHold = s.frontOutHold ∧ t.backOutHold = s.backOutHold ∧ t.pending = s.pending

/-- A microsecond raises link time by 1 modulo 2^32 and, where no unwrap is at its bound and no purge's countdown
runs out, moves the countdowns and nothing else; under PORST time stands still (chapters 5 and 9; log 9, log 19).
When a microsecond has passed no purge stands at a countdown of 0 with holders, and no load is past its bound of 40
(chapters 4 and 5; log 9). Where one countdown reaches 0 with holders left, and no unwrap is at its bound, that purge's
expiry follows the tick (chapter 5); where one unwrap is at its bound, and no purge runs, its completion precedes the
tick (chapter 4; log 9). -/
def Obligations.MicrosecondsCount : Prop :=
  (∀ s : State, s.frontHead = none → s.backHead = none →
    (s.porstLine = true → exec .microsecondPasses s = .next s) ∧
    (s.porstLine = false →
      (∃ t, exec .microsecondPasses s = .next t ∧ t.linkTime = s.linkTime + 1) ∧
      ((∀ (k : SlotId) (l : Load), (s.slots[k]).state = .loading l → 1 < l.timeLeft) →
        (∀ (k : SlotId) m a, (s.slots[k]).state = .purging m a → (s.slots[k]).holders ≠ 0 → 1 < a.grace) →
        exec .microsecondPasses s = .next { s with
          linkTime := s.linkTime + 1,
          slots := s.slots.map fun v => { v with state := match v.state with
            | .purging m a => .purging m { a with grace := a.grace - 1 }
            | .loading l => .loading { l with timeLeft := l.timeLeft - 1 }
            | other => other } }))) ∧
  (∀ s t : State, s.frontHead = none → s.backHead = none → s.porstLine = false →
    (∀ (k : SlotId) (l : Load), (s.slots[k]).state = .loading l → 1 ≤ l.timeLeft) →
    exec .microsecondPasses s = .next t →
    (∀ k : SlotId, t.expiryDue k = false) ∧
    (∀ (k : SlotId) (l : Load), (t.slots[k]).state = .loading l → 1 ≤ l.timeLeft)) ∧
  (∀ (s : State) (ticked : State → State), s.frontHead = none → s.backHead = none → s.porstLine = false →
    (∀ u, ticked u = { u with
      linkTime := u.linkTime + 1,
      slots := u.slots.map fun v => { v with state := match v.state with
        | .purging m a => .purging m { a with grace := a.grace - 1 }
        | .loading l => .loading { l with timeLeft := l.timeLeft - 1 }
        | other => other } }) →
    (∀ k : SlotId, (∀ (x : SlotId) (l : Load), (s.slots[x]).state = .loading l → 1 < l.timeLeft) →
      (∀ x : SlotId, (ticked s).expiryDue x = true ↔ x = k) →
      exec .microsecondPasses s = exec (.purgeExpiry k) (ticked s)) ∧
    (∀ k : SlotId, (∀ (x : SlotId) (l : Load), (s.slots[x]).state = .loading l → (l.timeLeft ≤ 1 ↔ x = k)) →
      (s.slots[k]).isLoading = true → (∀ x : SlotId, (s.slots[x]).isPurging = false) →
      ∃ u, exec (.unwrapComplete k) s = .next u ∧ exec .microsecondPasses s = .next (ticked u)))

/-! ### What every command keeps -/

/-- Every command keeps the notice unit and the notice slots in agreement (chapter 10). -/
def Obligations.NoticesAreKept : Prop :=
  ∀ (c : Instr) (s t : State), s.NoticesOk → exec c s = .next t → t.NoticesOk

/-- Every command keeps the reservations in use equal to those waiting plus those filled, and at most 8 (chapter 9).
-/
def Obligations.ReservationsAreKept : Prop :=
  ∀ (c : Instr) (s t : State), s.ReservationsOk → exec c s = .next t → t.ReservationsOk

/-- Every command keeps the places as the contexts and the queues say (chapter 8). -/
def Obligations.PlacesAreKept : Prop :=
  ∀ (c : Instr) (s t : State), s.PlacesOk → exec c s = .next t → t.PlacesOk

/-- Every command keeps open counts and holder counts equal to the open contexts they count (chapters 3 and 4). -/
def Obligations.CountsAreKept : Prop :=
  ∀ (c : Instr) (s t : State), s.CountsOk → exec c s = .next t → t.CountsOk

/-- Every command keeps every open record as its state, offset and residue must agree (chapter 2). -/
def Obligations.RecordsAreKept : Prop :=
  ∀ (c : Instr) (s t : State), s.RecordsOk → exec c s = .next t → t.RecordsOk

/-- Every command keeps the line states at their lines and PLOCK latched while its line state is asserted, and keeps
every record FREE in PREPARE (chapters 7 and 9). Every command keeps every item at its value after PORST while PORST
is asserted (chapter 8). That time stands still then (log 19), that an edge of LINKRST then changes its line alone (log
18), and that the levels the board drives are kept (log 28) are the model's readings. -/
def Obligations.LinesLifeAndPowerAreKept : Prop :=
  (∀ (c : Instr) (s t : State), exec c s = .next t →
    (s.LinesOk → t.LinesOk) ∧ (s.PrepareOk → t.PrepareOk)) ∧
  (∀ (c : Instr) (s t : State), s.PowerOk → exec c s = .next t → t.PowerOk)

/-- Every command keeps the locking bands of each namespace apart and inside it, present and staged (chapter 3). -/
def Obligations.LayoutIsKept : Prop :=
  ∀ (c : Instr) (s t : State), s.LayoutOk → exec c s = .next t → t.LayoutOk

/-- Every command keeps bindings, targets and staged changes on READY or POISONED slots, and open contexts on READY
or PURGING ones (chapters 3 to 6). The counts are a premise of their own invariant. -/
def Obligations.KeysAreKept : Prop :=
  ∀ (c : Instr) (s t : State), s.CountsOk → s.KeysOk → exec c s = .next t → t.KeysOk

/-- Every command keeps every watermark inside its band and out of locking bands (chapter 6). The counts and the
layout are premises of their own invariants. -/
def Obligations.WatermarksAreKept : Prop :=
  ∀ (c : Instr) (s t : State), s.CountsOk → s.LayoutOk → s.WatermarksOk → exec c s = .next t → t.WatermarksOk

/-- Every invariant holds at reset. -/
def Obligations.InvariantsHoldAtReset : Prop :=
  State.reset.Settled ∧ State.reset.NoticesOk ∧ State.reset.ReservationsOk ∧ State.reset.PlacesOk ∧
  State.reset.CountsOk ∧ State.reset.RecordsOk ∧ State.reset.LinesOk ∧ State.reset.PrepareOk ∧
  State.reset.PowerOk ∧ State.reset.LayoutOk ∧ State.reset.KeysOk ∧ State.reset.WatermarksOk
end

