-- ==== Sys2Proof/Laws/State.lean ====
section
/-! SUPPORT. One lemma for each field and each update of the state, true by computation: no later proof unfolds a record update. -/

namespace Sys2Proof.Machine

section setContext

variable (s : State) (id : CtxId) (c : Option Context)

@[simp] theorem setContext_frontHead : (s.setContext id c).frontHead = s.frontHead := rfl
@[simp] theorem setContext_frontQueue : (s.setContext id c).frontQueue = s.frontQueue := rfl
@[simp] theorem setContext_donePlaces : (s.setContext id c).donePlaces = s.donePlaces := rfl
@[simp] theorem setContext_replies : (s.setContext id c).replies = s.replies := rfl
@[simp] theorem setContext_noticeSlots : (s.setContext id c).noticeSlots = s.noticeSlots := rfl
@[simp] theorem setContext_frontSending : (s.setContext id c).frontSending = s.frontSending := rfl
@[simp] theorem setContext_frontOutHold : (s.setContext id c).frontOutHold = s.frontOutHold := rfl
@[simp] theorem setContext_backHead : (s.setContext id c).backHead = s.backHead := rfl
@[simp] theorem setContext_backQueue : (s.setContext id c).backQueue = s.backQueue := rfl
@[simp] theorem setContext_endPlaces : (s.setContext id c).endPlaces = s.endPlaces := rfl
@[simp] theorem setContext_backSending : (s.setContext id c).backSending = s.backSending := rfl
@[simp] theorem setContext_backOutHold : (s.setContext id c).backOutHold = s.backOutHold := rfl
@[simp] theorem setContext_contexts : (s.setContext id c).contexts = s.contexts.set id c := rfl
@[simp] theorem setContext_discards : (s.setContext id c).discards = s.discards := rfl
@[simp] theorem setContext_bands : (s.setContext id c).bands = s.bands := rfl
@[simp] theorem setContext_slots : (s.setContext id c).slots = s.slots := rfl
@[simp] theorem setContext_wraps : (s.setContext id c).wraps = s.wraps := rfl
@[simp] theorem setContext_latched : (s.setContext id c).latched = s.latched := rfl
@[simp] theorem setContext_plock : (s.setContext id c).plock = s.plock := rfl
@[simp] theorem setContext_pfail : (s.setContext id c).pfail = s.pfail := rfl
@[simp] theorem setContext_life : (s.setContext id c).life = s.life := rfl
@[simp] theorem setContext_linkTime : (s.setContext id c).linkTime = s.linkTime := rfl
@[simp] theorem setContext_graceSetting : (s.setContext id c).graceSetting = s.graceSetting := rfl
@[simp] theorem setContext_reservations : (s.setContext id c).reservations = s.reservations := rfl
@[simp] theorem setContext_classes : (s.setContext id c).classes = s.classes := rfl
@[simp] theorem setContext_porstLine : (s.setContext id c).porstLine = s.porstLine := rfl
@[simp] theorem setContext_linkrstLine : (s.setContext id c).linkrstLine = s.linkrstLine := rfl
@[simp] theorem setContext_plockLine : (s.setContext id c).plockLine = s.plockLine := rfl
@[simp] theorem setContext_pfailLine : (s.setContext id c).pfailLine = s.pfailLine := rfl
@[simp] theorem setContext_choices : (s.setContext id c).choices = s.choices := rfl
@[simp] theorem setContext_pending : (s.setContext id c).pending = s.pending := rfl

end setContext

section setBand

variable (s : State) (i : BandId) (b : Option Band)

@[simp] theorem setBand_frontHead : (s.setBand i b).frontHead = s.frontHead := rfl
@[simp] theorem setBand_frontQueue : (s.setBand i b).frontQueue = s.frontQueue := rfl
@[simp] theorem setBand_donePlaces : (s.setBand i b).donePlaces = s.donePlaces := rfl
@[simp] theorem setBand_replies : (s.setBand i b).replies = s.replies := rfl
@[simp] theorem setBand_noticeSlots : (s.setBand i b).noticeSlots = s.noticeSlots := rfl
@[simp] theorem setBand_frontSending : (s.setBand i b).frontSending = s.frontSending := rfl
@[simp] theorem setBand_frontOutHold : (s.setBand i b).frontOutHold = s.frontOutHold := rfl
@[simp] theorem setBand_backHead : (s.setBand i b).backHead = s.backHead := rfl
@[simp] theorem setBand_backQueue : (s.setBand i b).backQueue = s.backQueue := rfl
@[simp] theorem setBand_endPlaces : (s.setBand i b).endPlaces = s.endPlaces := rfl
@[simp] theorem setBand_backSending : (s.setBand i b).backSending = s.backSending := rfl
@[simp] theorem setBand_backOutHold : (s.setBand i b).backOutHold = s.backOutHold := rfl
@[simp] theorem setBand_contexts : (s.setBand i b).contexts = s.contexts := rfl
@[simp] theorem setBand_discards : (s.setBand i b).discards = s.discards := rfl
@[simp] theorem setBand_bands : (s.setBand i b).bands = s.bands.set i b := rfl
@[simp] theorem setBand_slots : (s.setBand i b).slots = s.slots := rfl
@[simp] theorem setBand_wraps : (s.setBand i b).wraps = s.wraps := rfl
@[simp] theorem setBand_latched : (s.setBand i b).latched = s.latched := rfl
@[simp] theorem setBand_plock : (s.setBand i b).plock = s.plock := rfl
@[simp] theorem setBand_pfail : (s.setBand i b).pfail = s.pfail := rfl
@[simp] theorem setBand_life : (s.setBand i b).life = s.life := rfl
@[simp] theorem setBand_linkTime : (s.setBand i b).linkTime = s.linkTime := rfl
@[simp] theorem setBand_graceSetting : (s.setBand i b).graceSetting = s.graceSetting := rfl
@[simp] theorem setBand_reservations : (s.setBand i b).reservations = s.reservations := rfl
@[simp] theorem setBand_classes : (s.setBand i b).classes = s.classes := rfl
@[simp] theorem setBand_porstLine : (s.setBand i b).porstLine = s.porstLine := rfl
@[simp] theorem setBand_linkrstLine : (s.setBand i b).linkrstLine = s.linkrstLine := rfl
@[simp] theorem setBand_plockLine : (s.setBand i b).plockLine = s.plockLine := rfl
@[simp] theorem setBand_pfailLine : (s.setBand i b).pfailLine = s.pfailLine := rfl
@[simp] theorem setBand_choices : (s.setBand i b).choices = s.choices := rfl
@[simp] theorem setBand_pending : (s.setBand i b).pending = s.pending := rfl

end setBand

section setSlot

variable (s : State) (k : SlotId) (v : KeySlot)

@[simp] theorem setSlot_frontHead : (s.setSlot k v).frontHead = s.frontHead := rfl
@[simp] theorem setSlot_frontQueue : (s.setSlot k v).frontQueue = s.frontQueue := rfl
@[simp] theorem setSlot_donePlaces : (s.setSlot k v).donePlaces = s.donePlaces := rfl
@[simp] theorem setSlot_replies : (s.setSlot k v).replies = s.replies := rfl
@[simp] theorem setSlot_noticeSlots : (s.setSlot k v).noticeSlots = s.noticeSlots := rfl
@[simp] theorem setSlot_frontSending : (s.setSlot k v).frontSending = s.frontSending := rfl
@[simp] theorem setSlot_frontOutHold : (s.setSlot k v).frontOutHold = s.frontOutHold := rfl
@[simp] theorem setSlot_backHead : (s.setSlot k v).backHead = s.backHead := rfl
@[simp] theorem setSlot_backQueue : (s.setSlot k v).backQueue = s.backQueue := rfl
@[simp] theorem setSlot_endPlaces : (s.setSlot k v).endPlaces = s.endPlaces := rfl
@[simp] theorem setSlot_backSending : (s.setSlot k v).backSending = s.backSending := rfl
@[simp] theorem setSlot_backOutHold : (s.setSlot k v).backOutHold = s.backOutHold := rfl
@[simp] theorem setSlot_contexts : (s.setSlot k v).contexts = s.contexts := rfl
@[simp] theorem setSlot_discards : (s.setSlot k v).discards = s.discards := rfl
@[simp] theorem setSlot_bands : (s.setSlot k v).bands = s.bands := rfl
@[simp] theorem setSlot_slots : (s.setSlot k v).slots = s.slots.set k v := rfl
@[simp] theorem setSlot_wraps : (s.setSlot k v).wraps = s.wraps := rfl
@[simp] theorem setSlot_latched : (s.setSlot k v).latched = s.latched := rfl
@[simp] theorem setSlot_plock : (s.setSlot k v).plock = s.plock := rfl
@[simp] theorem setSlot_pfail : (s.setSlot k v).pfail = s.pfail := rfl
@[simp] theorem setSlot_life : (s.setSlot k v).life = s.life := rfl
@[simp] theorem setSlot_linkTime : (s.setSlot k v).linkTime = s.linkTime := rfl
@[simp] theorem setSlot_graceSetting : (s.setSlot k v).graceSetting = s.graceSetting := rfl
@[simp] theorem setSlot_reservations : (s.setSlot k v).reservations = s.reservations := rfl
@[simp] theorem setSlot_classes : (s.setSlot k v).classes = s.classes := rfl
@[simp] theorem setSlot_porstLine : (s.setSlot k v).porstLine = s.porstLine := rfl
@[simp] theorem setSlot_linkrstLine : (s.setSlot k v).linkrstLine = s.linkrstLine := rfl
@[simp] theorem setSlot_plockLine : (s.setSlot k v).plockLine = s.plockLine := rfl
@[simp] theorem setSlot_pfailLine : (s.setSlot k v).pfailLine = s.pfailLine := rfl
@[simp] theorem setSlot_choices : (s.setSlot k v).choices = s.choices := rfl
@[simp] theorem setSlot_pending : (s.setSlot k v).pending = s.pending := rfl

end setSlot

section setWrap

variable (s : State) (w : WrapId) (v : WrapSlot)

@[simp] theorem setWrap_frontHead : (s.setWrap w v).frontHead = s.frontHead := rfl
@[simp] theorem setWrap_frontQueue : (s.setWrap w v).frontQueue = s.frontQueue := rfl
@[simp] theorem setWrap_donePlaces : (s.setWrap w v).donePlaces = s.donePlaces := rfl
@[simp] theorem setWrap_replies : (s.setWrap w v).replies = s.replies := rfl
@[simp] theorem setWrap_noticeSlots : (s.setWrap w v).noticeSlots = s.noticeSlots := rfl
@[simp] theorem setWrap_frontSending : (s.setWrap w v).frontSending = s.frontSending := rfl
@[simp] theorem setWrap_frontOutHold : (s.setWrap w v).frontOutHold = s.frontOutHold := rfl
@[simp] theorem setWrap_backHead : (s.setWrap w v).backHead = s.backHead := rfl
@[simp] theorem setWrap_backQueue : (s.setWrap w v).backQueue = s.backQueue := rfl
@[simp] theorem setWrap_endPlaces : (s.setWrap w v).endPlaces = s.endPlaces := rfl
@[simp] theorem setWrap_backSending : (s.setWrap w v).backSending = s.backSending := rfl
@[simp] theorem setWrap_backOutHold : (s.setWrap w v).backOutHold = s.backOutHold := rfl
@[simp] theorem setWrap_contexts : (s.setWrap w v).contexts = s.contexts := rfl
@[simp] theorem setWrap_discards : (s.setWrap w v).discards = s.discards := rfl
@[simp] theorem setWrap_bands : (s.setWrap w v).bands = s.bands := rfl
@[simp] theorem setWrap_slots : (s.setWrap w v).slots = s.slots := rfl
@[simp] theorem setWrap_wraps : (s.setWrap w v).wraps = s.wraps.set w v := rfl
@[simp] theorem setWrap_latched : (s.setWrap w v).latched = s.latched := rfl
@[simp] theorem setWrap_plock : (s.setWrap w v).plock = s.plock := rfl
@[simp] theorem setWrap_pfail : (s.setWrap w v).pfail = s.pfail := rfl
@[simp] theorem setWrap_life : (s.setWrap w v).life = s.life := rfl
@[simp] theorem setWrap_linkTime : (s.setWrap w v).linkTime = s.linkTime := rfl
@[simp] theorem setWrap_graceSetting : (s.setWrap w v).graceSetting = s.graceSetting := rfl
@[simp] theorem setWrap_reservations : (s.setWrap w v).reservations = s.reservations := rfl
@[simp] theorem setWrap_classes : (s.setWrap w v).classes = s.classes := rfl
@[simp] theorem setWrap_porstLine : (s.setWrap w v).porstLine = s.porstLine := rfl
@[simp] theorem setWrap_linkrstLine : (s.setWrap w v).linkrstLine = s.linkrstLine := rfl
@[simp] theorem setWrap_plockLine : (s.setWrap w v).plockLine = s.plockLine := rfl
@[simp] theorem setWrap_pfailLine : (s.setWrap w v).pfailLine = s.pfailLine := rfl
@[simp] theorem setWrap_choices : (s.setWrap w v).choices = s.choices := rfl
@[simp] theorem setWrap_pending : (s.setWrap w v).pending = s.pending := rfl

end setWrap

section mapBands

variable (s : State) (f : BandId → Option Band → Option Band)

@[simp] theorem mapBands_frontHead : (s.mapBands f).frontHead = s.frontHead := rfl
@[simp] theorem mapBands_frontQueue : (s.mapBands f).frontQueue = s.frontQueue := rfl
@[simp] theorem mapBands_donePlaces : (s.mapBands f).donePlaces = s.donePlaces := rfl
@[simp] theorem mapBands_replies : (s.mapBands f).replies = s.replies := rfl
@[simp] theorem mapBands_noticeSlots : (s.mapBands f).noticeSlots = s.noticeSlots := rfl
@[simp] theorem mapBands_frontSending : (s.mapBands f).frontSending = s.frontSending := rfl
@[simp] theorem mapBands_frontOutHold : (s.mapBands f).frontOutHold = s.frontOutHold := rfl
@[simp] theorem mapBands_backHead : (s.mapBands f).backHead = s.backHead := rfl
@[simp] theorem mapBands_backQueue : (s.mapBands f).backQueue = s.backQueue := rfl
@[simp] theorem mapBands_endPlaces : (s.mapBands f).endPlaces = s.endPlaces := rfl
@[simp] theorem mapBands_backSending : (s.mapBands f).backSending = s.backSending := rfl
@[simp] theorem mapBands_backOutHold : (s.mapBands f).backOutHold = s.backOutHold := rfl
@[simp] theorem mapBands_contexts : (s.mapBands f).contexts = s.contexts := rfl
@[simp] theorem mapBands_discards : (s.mapBands f).discards = s.discards := rfl
@[simp] theorem mapBands_bands : (s.mapBands f).bands = s.bands.mapFinIdx fun i b h => f ⟨i, h⟩ b := rfl
@[simp] theorem mapBands_slots : (s.mapBands f).slots = s.slots := rfl
@[simp] theorem mapBands_wraps : (s.mapBands f).wraps = s.wraps := rfl
@[simp] theorem mapBands_latched : (s.mapBands f).latched = s.latched := rfl
@[simp] theorem mapBands_plock : (s.mapBands f).plock = s.plock := rfl
@[simp] theorem mapBands_pfail : (s.mapBands f).pfail = s.pfail := rfl
@[simp] theorem mapBands_life : (s.mapBands f).life = s.life := rfl
@[simp] theorem mapBands_linkTime : (s.mapBands f).linkTime = s.linkTime := rfl
@[simp] theorem mapBands_graceSetting : (s.mapBands f).graceSetting = s.graceSetting := rfl
@[simp] theorem mapBands_reservations : (s.mapBands f).reservations = s.reservations := rfl
@[simp] theorem mapBands_classes : (s.mapBands f).classes = s.classes := rfl
@[simp] theorem mapBands_porstLine : (s.mapBands f).porstLine = s.porstLine := rfl
@[simp] theorem mapBands_linkrstLine : (s.mapBands f).linkrstLine = s.linkrstLine := rfl
@[simp] theorem mapBands_plockLine : (s.mapBands f).plockLine = s.plockLine := rfl
@[simp] theorem mapBands_pfailLine : (s.mapBands f).pfailLine = s.pfailLine := rfl
@[simp] theorem mapBands_choices : (s.mapBands f).choices = s.choices := rfl
@[simp] theorem mapBands_pending : (s.mapBands f).pending = s.pending := rfl

end mapBands

section mapSlots

variable (s : State) (f : SlotId → KeySlot → KeySlot)

@[simp] theorem mapSlots_frontHead : (s.mapSlots f).frontHead = s.frontHead := rfl
@[simp] theorem mapSlots_frontQueue : (s.mapSlots f).frontQueue = s.frontQueue := rfl
@[simp] theorem mapSlots_donePlaces : (s.mapSlots f).donePlaces = s.donePlaces := rfl
@[simp] theorem mapSlots_replies : (s.mapSlots f).replies = s.replies := rfl
@[simp] theorem mapSlots_noticeSlots : (s.mapSlots f).noticeSlots = s.noticeSlots := rfl
@[simp] theorem mapSlots_frontSending : (s.mapSlots f).frontSending = s.frontSending := rfl
@[simp] theorem mapSlots_frontOutHold : (s.mapSlots f).frontOutHold = s.frontOutHold := rfl
@[simp] theorem mapSlots_backHead : (s.mapSlots f).backHead = s.backHead := rfl
@[simp] theorem mapSlots_backQueue : (s.mapSlots f).backQueue = s.backQueue := rfl
@[simp] theorem mapSlots_endPlaces : (s.mapSlots f).endPlaces = s.endPlaces := rfl
@[simp] theorem mapSlots_backSending : (s.mapSlots f).backSending = s.backSending := rfl
@[simp] theorem mapSlots_backOutHold : (s.mapSlots f).backOutHold = s.backOutHold := rfl
@[simp] theorem mapSlots_contexts : (s.mapSlots f).contexts = s.contexts := rfl
@[simp] theorem mapSlots_discards : (s.mapSlots f).discards = s.discards := rfl
@[simp] theorem mapSlots_bands : (s.mapSlots f).bands = s.bands := rfl
@[simp] theorem mapSlots_slots : (s.mapSlots f).slots = s.slots.mapFinIdx fun i v h => f ⟨i, h⟩ v := rfl
@[simp] theorem mapSlots_wraps : (s.mapSlots f).wraps = s.wraps := rfl
@[simp] theorem mapSlots_latched : (s.mapSlots f).latched = s.latched := rfl
@[simp] theorem mapSlots_plock : (s.mapSlots f).plock = s.plock := rfl
@[simp] theorem mapSlots_pfail : (s.mapSlots f).pfail = s.pfail := rfl
@[simp] theorem mapSlots_life : (s.mapSlots f).life = s.life := rfl
@[simp] theorem mapSlots_linkTime : (s.mapSlots f).linkTime = s.linkTime := rfl
@[simp] theorem mapSlots_graceSetting : (s.mapSlots f).graceSetting = s.graceSetting := rfl
@[simp] theorem mapSlots_reservations : (s.mapSlots f).reservations = s.reservations := rfl
@[simp] theorem mapSlots_classes : (s.mapSlots f).classes = s.classes := rfl
@[simp] theorem mapSlots_porstLine : (s.mapSlots f).porstLine = s.porstLine := rfl
@[simp] theorem mapSlots_linkrstLine : (s.mapSlots f).linkrstLine = s.linkrstLine := rfl
@[simp] theorem mapSlots_plockLine : (s.mapSlots f).plockLine = s.plockLine := rfl
@[simp] theorem mapSlots_pfailLine : (s.mapSlots f).pfailLine = s.pfailLine := rfl
@[simp] theorem mapSlots_choices : (s.mapSlots f).choices = s.choices := rfl
@[simp] theorem mapSlots_pending : (s.mapSlots f).pending = s.pending := rfl

end mapSlots

section setClass

variable (s : State) (k : NoticeClass) (c : ClassState)

@[simp] theorem setClass_frontHead : (s.setClass k c).frontHead = s.frontHead := rfl
@[simp] theorem setClass_frontQueue : (s.setClass k c).frontQueue = s.frontQueue := rfl
@[simp] theorem setClass_donePlaces : (s.setClass k c).donePlaces = s.donePlaces := rfl
@[simp] theorem setClass_replies : (s.setClass k c).replies = s.replies := rfl
@[simp] theorem setClass_noticeSlots : (s.setClass k c).noticeSlots = s.noticeSlots := rfl
@[simp] theorem setClass_frontSending : (s.setClass k c).frontSending = s.frontSending := rfl
@[simp] theorem setClass_frontOutHold : (s.setClass k c).frontOutHold = s.frontOutHold := rfl
@[simp] theorem setClass_backHead : (s.setClass k c).backHead = s.backHead := rfl
@[simp] theorem setClass_backQueue : (s.setClass k c).backQueue = s.backQueue := rfl
@[simp] theorem setClass_endPlaces : (s.setClass k c).endPlaces = s.endPlaces := rfl
@[simp] theorem setClass_backSending : (s.setClass k c).backSending = s.backSending := rfl
@[simp] theorem setClass_backOutHold : (s.setClass k c).backOutHold = s.backOutHold := rfl
@[simp] theorem setClass_contexts : (s.setClass k c).contexts = s.contexts := rfl
@[simp] theorem setClass_discards : (s.setClass k c).discards = s.discards := rfl
@[simp] theorem setClass_bands : (s.setClass k c).bands = s.bands := rfl
@[simp] theorem setClass_slots : (s.setClass k c).slots = s.slots := rfl
@[simp] theorem setClass_wraps : (s.setClass k c).wraps = s.wraps := rfl
@[simp] theorem setClass_latched : (s.setClass k c).latched = s.latched := rfl
@[simp] theorem setClass_plock : (s.setClass k c).plock = s.plock := rfl
@[simp] theorem setClass_pfail : (s.setClass k c).pfail = s.pfail := rfl
@[simp] theorem setClass_life : (s.setClass k c).life = s.life := rfl
@[simp] theorem setClass_linkTime : (s.setClass k c).linkTime = s.linkTime := rfl
@[simp] theorem setClass_graceSetting : (s.setClass k c).graceSetting = s.graceSetting := rfl
@[simp] theorem setClass_reservations : (s.setClass k c).reservations = s.reservations := rfl
@[simp] theorem setClass_classes : (s.setClass k c).classes = s.classes.set k.idx c := rfl
@[simp] theorem setClass_porstLine : (s.setClass k c).porstLine = s.porstLine := rfl
@[simp] theorem setClass_linkrstLine : (s.setClass k c).linkrstLine = s.linkrstLine := rfl
@[simp] theorem setClass_plockLine : (s.setClass k c).plockLine = s.plockLine := rfl
@[simp] theorem setClass_pfailLine : (s.setClass k c).pfailLine = s.pfailLine := rfl
@[simp] theorem setClass_choices : (s.setClass k c).choices = s.choices := rfl
@[simp] theorem setClass_pending : (s.setClass k c).pending = s.pending := rfl

end setClass

section appendFront

variable (s : State) (e : FrontEntry)

@[simp] theorem appendFront_frontHead : (s.appendFront e).frontHead = s.frontHead := rfl
@[simp] theorem appendFront_frontQueue : (s.appendFront e).frontQueue = s.frontQueue ++ [e] := rfl
@[simp] theorem appendFront_donePlaces : (s.appendFront e).donePlaces = s.donePlaces := rfl
@[simp] theorem appendFront_replies : (s.appendFront e).replies = s.replies := rfl
@[simp] theorem appendFront_noticeSlots : (s.appendFront e).noticeSlots = s.noticeSlots := rfl
@[simp] theorem appendFront_frontSending : (s.appendFront e).frontSending = s.frontSending := rfl
@[simp] theorem appendFront_frontOutHold : (s.appendFront e).frontOutHold = s.frontOutHold := rfl
@[simp] theorem appendFront_backHead : (s.appendFront e).backHead = s.backHead := rfl
@[simp] theorem appendFront_backQueue : (s.appendFront e).backQueue = s.backQueue := rfl
@[simp] theorem appendFront_endPlaces : (s.appendFront e).endPlaces = s.endPlaces := rfl
@[simp] theorem appendFront_backSending : (s.appendFront e).backSending = s.backSending := rfl
@[simp] theorem appendFront_backOutHold : (s.appendFront e).backOutHold = s.backOutHold := rfl
@[simp] theorem appendFront_contexts : (s.appendFront e).contexts = s.contexts := rfl
@[simp] theorem appendFront_discards : (s.appendFront e).discards = s.discards := rfl
@[simp] theorem appendFront_bands : (s.appendFront e).bands = s.bands := rfl
@[simp] theorem appendFront_slots : (s.appendFront e).slots = s.slots := rfl
@[simp] theorem appendFront_wraps : (s.appendFront e).wraps = s.wraps := rfl
@[simp] theorem appendFront_latched : (s.appendFront e).latched = s.latched := rfl
@[simp] theorem appendFront_plock : (s.appendFront e).plock = s.plock := rfl
@[simp] theorem appendFront_pfail : (s.appendFront e).pfail = s.pfail := rfl
@[simp] theorem appendFront_life : (s.appendFront e).life = s.life := rfl
@[simp] theorem appendFront_linkTime : (s.appendFront e).linkTime = s.linkTime := rfl
@[simp] theorem appendFront_graceSetting : (s.appendFront e).graceSetting = s.graceSetting := rfl
@[simp] theorem appendFront_reservations : (s.appendFront e).reservations = s.reservations := rfl
@[simp] theorem appendFront_classes : (s.appendFront e).classes = s.classes := rfl
@[simp] theorem appendFront_porstLine : (s.appendFront e).porstLine = s.porstLine := rfl
@[simp] theorem appendFront_linkrstLine : (s.appendFront e).linkrstLine = s.linkrstLine := rfl
@[simp] theorem appendFront_plockLine : (s.appendFront e).plockLine = s.plockLine := rfl
@[simp] theorem appendFront_pfailLine : (s.appendFront e).pfailLine = s.pfailLine := rfl
@[simp] theorem appendFront_choices : (s.appendFront e).choices = s.choices := rfl
@[simp] theorem appendFront_pending : (s.appendFront e).pending = s.pending := rfl

end appendFront

section appendBack

variable (s : State) (e : BackEntry)

@[simp] theorem appendBack_frontHead : (s.appendBack e).frontHead = s.frontHead := rfl
@[simp] theorem appendBack_frontQueue : (s.appendBack e).frontQueue = s.frontQueue := rfl
@[simp] theorem appendBack_donePlaces : (s.appendBack e).donePlaces = s.donePlaces := rfl
@[simp] theorem appendBack_replies : (s.appendBack e).replies = s.replies := rfl
@[simp] theorem appendBack_noticeSlots : (s.appendBack e).noticeSlots = s.noticeSlots := rfl
@[simp] theorem appendBack_frontSending : (s.appendBack e).frontSending = s.frontSending := rfl
@[simp] theorem appendBack_frontOutHold : (s.appendBack e).frontOutHold = s.frontOutHold := rfl
@[simp] theorem appendBack_backHead : (s.appendBack e).backHead = s.backHead := rfl
@[simp] theorem appendBack_backQueue : (s.appendBack e).backQueue = s.backQueue ++ [e] := rfl
@[simp] theorem appendBack_endPlaces : (s.appendBack e).endPlaces = s.endPlaces := rfl
@[simp] theorem appendBack_backSending : (s.appendBack e).backSending = s.backSending := rfl
@[simp] theorem appendBack_backOutHold : (s.appendBack e).backOutHold = s.backOutHold := rfl
@[simp] theorem appendBack_contexts : (s.appendBack e).contexts = s.contexts := rfl
@[simp] theorem appendBack_discards : (s.appendBack e).discards = s.discards := rfl
@[simp] theorem appendBack_bands : (s.appendBack e).bands = s.bands := rfl
@[simp] theorem appendBack_slots : (s.appendBack e).slots = s.slots := rfl
@[simp] theorem appendBack_wraps : (s.appendBack e).wraps = s.wraps := rfl
@[simp] theorem appendBack_latched : (s.appendBack e).latched = s.latched := rfl
@[simp] theorem appendBack_plock : (s.appendBack e).plock = s.plock := rfl
@[simp] theorem appendBack_pfail : (s.appendBack e).pfail = s.pfail := rfl
@[simp] theorem appendBack_life : (s.appendBack e).life = s.life := rfl
@[simp] theorem appendBack_linkTime : (s.appendBack e).linkTime = s.linkTime := rfl
@[simp] theorem appendBack_graceSetting : (s.appendBack e).graceSetting = s.graceSetting := rfl
@[simp] theorem appendBack_reservations : (s.appendBack e).reservations = s.reservations := rfl
@[simp] theorem appendBack_classes : (s.appendBack e).classes = s.classes := rfl
@[simp] theorem appendBack_porstLine : (s.appendBack e).porstLine = s.porstLine := rfl
@[simp] theorem appendBack_linkrstLine : (s.appendBack e).linkrstLine = s.linkrstLine := rfl
@[simp] theorem appendBack_plockLine : (s.appendBack e).plockLine = s.plockLine := rfl
@[simp] theorem appendBack_pfailLine : (s.appendBack e).pfailLine = s.pfailLine := rfl
@[simp] theorem appendBack_choices : (s.appendBack e).choices = s.choices := rfl
@[simp] theorem appendBack_pending : (s.appendBack e).pending = s.pending := rfl

end appendBack

section appendDone

variable (s : State) (id : CtxId) (status : TransferStatus) (n : Nat) (e : BitVec 32)

@[simp] theorem appendDone_frontHead : (s.appendDone id status n e).frontHead = s.frontHead := rfl
@[simp] theorem appendDone_frontQueue : (s.appendDone id status n e).frontQueue =
    s.frontQueue ++ [.done id status n e] := rfl
@[simp] theorem appendDone_donePlaces : (s.appendDone id status n e).donePlaces = s.donePlaces.set id .filled := rfl
@[simp] theorem appendDone_replies : (s.appendDone id status n e).replies = s.replies := rfl
@[simp] theorem appendDone_noticeSlots : (s.appendDone id status n e).noticeSlots = s.noticeSlots := rfl
@[simp] theorem appendDone_frontSending : (s.appendDone id status n e).frontSending = s.frontSending := rfl
@[simp] theorem appendDone_frontOutHold : (s.appendDone id status n e).frontOutHold = s.frontOutHold := rfl
@[simp] theorem appendDone_backHead : (s.appendDone id status n e).backHead = s.backHead := rfl
@[simp] theorem appendDone_backQueue : (s.appendDone id status n e).backQueue = s.backQueue := rfl
@[simp] theorem appendDone_endPlaces : (s.appendDone id status n e).endPlaces = s.endPlaces := rfl
@[simp] theorem appendDone_backSending : (s.appendDone id status n e).backSending = s.backSending := rfl
@[simp] theorem appendDone_backOutHold : (s.appendDone id status n e).backOutHold = s.backOutHold := rfl
@[simp] theorem appendDone_contexts : (s.appendDone id status n e).contexts = s.contexts := rfl
@[simp] theorem appendDone_discards : (s.appendDone id status n e).discards = s.discards := rfl
@[simp] theorem appendDone_bands : (s.appendDone id status n e).bands = s.bands := rfl
@[simp] theorem appendDone_slots : (s.appendDone id status n e).slots = s.slots := rfl
@[simp] theorem appendDone_wraps : (s.appendDone id status n e).wraps = s.wraps := rfl
@[simp] theorem appendDone_latched : (s.appendDone id status n e).latched = s.latched := rfl
@[simp] theorem appendDone_plock : (s.appendDone id status n e).plock = s.plock := rfl
@[simp] theorem appendDone_pfail : (s.appendDone id status n e).pfail = s.pfail := rfl
@[simp] theorem appendDone_life : (s.appendDone id status n e).life = s.life := rfl
@[simp] theorem appendDone_linkTime : (s.appendDone id status n e).linkTime = s.linkTime := rfl
@[simp] theorem appendDone_graceSetting : (s.appendDone id status n e).graceSetting = s.graceSetting := rfl
@[simp] theorem appendDone_reservations : (s.appendDone id status n e).reservations = s.reservations := rfl
@[simp] theorem appendDone_classes : (s.appendDone id status n e).classes = s.classes := rfl
@[simp] theorem appendDone_porstLine : (s.appendDone id status n e).porstLine = s.porstLine := rfl
@[simp] theorem appendDone_linkrstLine : (s.appendDone id status n e).linkrstLine = s.linkrstLine := rfl
@[simp] theorem appendDone_plockLine : (s.appendDone id status n e).plockLine = s.plockLine := rfl
@[simp] theorem appendDone_pfailLine : (s.appendDone id status n e).pfailLine = s.pfailLine := rfl
@[simp] theorem appendDone_choices : (s.appendDone id status n e).choices = s.choices := rfl
@[simp] theorem appendDone_pending : (s.appendDone id status n e).pending = s.pending := rfl

end appendDone

section appendEnded

variable (s : State) (id : CtxId) (status : TransferStatus) (n : Nat)

@[simp] theorem appendEnded_frontHead : (s.appendEnded id status n).frontHead = s.frontHead := rfl
@[simp] theorem appendEnded_frontQueue : (s.appendEnded id status n).frontQueue = s.frontQueue := rfl
@[simp] theorem appendEnded_donePlaces : (s.appendEnded id status n).donePlaces = s.donePlaces := rfl
@[simp] theorem appendEnded_replies : (s.appendEnded id status n).replies = s.replies := rfl
@[simp] theorem appendEnded_noticeSlots : (s.appendEnded id status n).noticeSlots = s.noticeSlots := rfl
@[simp] theorem appendEnded_frontSending : (s.appendEnded id status n).frontSending = s.frontSending := rfl
@[simp] theorem appendEnded_frontOutHold : (s.appendEnded id status n).frontOutHold = s.frontOutHold := rfl
@[simp] theorem appendEnded_backHead : (s.appendEnded id status n).backHead = s.backHead := rfl
@[simp] theorem appendEnded_backQueue : (s.appendEnded id status n).backQueue = s.backQueue ++ [.ended id status n] :=
    rfl
@[simp] theorem appendEnded_endPlaces : (s.appendEnded id status n).endPlaces = s.endPlaces.set id .filled := rfl
@[simp] theorem appendEnded_backSending : (s.appendEnded id status n).backSending = s.backSending := rfl
@[simp] theorem appendEnded_backOutHold : (s.appendEnded id status n).backOutHold = s.backOutHold := rfl
@[simp] theorem appendEnded_contexts : (s.appendEnded id status n).contexts = s.contexts := rfl
@[simp] theorem appendEnded_discards : (s.appendEnded id status n).discards = s.discards := rfl
@[simp] theorem appendEnded_bands : (s.appendEnded id status n).bands = s.bands := rfl
@[simp] theorem appendEnded_slots : (s.appendEnded id status n).slots = s.slots := rfl
@[simp] theorem appendEnded_wraps : (s.appendEnded id status n).wraps = s.wraps := rfl
@[simp] theorem appendEnded_latched : (s.appendEnded id status n).latched = s.latched := rfl
@[simp] theorem appendEnded_plock : (s.appendEnded id status n).plock = s.plock := rfl
@[simp] theorem appendEnded_pfail : (s.appendEnded id status n).pfail = s.pfail := rfl
@[simp] theorem appendEnded_life : (s.appendEnded id status n).life = s.life := rfl
@[simp] theorem appendEnded_linkTime : (s.appendEnded id status n).linkTime = s.linkTime := rfl
@[simp] theorem appendEnded_graceSetting : (s.appendEnded id status n).graceSetting = s.graceSetting := rfl
@[simp] theorem appendEnded_reservations : (s.appendEnded id status n).reservations = s.reservations := rfl
@[simp] theorem appendEnded_classes : (s.appendEnded id status n).classes = s.classes := rfl
@[simp] theorem appendEnded_porstLine : (s.appendEnded id status n).porstLine = s.porstLine := rfl
@[simp] theorem appendEnded_linkrstLine : (s.appendEnded id status n).linkrstLine = s.linkrstLine := rfl
@[simp] theorem appendEnded_plockLine : (s.appendEnded id status n).plockLine = s.plockLine := rfl
@[simp] theorem appendEnded_pfailLine : (s.appendEnded id status n).pfailLine = s.pfailLine := rfl
@[simp] theorem appendEnded_choices : (s.appendEnded id status n).choices = s.choices := rfl
@[simp] theorem appendEnded_pending : (s.appendEnded id status n).pending = s.pending := rfl

end appendEnded

section reply

variable (s : State) (tag code : Byte) (status : ReplyStatus) (r : Result)

@[simp] theorem reply_frontHead : (s.reply tag code status r).frontHead = s.frontHead := rfl
@[simp] theorem reply_frontQueue : (s.reply tag code status r).frontQueue = s.frontQueue := rfl
@[simp] theorem reply_donePlaces : (s.reply tag code status r).donePlaces = s.donePlaces := rfl
@[simp] theorem reply_replies : (s.reply tag code status r).replies = s.replies ++ [⟨tag, code, status, r⟩] := rfl
@[simp] theorem reply_noticeSlots : (s.reply tag code status r).noticeSlots = s.noticeSlots := rfl
@[simp] theorem reply_frontSending : (s.reply tag code status r).frontSending = s.frontSending := rfl
@[simp] theorem reply_frontOutHold : (s.reply tag code status r).frontOutHold = s.frontOutHold := rfl
@[simp] theorem reply_backHead : (s.reply tag code status r).backHead = s.backHead := rfl
@[simp] theorem reply_backQueue : (s.reply tag code status r).backQueue = s.backQueue := rfl
@[simp] theorem reply_endPlaces : (s.reply tag code status r).endPlaces = s.endPlaces := rfl
@[simp] theorem reply_backSending : (s.reply tag code status r).backSending = s.backSending := rfl
@[simp] theorem reply_backOutHold : (s.reply tag code status r).backOutHold = s.backOutHold := rfl
@[simp] theorem reply_contexts : (s.reply tag code status r).contexts = s.contexts := rfl
@[simp] theorem reply_discards : (s.reply tag code status r).discards = s.discards := rfl
@[simp] theorem reply_bands : (s.reply tag code status r).bands = s.bands := rfl
@[simp] theorem reply_slots : (s.reply tag code status r).slots = s.slots := rfl
@[simp] theorem reply_wraps : (s.reply tag code status r).wraps = s.wraps := rfl
@[simp] theorem reply_latched : (s.reply tag code status r).latched = s.latched := rfl
@[simp] theorem reply_plock : (s.reply tag code status r).plock = s.plock := rfl
@[simp] theorem reply_pfail : (s.reply tag code status r).pfail = s.pfail := rfl
@[simp] theorem reply_life : (s.reply tag code status r).life = s.life := rfl
@[simp] theorem reply_linkTime : (s.reply tag code status r).linkTime = s.linkTime := rfl
@[simp] theorem reply_graceSetting : (s.reply tag code status r).graceSetting = s.graceSetting := rfl
@[simp] theorem reply_reservations : (s.reply tag code status r).reservations = s.reservations := rfl
@[simp] theorem reply_classes : (s.reply tag code status r).classes = s.classes := rfl
@[simp] theorem reply_porstLine : (s.reply tag code status r).porstLine = s.porstLine := rfl
@[simp] theorem reply_linkrstLine : (s.reply tag code status r).linkrstLine = s.linkrstLine := rfl
@[simp] theorem reply_plockLine : (s.reply tag code status r).plockLine = s.plockLine := rfl
@[simp] theorem reply_pfailLine : (s.reply tag code status r).pfailLine = s.pfailLine := rfl
@[simp] theorem reply_choices : (s.reply tag code status r).choices = s.choices := rfl
@[simp] theorem reply_pending : (s.reply tag code status r).pending = s.pending := rfl

end reply

section reserve

variable (s : State)

@[simp] theorem reserve_frontHead : s.reserve.frontHead = s.frontHead := rfl
@[simp] theorem reserve_frontQueue : s.reserve.frontQueue = s.frontQueue := rfl
@[simp] theorem reserve_donePlaces : s.reserve.donePlaces = s.donePlaces := rfl
@[simp] theorem reserve_replies : s.reserve.replies = s.replies := rfl
@[simp] theorem reserve_noticeSlots : s.reserve.noticeSlots = s.noticeSlots := rfl
@[simp] theorem reserve_frontSending : s.reserve.frontSending = s.frontSending := rfl
@[simp] theorem reserve_frontOutHold : s.reserve.frontOutHold = s.frontOutHold := rfl
@[simp] theorem reserve_backHead : s.reserve.backHead = s.backHead := rfl
@[simp] theorem reserve_backQueue : s.reserve.backQueue = s.backQueue := rfl
@[simp] theorem reserve_endPlaces : s.reserve.endPlaces = s.endPlaces := rfl
@[simp] theorem reserve_backSending : s.reserve.backSending = s.backSending := rfl
@[simp] theorem reserve_backOutHold : s.reserve.backOutHold = s.backOutHold := rfl
@[simp] theorem reserve_contexts : s.reserve.contexts = s.contexts := rfl
@[simp] theorem reserve_discards : s.reserve.discards = s.discards := rfl
@[simp] theorem reserve_bands : s.reserve.bands = s.bands := rfl
@[simp] theorem reserve_slots : s.reserve.slots = s.slots := rfl
@[simp] theorem reserve_wraps : s.reserve.wraps = s.wraps := rfl
@[simp] theorem reserve_latched : s.reserve.latched = s.latched := rfl
@[simp] theorem reserve_plock : s.reserve.plock = s.plock := rfl
@[simp] theorem reserve_pfail : s.reserve.pfail = s.pfail := rfl
@[simp] theorem reserve_life : s.reserve.life = s.life := rfl
@[simp] theorem reserve_linkTime : s.reserve.linkTime = s.linkTime := rfl
@[simp] theorem reserve_graceSetting : s.reserve.graceSetting = s.graceSetting := rfl
@[simp] theorem reserve_reservations : s.reserve.reservations = s.reservations + 1 := rfl
@[simp] theorem reserve_classes : s.reserve.classes = s.classes := rfl
@[simp] theorem reserve_porstLine : s.reserve.porstLine = s.porstLine := rfl
@[simp] theorem reserve_linkrstLine : s.reserve.linkrstLine = s.linkrstLine := rfl
@[simp] theorem reserve_plockLine : s.reserve.plockLine = s.plockLine := rfl
@[simp] theorem reserve_pfailLine : s.reserve.pfailLine = s.pfailLine := rfl
@[simp] theorem reserve_choices : s.reserve.choices = s.choices := rfl
@[simp] theorem reserve_pending : s.reserve.pending = s.pending := rfl

end reserve

section erase

variable (s : State) (k : SlotId)

@[simp] theorem erase_frontHead : (s.erase k).frontHead = s.frontHead := rfl
@[simp] theorem erase_frontQueue : (s.erase k).frontQueue = s.frontQueue := rfl
@[simp] theorem erase_donePlaces : (s.erase k).donePlaces = s.donePlaces := rfl
@[simp] theorem erase_replies : (s.erase k).replies = s.replies := rfl
@[simp] theorem erase_noticeSlots : (s.erase k).noticeSlots = s.noticeSlots := rfl
@[simp] theorem erase_frontSending : (s.erase k).frontSending = s.frontSending := rfl
@[simp] theorem erase_frontOutHold : (s.erase k).frontOutHold = s.frontOutHold := rfl
@[simp] theorem erase_backHead : (s.erase k).backHead = s.backHead := rfl
@[simp] theorem erase_backQueue : (s.erase k).backQueue = s.backQueue := rfl
@[simp] theorem erase_endPlaces : (s.erase k).endPlaces = s.endPlaces := rfl
@[simp] theorem erase_backSending : (s.erase k).backSending = s.backSending := rfl
@[simp] theorem erase_backOutHold : (s.erase k).backOutHold = s.backOutHold := rfl
@[simp] theorem erase_contexts : (s.erase k).contexts = s.contexts := rfl
@[simp] theorem erase_discards : (s.erase k).discards = s.discards := rfl
@[simp] theorem erase_bands : (s.erase k).bands = s.bands := rfl
@[simp] theorem erase_slots : (s.erase k).slots = s.slots.set k { s.slots[k] with holders := 0, state := .empty } :=
    rfl
@[simp] theorem erase_wraps : (s.erase k).wraps = s.wraps := rfl
@[simp] theorem erase_latched : (s.erase k).latched = s.latched := rfl
@[simp] theorem erase_plock : (s.erase k).plock = s.plock := rfl
@[simp] theorem erase_pfail : (s.erase k).pfail = s.pfail := rfl
@[simp] theorem erase_life : (s.erase k).life = s.life := rfl
@[simp] theorem erase_linkTime : (s.erase k).linkTime = s.linkTime := rfl
@[simp] theorem erase_graceSetting : (s.erase k).graceSetting = s.graceSetting := rfl
@[simp] theorem erase_reservations : (s.erase k).reservations = s.reservations := rfl
@[simp] theorem erase_classes : (s.erase k).classes = s.classes := rfl
@[simp] theorem erase_porstLine : (s.erase k).porstLine = s.porstLine := rfl
@[simp] theorem erase_linkrstLine : (s.erase k).linkrstLine = s.linkrstLine := rfl
@[simp] theorem erase_plockLine : (s.erase k).plockLine = s.plockLine := rfl
@[simp] theorem erase_pfailLine : (s.erase k).pfailLine = s.pfailLine := rfl
@[simp] theorem erase_choices : (s.erase k).choices = s.choices := rfl
@[simp] theorem erase_pending : (s.erase k).pending = s.pending := rfl

end erase

end Sys2Proof.Machine
end

