-- ==== Sys2Proof/Laws/Ops.lean ====
section
/-! SUPPORT. The shared operations, each said once: reading back what an update wrote, the orders left open, and for every operation of the blocks the items it leaves alone. -/

namespace Sys2Proof.Machine

/-! ### Reading back -/

theorem setContext_get_self (s : State) (id : CtxId) (c : Option Context) :
    (s.setContext id c).contexts[id] = c := by simp

theorem setContext_get_ne (s : State) {id j : CtxId} (c : Option Context) (h : id ≠ j) :
    (s.setContext id c).contexts[j] = s.contexts[j] := by
  simp [Fin.val_ne_of_ne h]

theorem setBand_get_self (s : State) (i : BandId) (b : Option Band) : (s.setBand i b).bands[i] = b := by simp

theorem setBand_get_ne (s : State) {i j : BandId} (b : Option Band) (h : i ≠ j) :
    (s.setBand i b).bands[j] = s.bands[j] := by
  simp [Fin.val_ne_of_ne h]

theorem setSlot_get_self (s : State) (k : SlotId) (v : KeySlot) : (s.setSlot k v).slots[k] = v := by simp

theorem setSlot_get_ne (s : State) {k j : SlotId} (v : KeySlot) (h : k ≠ j) :
    (s.setSlot k v).slots[j] = s.slots[j] := by
  simp [Fin.val_ne_of_ne h]

theorem mapBands_get (s : State) (f : BandId → Option Band → Option Band) (i : BandId) :
    (s.mapBands f).bands[i] = f i s.bands[i] := by simp

theorem mapSlots_get (s : State) (f : SlotId → KeySlot → KeySlot) (k : SlotId) :
    (s.mapSlots f).slots[k] = f k s.slots[k] := by simp

theorem classOf_setClass_self (s : State) (k : NoticeClass) (c : ClassState) :
    (s.setClass k c).classOf k = c := by simp [State.classOf]

theorem classOf_setClass_ne (s : State) {k j : NoticeClass} (c : ClassState) (h : k ≠ j) :
    (s.setClass k c).classOf j = s.classOf j := by
  cases k <;> cases j <;> simp_all [State.classOf, NoticeClass.idx]

/-! ### Orders -/

/-- What every element of a list keeps, applying it for the whole list keeps. -/
theorem inOrder_induct {α : Type} {P : State → Prop} (f : α → State → State) (xs : List α) (s : State)
    (h : ∀ a ∈ xs, ∀ t, P t → P (f a t)) (hs : P s) : P (inOrder f xs s) := by
  unfold inOrder
  induction xs generalizing s with
  | nil => exact hs
  | cons x xs ih =>
    exact ih _ (fun a ha => h a (List.mem_cons_of_mem _ ha)) (h x List.mem_cons_self s hs)

/-- Applying an operation along a list, one element first. -/
theorem inOrder_cons {α : Type} (f : α → State → State) (x : α) (xs : List α) (s : State) :
    inOrder f (x :: xs) s = inOrder f xs (f x s) := rfl

/-- The free order is an order: a permutation of the list. -/
theorem permuted_perm {α : Type} (n : Nat) (xs : List α) : (permuted n xs).Perm xs := by
  induction xs generalizing n with
  | nil => exact List.Perm.refl _
  | cons x xs ih =>
    unfold permuted
    refine (List.perm_insertIdx x _ ?_).trans ((ih (n + 1)).cons x)
    exact Nat.le_of_lt_succ (Nat.mod_lt _ (Nat.succ_pos _))

/-- What the choice counter does not enter and every element keeps, the free order keeps. -/
theorem inAnyOrder_induct {α : Type} {P : State → Prop} (f : α → State → State) (xs : List α) (s : State)
    (hc : ∀ t n, P t → P { t with choices := n }) (h : ∀ a ∈ xs, ∀ t, P t → P (f a t)) (hs : P s) :
    P (inAnyOrder f xs s) := by
  match xs, h with
  | [], _ => exact hs
  | [x], h => exact h x (by simp) s hs
  | x :: y :: zs, h =>
    exact inOrder_induct f _ _ (fun a ha => h a ((permuted_perm _ _).mem_iff.mp ha)) (hc _ _ hs)

/-- The free order runs the operation along some permutation of the list, from the state with the choice counter
moved. -/
theorem inAnyOrder_perm {α : Type} (f : α → State → State) (xs : List α) (s : State) :
    ∃ ys n, ys.Perm xs ∧ inAnyOrder f xs s = inOrder f ys { s with choices := n } := by
  match xs with
  | [] => exact ⟨[], s.choices, .refl _, rfl⟩
  | [x] => exact ⟨[x], s.choices, .refl _, rfl⟩
  | x :: y :: zs => exact ⟨_, _, permuted_perm s.choices _, rfl⟩

/-! ### What the blocks leave alone -/

/-- The state without the items that the work of the blocks reaches: contexts, bands, slots, output queues with their
places, replies, the notice unit and the choice counter. Two states equal here agree on every other item. -/
def State.outside (s : State) : State :=
  { s with
    contexts := State.reset.contexts, bands := State.reset.bands, slots := State.reset.slots
    frontQueue := [], backQueue := [], donePlaces := State.reset.donePlaces
    endPlaces := State.reset.endPlaces, replies := [], classes := State.reset.classes
    noticeSlots := State.reset.noticeSlots, choices := 0 }

theorem setContext_outside (s : State) (id : CtxId) (c : Option Context) :
    (s.setContext id c).outside = s.outside := rfl

theorem setBand_outside (s : State) (i : BandId) (b : Option Band) : (s.setBand i b).outside = s.outside := rfl

theorem setSlot_outside (s : State) (k : SlotId) (v : KeySlot) : (s.setSlot k v).outside = s.outside := rfl

theorem mapBands_outside (s : State) (f : BandId → Option Band → Option Band) :
    (s.mapBands f).outside = s.outside := rfl

theorem mapSlots_outside (s : State) (f : SlotId → KeySlot → KeySlot) :
    (s.mapSlots f).outside = s.outside := rfl

theorem queueNotice_outside (s : State) (k : NoticeClass) (e : NoticeEvent) :
    (s.queueNotice k e).outside = s.outside := rfl

theorem report_outside (s : State) (d : Detail) : (s.report d).outside = s.outside := by
  unfold State.report
  dsimp only
  split <;> rfl

theorem payReply_outside (s : State) (owed : Option Byte) (code : RequestCode) (status : ReplyStatus)
    (result : Result) : (s.payReply owed code status result).outside = s.outside := by
  cases owed <;> rfl

theorem inOrder_outside {α : Type} (f : α → State → State) (xs : List α) (s : State)
    (h : ∀ a ∈ xs, ∀ t, (f a t).outside = t.outside) : (inOrder f xs s).outside = s.outside :=
  inOrder_induct (P := fun t => t.outside = s.outside) f xs s (fun a ha t ht => (h a ha t).trans ht) rfl

theorem inAnyOrder_outside {α : Type} (f : α → State → State) (xs : List α) (s : State)
    (h : ∀ a ∈ xs, ∀ t, (f a t).outside = t.outside) : (inAnyOrder f xs s).outside = s.outside :=
  inAnyOrder_induct (P := fun t => t.outside = s.outside) f xs s (fun _ _ ht => ht)
    (fun a ha t ht => (h a ha t).trans ht) rfl

theorem withdraw_outside (s : State) (id : CtxId) (c : Context) (kind : EndKind) :
    (s.withdraw id c kind).outside = s.outside := rfl

theorem acceptContext_outside (s : State) (id : CtxId) (c : Context) :
    (s.acceptContext id c).outside = s.outside := rfl

theorem endAs_outside (s : State) (kind : EndKind) (id : CtxId) (status : TransferStatus) :
    (s.endAs kind id status).outside = s.outside := by
  unfold State.endAs
  split
  · rfl
  · dsimp only
    split <;> rfl

theorem endContext_outside (s : State) (id : CtxId) (status : TransferStatus) :
    (s.endContext id status).outside = s.outside := endAs_outside s _ id status

theorem cutAll_outside (s : State) (status : TransferStatus) (ids : List CtxId) :
    (s.cutAll status ids).outside = s.outside :=
  inOrder_outside _ _ _ fun a _ t => endContext_outside t a status

theorem moveWatermark_outside (s : State) (i : BandId) (w : Nat) (announce : Bool) :
    (s.moveWatermark i w announce).outside = s.outside := by
  have h : ∀ d, (if announce then s.report d else s).outside = s.outside := by
    intro d
    split
    · exact report_outside s d
    · rfl
  unfold State.moveWatermark
  split
  · rfl
  · split
    · rfl
    · dsimp only
      split
      · exact (report_outside _ _).trans ((setBand_outside _ _ _).trans (h _))
      · exact (setBand_outside _ _ _).trans (h _)

theorem replaceWatermark_outside (s : State) (ns : Ns) : (s.replaceWatermark ns).outside = s.outside := by
  unfold State.replaceWatermark
  split
  · rfl
  · dsimp only
    split
    · rfl
    · exact moveWatermark_outside _ _ _ _

theorem applyBandSet_outside (s : State) (i : BandId) (new : Option BandFields) :
    (s.applyBandSet i new).outside = s.outside := by
  unfold State.applyBandSet
  split
  · rfl
  · dsimp only
    split
    · exact (replaceWatermark_outside _ _).trans (setBand_outside _ _ _)
    · rfl

theorem applyMigrateStart_outside (s : State) (i : BandId) (target : SlotId) (generation : BitVec 16) :
    (s.applyMigrateStart i target generation).outside = s.outside := by
  unfold State.applyMigrateStart
  split
  · rfl
  · exact (moveWatermark_outside _ _ _ _).trans (setBand_outside _ _ _)

theorem applyPending_outside (s : State) (i : BandId) : (s.applyPending i).outside = s.outside := by
  unfold State.applyPending
  split
  · rfl
  · split
    · rfl
    · split
      · split
        · exact (payReply_outside _ _ _ _ _).trans (applyBandSet_outside _ _ _)
        · exact (payReply_outside _ _ _ _ _).trans (applyMigrateStart_outside _ _ _ _)
      · rfl

theorem applyIdleChanges_outside (s : State) : s.applyIdleChanges.outside = s.outside :=
  inOrder_outside _ _ _ fun a _ t => applyPending_outside t a

theorem dropPending_outside (s : State) (i : BandId) : (s.dropPending i).outside = s.outside := by
  unfold State.dropPending
  split
  · rfl
  · split
    · rfl
    · dsimp only
      split <;> exact (payReply_outside _ _ _ _ _).trans (setBand_outside _ _ _)

theorem dropNaming_outside (s : State) (k : SlotId) : (s.dropNaming k).outside = s.outside :=
  inOrder_outside _ _ _ fun a _ t => by
    split
    · rfl
    · split
      · exact dropPending_outside t a
      · rfl

theorem endPurge_outside (s : State) (k : SlotId) : (s.endPurge k).outside = s.outside := by
  unfold State.endPurge
  split
  · exact (report_outside _ _).trans ((payReply_outside _ _ _ _ _).trans (setSlot_outside _ _ _))
  · rfl

theorem drainIdle_outside (s : State) (except : Option SlotId) : (s.drainIdle except).outside = s.outside :=
  inAnyOrder_outside _ _ _ fun a _ t => endPurge_outside t a

theorem aheadOf_outside (s : State) (kept : List BandId) : (s.aheadOf kept).outside = s.outside :=
  (drainIdle_outside _ _).trans (inOrder_outside _ _ _ fun a _ t => by
    split
    · rfl
    · exact applyPending_outside t a)

/-- A source that is latched already has no latching, and purges nothing. -/
theorem latchPurges_of_latched (s : State) (src : TripSource) (k : SlotId) (h : s.latched.has src = true) :
    s.latchPurges src k = false := by
  unfold State.latchPurges State.latch
  rw [if_pos h]
  unfold KeySlot.isReady KeySlot.isPoisoned KeySlot.isEmpty
  cases (s.slots[k]).state <;> rfl

/-- What is true of the bands kept back so far, and stays true when one more is kept back, is true of all of them. -/
theorem keepBack_induct {P : List BandId → Prop} (s : State) (src : TripSource) (fuel : Nat) (kept : List BandId)
    (h : ∀ l i, s.mayKeepBack src l i = true → P l → P (i :: l)) (hk : P kept) : P (s.keepBack src fuel kept) := by
  induction fuel generalizing kept with
  | zero => exact hk
  | succ fuel ih =>
    unfold State.keepBack
    split
    · exact hk
    · rename_i i hi
      exact ih _ (h _ _ (List.find?_some hi) hk)

/-- The number of bands is fuel enough: when it is used up no further change can be kept back. -/
theorem keepBack_done (s : State) (src : TripSource) (fuel : Nat) (kept : List BandId) (hn : kept.Nodup)
    (hl : 32 ≤ kept.length + fuel) (i : BandId) : s.mayKeepBack src (s.keepBack src fuel kept) i = false := by
  induction fuel generalizing kept with
  | zero =>
    have hi : i ∈ kept := by
      have hc : kept.toFinset.card = 32 := by
        refine le_antisymm ((Finset.card_le_univ _).trans (by simp)) ?_
        rw [List.toFinset_card_of_nodup hn]
        exact hl
      have hu : kept.toFinset = Finset.univ := Finset.eq_univ_of_card _ (by rw [hc]; simp)
      exact List.mem_toFinset.mp (hu ▸ Finset.mem_univ i)
    simp [State.keepBack, State.mayKeepBack, hi]
  | succ fuel ih =>
    unfold State.keepBack
    split
    · rename_i h
      exact Bool.eq_false_iff.mpr (List.find?_eq_none.mp h i (List.mem_finRange i))
    · rename_i j hj
      refine ih _ (List.nodup_cons.mpr ⟨?_, hn⟩) (by simp only [List.length_cons]; omega)
      have hjk := List.find?_some hj
      simp only [State.mayKeepBack, Bool.and_eq_true, Bool.not_eq_true', List.contains_eq_mem,
        decide_eq_false_iff_not] at hjk
      exact hjk.1.1.2

/-- Every change kept back is free to apply and is dropped: with all of them kept back, the latching purges a slot that
it names. -/
theorem keptBack_sound (s : State) (src : TripSource) (i : BandId) (hi : i ∈ s.keptBack src) :
    s.changeFree i = true ∧
      (s.aheadOf (s.keptBack src)).changePurged (s.aheadOf (s.keptBack src)) src i = true := by
  have h : (∀ j ∈ s.keptBack src, s.changeFree j = true) ∧
      ∀ j ∈ s.keptBack src, (s.aheadOf (s.keptBack src)).changePurged (s.aheadOf (s.keptBack src)) src j = true := by
    refine keepBack_induct (P := fun l => (∀ j ∈ l, s.changeFree j = true) ∧
      ∀ j ∈ l, (s.aheadOf l).changePurged (s.aheadOf l) src j = true) s src 32 [] (fun l i hk hl => ?_) (by simp)
    simp only [State.mayKeepBack, Bool.and_eq_true, List.all_eq_true] at hk
    refine ⟨fun j hj => ?_, hk.2⟩
    rcases List.mem_cons.mp hj with rfl | hj
    · exact hk.1.1.1
    · exact hl.1 j hj
  exact ⟨h.1 i hi, h.2 i hi⟩

/-- No further change can be kept back. -/
theorem keptBack_maximal (s : State) (src : TripSource) (i : BandId) :
    s.mayKeepBack src (s.keptBack src) i = false :=
  keepBack_done s src 32 [] List.nodup_nil (by simp) i

/-- A latching that does not come about keeps no change back. -/
theorem keptBack_of_latched (s : State) (src : TripSource) (h : s.latched.has src = true) : s.keptBack src = [] := by
  have hl : ∀ t : State, t.outside = s.outside → ∀ i, s.changePurged t src i = false := by
    intro t ht i
    have htl : t.latched.has src = true := by
      rw [show t.latched = s.latched from (congrArg State.latched ht :)]
      exact h
    unfold State.changePurged
    split
    · rfl
    · simp [latchPurges_of_latched t src _ htl]
  refine keepBack_induct (P := fun l => l = []) s src 32 [] (fun l i hk _ => ?_) rfl
  simp [State.mayKeepBack, hl _ (aheadOf_outside s l)] at hk

/-- Where no latching comes about, every staged change applies, and the purges drain, as after any cuts. -/
theorem aheadOf_of_latched (s : State) (src : TripSource) (h : s.latched.has src = true) :
    s.aheadOf (s.keptBack src) = s.settleCuts false none := by
  unfold State.aheadOf State.settleCuts State.applyIdleChanges
  simp [keptBack_of_latched s src h]

theorem settleCuts_outside (s : State) (deferred : Bool) (except : Option SlotId) :
    (s.settleCuts deferred except).outside = s.outside := by
  unfold State.settleCuts
  refine (drainIdle_outside _ _).trans ?_
  split
  · rfl
  · exact applyIdleChanges_outside s

theorem expire_outside (s : State) (deferred : Bool) (k : SlotId) :
    (s.expire deferred k).outside = s.outside := by
  unfold State.expire
  split
  · exact (endPurge_outside _ _).trans ((settleCuts_outside _ _ _).trans (cutAll_outside _ _ _))
  · rfl

theorem reportFailed_outside (s : State) (i : BandId) : (s.reportFailed i).outside = s.outside := by
  unfold State.reportFailed
  split
  · rfl
  · exact report_outside _ _

theorem unbind_outside (s : State) (k : SlotId) : (s.unbind k).outside = s.outside :=
  (mapBands_outside _ _).trans (inOrder_outside _ _ _ fun a _ t => reportFailed_outside t a)

theorem purgeSteps_outside (s : State) (deferred : Bool) (k : SlotId) (m : Material) (account : Account) :
    (s.purgeSteps deferred k m account).outside = s.outside := by
  have h : ∀ (t : State) (ids : List CtxId),
      (inAnyOrder (fun id t => State.endContext t id .keyPurged) ids t).outside = t.outside :=
    fun t ids => inAnyOrder_outside _ _ _ fun a _ t => endContext_outside t a _
  have h4 : ∀ ids, (inAnyOrder (fun id t => State.endContext t id .keyPurged) ids
      (((s.setSlot k { s.slots[k] with state := .purging m account }).dropNaming k).unbind k)).outside = s.outside :=
    fun ids => (h _ _).trans ((unbind_outside _ _).trans ((dropNaming_outside _ _).trans (setSlot_outside _ _ _)))
  have h5 : ∀ (t : State), (if account.grace = 0 then t.cutAll .keyPurged (t.holdersOf k) else t).outside = t.outside :=
    fun t => by
      split
      · exact cutAll_outside _ _ _
      · rfl
  unfold State.purgeSteps
  dsimp only
  split
  · exact (endPurge_outside _ _).trans ((settleCuts_outside _ _ _).trans ((h5 _).trans (h4 _)))
  · exact (settleCuts_outside _ _ _).trans ((h5 _).trans (h4 _))

theorem beginPurge_outside (s : State) (deferred : Bool) (k : SlotId) (cause : PurgeCause)
    (owed : Option Byte) (grace : Nat) : (s.beginPurge deferred k cause owed grace).outside = s.outside := by
  unfold State.beginPurge
  dsimp only
  split
  · exact purgeSteps_outside _ _ _ _ _
  · exact purgeSteps_outside _ _ _ _ _
  · rfl

theorem cutBand_outside (s : State) (kind : EndKind) (i : BandId) : (s.cutBand kind i).outside = s.outside :=
  (settleCuts_outside _ _ _).trans
    ((inOrder_outside _ _ _ fun a _ t => endAs_outside t kind a _).trans (setBand_outside _ _ _))

theorem tripPurge_outside (s : State) (k : SlotId) : (s.tripPurge k).outside = s.outside := by
  unfold State.tripPurge
  split
  · exact beginPurge_outside _ _ _ _ _ _
  · exact beginPurge_outside _ _ _ _ _ _
  · exact (expire_outside _ _ _).trans (setSlot_outside _ _ _)
  · rfl
  · rfl

theorem purgeBand_outside (s : State) (i : BandId) : (s.purgeBand i).outside = s.outside :=
  (inOrder_outside _ _ _ fun a _ t => tripPurge_outside t a).trans (cutBand_outside s _ i)

theorem bandAction_outside (s : State) (src : TripSource) (i : BandId) :
    (s.bandAction src i).outside = s.outside := by
  unfold State.bandAction
  split
  · rfl
  · split
    · split
      · rfl
      · rfl
      · exact cutBand_outside _ _ _
      · exact purgeBand_outside _ _
    · rfl

/-- A latching of a source that is not latched: the latched set takes the source, and beside that only the items of
the blocks' work change. -/
theorem latch_outside (s : State) (src : TripSource) (h : s.latched.has src = false) :
    (s.latch src).outside = { s with latched := s.latched.insert src }.outside := by
  unfold State.latch
  rw [if_neg (by simp [h])]
  exact (report_outside _ _).trans ((applyIdleChanges_outside _).trans
    (inOrder_outside _ _ _ fun a _ t => bandAction_outside t src a))

/-- A latching of a source already latched changes nothing. -/
theorem latch_of_has (s : State) (src : TripSource) (h : s.latched.has src = true) : s.latch src = s := by
  unfold State.latch
  rw [if_pos h]

/-- Beside the latched set, a latching changes only the items of the blocks' work. -/
theorem latch_outside_latched (s : State) (src : TripSource) :
    { s.latch src with latched := s.latched }.outside = s.outside := by
  cases h : s.latched.has src with
  | true => rw [latch_of_has s src h]
  | false =>
    have := latch_outside s src h
    have h2 := congrArg (fun t : State => { t with latched := s.latched }) this
    exact h2

theorem abandonLoad_outside (s : State) (k : SlotId) : (s.abandonLoad k).outside = s.outside := by
  unfold State.abandonLoad
  split
  · exact (payReply_outside _ _ _ _ _).trans (setSlot_outside _ _ _)
  · rfl

/-! ### A report -/

/-- A report leaves every item but the notice unit and the notice slots. -/
theorem report_frame (s : State) (d : Detail) :
    { s.report d with classes := s.classes, noticeSlots := s.noticeSlots } = s := by
  unfold State.report
  dsimp only
  split <;> rfl

/-! ### Heads -/

/-- Without head frames there is nothing to test again. -/
theorem settle_of_noHeads (s : State) (hf : s.frontHead = none) (hb : s.backHead = none) : s.settle = s := by
  simp [State.settle, State.headReady, State.tryHead, State.headOf, hf, hb]

end Sys2Proof.Machine
end

