-- ==== Sys2Proof/Laws/Link.lean ====
section
/-! SUPPORT. The taking of a frame, said once: it leaves the heads, the sendings, the lines and the queue of commands alone; and what testing held heads again can do. -/

namespace Sys2Proof.Machine

/-- The state without the items that the taking of a frame reaches: what is left are the heads, the sendings, the
lines, the line states, and the queue of commands. -/
def State.board (s : State) : State :=
  { s.outside with
    latched := SourceSet.empty, discards := 0, wraps := State.reset.wraps, life := .prepare, linkTime := 0
    graceSetting := 0, reservations := 0 }

theorem board_of_outside {s t : State} (h : t.outside = s.outside) : t.board = s.board :=
  congrArg (fun u : State => { u with
    latched := SourceSet.empty, discards := 0, wraps := State.reset.wraps, life := Life.prepare, linkTime := 0
    graceSetting := 0, reservations := 0 }) h

theorem board_of_outside_latched {s t : State}
    (h : { t with latched := s.latched }.outside = s.outside) : t.board = s.board :=
  board_of_outside (t := { t with latched := s.latched }) h

theorem latch_board (s : State) (src : TripSource) : (s.latch src).board = s.board :=
  board_of_outside_latched (latch_outside_latched s src)

theorem discard_board (s : State) (kind : DiscardKind) (ctx : Option CtxId) :
    (s.discard kind ctx).board = s.board :=
  (board_of_outside (report_outside _ _)).trans rfl

theorem keyFault_board (s : State) (k : SlotId) : (s.keyFault k).board = s.board := by
  unfold State.keyFault
  dsimp only
  refine (board_of_outside (report_outside _ _)).trans ((latch_board _ _).trans (board_of_outside ?_))
  exact (aheadOf_outside _ _).trans
    ((inAnyOrder_outside _ _ _ fun a _ t => endContext_outside t a _).trans (setSlot_outside _ _ _))

theorem complete_board (s : State) (id : CtxId) (c : Context) : (s.complete id c).board = s.board := by
  unfold State.complete
  dsimp only
  refine board_of_outside ((settleCuts_outside _ _ _).trans ?_)
  split
  · refine Eq.trans ?_ (endContext_outside s id .ok)
    unfold State.advance
    split
    · rfl
    · split
      · rfl
      · exact moveWatermark_outside _ _ _ _
  · exact endContext_outside s id .ok

theorem appendReleased_board (s : State) (id : CtxId) (dir : Direction) (bytes : List Byte) :
    (s.appendReleased id dir bytes).board = s.board := by
  unfold State.appendReleased
  split
  · rfl
  · cases dir <;> rfl

theorem processFragment_board (s : State) (id : CtxId) (c : Context) (bytes : List Byte) :
    (s.processFragment id c bytes).board = s.board := by
  have h : ∀ f : Fragment,
      ((s.setContext id (some f.ctx)).appendReleased id c.dir f.released).board = s.board :=
    fun f => (appendReleased_board _ _ _ _).trans rfl
  unfold State.processFragment
  dsimp only
  split
  · exact h _
  · split
    · exact (discard_board _ _ _).trans ((complete_board _ _ _).trans (h _))
    · exact (complete_board _ _ _).trans (h _)
  · exact (keyFault_board _ _).trans (h _)

theorem takeOpen_board (ctx : Byte) (dir : Direction) (flags ns : Byte) (first : BitVec 48)
    (count : BitVec 16) (s : State) : (takeOpen ctx dir flags ns first count s).board = s.board := by
  unfold takeOpen
  split
  · exact discard_board _ _ _
  · dsimp only
    split
    · rfl
    · split <;> rfl

theorem takeData_board (lane : InLane) (ctx : Byte) (bytes : List Byte) (s : State) :
    (takeData lane ctx bytes s).board = s.board := by
  unfold takeData
  split
  · exact discard_board _ _ _
  · split
    · exact discard_board _ _ _
    · split
      · rfl
      · split
        · exact discard_board _ _ _
        · split
          · exact processFragment_board _ _ _ _
          · exact discard_board _ _ _

theorem takeAbort_board (ctx : Byte) (s : State) : (takeAbort ctx s).board = s.board := by
  unfold takeAbort
  split
  · exact discard_board _ _ _
  · split
    · exact discard_board _ _ _
    · exact board_of_outside ((settleCuts_outside _ _ _).trans (endContext_outside _ _ _))

theorem reply_board (s : State) (tag code : Byte) (status : ReplyStatus) (r : Result) :
    (s.reply tag code status r).board = s.board := rfl

theorem reserve_board (s : State) : s.reserve.board = s.board := rfl

theorem takeWrapLoad_board (tag : Byte) (body : Body WrapLoadFields) (s : State) :
    (takeWrapLoad tag body s).board = s.board := by
  unfold takeWrapLoad
  dsimp only
  repeat' split
  all_goals rfl

theorem takeKeyLoad_board (tag : Byte) (body : Body KeyLoadFields) (s : State) :
    (takeKeyLoad tag body s).board = s.board := by
  unfold takeKeyLoad
  dsimp only
  repeat' split
  all_goals rfl

theorem takeQuerySlot_board (tag : Byte) (body : Body Byte) (s : State) :
    (takeQuerySlot tag body s).board = s.board := by
  unfold takeQuerySlot
  dsimp only
  repeat' split
  all_goals rfl

theorem takeKeyPurge_board (tag : Byte) (body : Body Byte) (s : State) :
    (takeKeyPurge tag body s).board = s.board := by
  unfold takeKeyPurge
  dsimp only
  repeat' split
  all_goals first
    | rfl
    | exact (board_of_outside (beginPurge_outside s.reserve _ _ _ _ _)).trans (reserve_board s)
    | exact (reply_board _ _ _ _ _).trans
        ((board_of_outside (abandonLoad_outside s.reserve _)).trans (reserve_board s))

theorem purgeAllSlot_outside (holders : SlotId → Nat) (k : SlotId) (s : State) :
    (State.purgeAllSlot holders k s).outside = s.outside := by
  unfold State.purgeAllSlot
  split
  · exact (report_outside _ _).trans (setSlot_outside _ _ _)
  · exact (report_outside _ _).trans (setSlot_outside _ _ _)
  · exact (report_outside _ _).trans ((payReply_outside _ _ _ _ _).trans (setSlot_outside _ _ _))
  · rfl
  · rfl

theorem emptied_board (s : State) (w : Vector WrapSlot 4) (b : Vector (Option Band) 32) (l : Life) :
    { s with wraps := w, bands := b, life := l }.board = s.board := rfl

theorem purgeAll_board (s : State) : s.purgeAll.board = s.board := by
  have h1 : (inOrder (fun i t => State.dropPending t i) allBands s).outside = s.outside :=
    inOrder_outside _ _ _ fun a _ t => dropPending_outside t a
  have h2 : ∀ t : State, (inOrder (fun k t => State.abandonLoad t k) allSlots t).outside = t.outside :=
    fun t => inOrder_outside _ _ _ fun a _ t => abandonLoad_outside t a
  have h4 : ∀ (g : SlotId → Nat) (t : State), (inOrder (State.purgeAllSlot g) allSlots t).outside = t.outside :=
    fun g t => inOrder_outside _ _ _ fun a _ t => purgeAllSlot_outside g a t
  unfold State.purgeAll
  dsimp only
  refine (emptied_board _ _ _ _).trans (board_of_outside ?_)
  exact (h4 _ _).trans ((cutAll_outside _ _ _).trans ((h2 _).trans h1))

theorem takePurgeAll_board (tag : Byte) (body : Body Unit) (s : State) :
    (takePurgeAll tag body s).board = s.board := by
  unfold takePurgeAll
  split
  · rfl
  · exact (reply_board _ _ _ _ _).trans ((purgeAll_board _).trans rfl)

theorem takeSetGrace_board (tag : Byte) (body : Body (BitVec 32)) (s : State) :
    (takeSetGrace tag body s).board = s.board := by
  unfold takeSetGrace
  split <;> rfl

theorem takeBandSet_board (tag : Byte) (body : Body BandSetFields) (s : State) :
    (takeBandSet tag body s).board = s.board := by
  unfold takeBandSet
  dsimp only
  repeat' split
  all_goals first
    | rfl
    | exact (reply_board _ _ _ _ _).trans
        ((board_of_outside (applyBandSet_outside s.reserve _ _)).trans (reserve_board s))

theorem takeBandLock_board (tag : Byte) (body : Body BandLockFields) (s : State) :
    (takeBandLock tag body s).board = s.board := by
  unfold takeBandLock
  dsimp only
  repeat' split
  all_goals rfl

theorem takeQueryBand_board (tag : Byte) (body : Body Byte) (s : State) :
    (takeQueryBand tag body s).board = s.board := by
  unfold takeQueryBand
  dsimp only
  repeat' split
  all_goals rfl

theorem takeMigrateStart_board (tag : Byte) (body : Body MigrateStartFields) (s : State) :
    (takeMigrateStart tag body s).board = s.board := by
  unfold takeMigrateStart
  dsimp only
  repeat' split
  all_goals first
    | rfl
    | exact (reply_board _ _ _ _ _).trans
        ((board_of_outside (applyMigrateStart_outside s.reserve _ _ _)).trans (reserve_board s))

theorem takeTripForce_board (tag : Byte) (body : Body Unit) (s : State) :
    (takeTripForce tag body s).board = s.board := by
  unfold takeTripForce
  split
  · rfl
  · exact (reply_board _ _ _ _ _).trans ((latch_board s.reserve _).trans rfl)

theorem takeTripClear_board (tag : Byte) (body : Body Byte) (s : State) :
    (takeTripClear tag body s).board = s.board := by
  unfold takeTripClear
  repeat' split
  all_goals rfl

theorem takeNoticePeriod_board (tag : Byte) (body : Body NoticePeriodFields) (s : State) :
    (takeNoticePeriod tag body s).board = s.board := by
  unfold takeNoticePeriod
  dsimp only
  repeat' split
  all_goals rfl

theorem acknowledge_outside (s : State) (k : NoticeClass) : (s.acknowledge k).outside = s.outside := by
  unfold State.acknowledge
  dsimp only
  repeat' split
  all_goals rfl

theorem takeNoticeAck_board (tag : Byte) (body : Body Byte) (s : State) :
    (takeNoticeAck tag body s).board = s.board := by
  unfold takeNoticeAck
  dsimp only
  split
  · rfl
  · split
    · rfl
    · exact (reply_board _ _ _ _ _).trans ((board_of_outside
        (inOrder_outside _ _ _ fun a _ t => acknowledge_outside t a)).trans rfl)

theorem takeQueryContext_board (tag : Byte) (body : Body Byte) (s : State) :
    (takeQueryContext tag body s).board = s.board := by
  unfold takeQueryContext
  dsimp only
  repeat' split
  all_goals rfl

theorem takeGoOnline_board (tag : Byte) (body : Body Unit) (s : State) :
    (takeGoOnline tag body s).board = s.board := by
  unfold takeGoOnline
  dsimp only
  repeat' split
  all_goals rfl

theorem takeTimeSet_board (tag : Byte) (body : Body (BitVec 32)) (s : State) :
    (takeTimeSet tag body s).board = s.board := by
  unfold takeTimeSet
  split <;> rfl

theorem takeQueryStatus_board (tag : Byte) (body : Body Unit) (s : State) :
    (takeQueryStatus tag body s).board = s.board := by
  unfold takeQueryStatus
  split <;> rfl

/-- The taking of any frame leaves the heads, the sendings, the lines and the queue of commands. -/
theorem takeFrame_board (frame : Instr) (s : State) : (takeFrame frame s).board = s.board := by
  cases frame <;> unfold takeFrame <;> first
    | rfl
    | exact takeOpen_board _ _ _ _ _ _ _
    | exact takeData_board _ _ _ _
    | exact takeAbort_board _ _
    | exact discard_board _ _ _
    | exact takeWrapLoad_board _ _ _
    | exact takeKeyLoad_board _ _ _
    | exact takeQuerySlot_board _ _ _
    | exact takeKeyPurge_board _ _ _
    | exact takePurgeAll_board _ _ _
    | exact takeSetGrace_board _ _ _
    | exact takeBandSet_board _ _ _
    | exact takeBandLock_board _ _ _
    | exact takeQueryBand_board _ _ _
    | exact takeMigrateStart_board _ _ _
    | exact takeTripForce_board _ _ _
    | exact takeTripClear_board _ _ _
    | exact takeNoticePeriod_board _ _ _
    | exact takeNoticeAck_board _ _ _
    | exact takeQueryContext_board _ _ _
    | exact takeGoOnline_board _ _ _
    | exact takeTimeSet_board _ _ _
    | exact takeQueryStatus_board _ _ _

/-- What two states that agree on the board agree on. -/
theorem heads_of_board {s t : State} (h : t.board = s.board) :
    t.frontHead = s.frontHead ∧ t.backHead = s.backHead ∧ t.pending = s.pending :=
  ⟨(congrArg State.frontHead h :), (congrArg State.backHead h :), (congrArg State.pending h :)⟩

/-- A frame whose lane is open and whose conditions hold is taken. -/
theorem present_of_takeable (s : State) (frame : Instr) (hl : s.holdLine (frameLane frame) = false)
    (ht : s.takeable frame = true) : s.present frame = takeFrame frame s := by
  simp [State.present, hl, ht]

/-- The same with the other head tested again: where no head stands, the frame is taken and nothing more. -/
theorem presentAndSettle_of_takeable (s : State) (frame : Instr) (hl : s.holdLine (frameLane frame) = false)
    (ht : s.takeable frame = true) (hf : s.frontHead = none) (hb : s.backHead = none) :
    s.presentAndSettle frame = takeFrame frame s := by
  have h := heads_of_board (takeFrame_board frame s)
  simp only [State.presentAndSettle, hl, ht, if_true, Bool.false_eq_true, if_false]
  exact settle_of_noHeads _ (h.1.trans hf) (h.2.1.trans hb)

/-- What the taking of a frame keeps, testing a held head again keeps. -/
theorem tryHead_induct {P : State → Prop} (s : State) (lane : InLane)
    (hh : ∀ (t : State) l f, P t → P (t.setHead l f)) (ht : ∀ f (t : State), t.takeable f = true → P t → P (takeFrame f t))
    (hk : ∀ (t : State) l f, t.takeable f = (t.setHead l none).takeable f) (hs : P s) : P (s.tryHead lane) := by
  unfold State.tryHead
  split
  · exact hs
  · split
    · rename_i f _ h
      exact ht f _ ((hk s lane f).symm.trans h) (hh _ _ _ hs)
    · exact hs

/-- The conditions of a taking do not read the heads. -/
theorem takeable_setHead (s : State) (lane : InLane) (frame : Option Instr) (f : Instr) :
    (s.setHead lane frame).takeable f = s.takeable f := by
  cases lane <;> rfl

/-- What every taking keeps, testing the held heads again keeps. -/
theorem settle_induct {P : State → Prop} (s : State) (hc : ∀ (t : State) n, P t → P { t with choices := n })
    (hh : ∀ (t : State) l f, P t → P (t.setHead l f)) (ht : ∀ f (t : State), t.takeable f = true → P t → P (takeFrame f t))
    (hs : P s) : P s.settle := by
  have h : ∀ t lane, P t → P (t.tryHead lane) := fun t lane =>
    tryHead_induct t lane hh ht fun t l f => (takeable_setHead t l none f).symm
  unfold State.settle
  split
  · exact inAnyOrder_induct _ _ _ hc (fun a _ t hp => h t a hp) hs
  · exact h _ _ (h _ _ (h _ _ hs))

end Sys2Proof.Machine
end

