-- ==== Sys2Proof/Laws/Heads.lean ====
section
/-! SUPPORT. No block reads the head frames: each operation on a state with other heads gives its result with those heads. -/

namespace Sys2Proof.Machine

/-- The state with these frames at the heads. -/
def State.withHeads (s : State) (f b : Option Instr) : State := { s with frontHead := f, backHead := b }

section

variable (s : State) (f b : Option Instr)

@[simp] theorem withHeads_frontHead : (s.withHeads f b).frontHead = f := rfl
@[simp] theorem withHeads_backHead : (s.withHeads f b).backHead = b := rfl
@[simp] theorem withHeads_frontQueue : (s.withHeads f b).frontQueue = s.frontQueue := rfl
@[simp] theorem withHeads_donePlaces : (s.withHeads f b).donePlaces = s.donePlaces := rfl
@[simp] theorem withHeads_replies : (s.withHeads f b).replies = s.replies := rfl
@[simp] theorem withHeads_noticeSlots : (s.withHeads f b).noticeSlots = s.noticeSlots := rfl
@[simp] theorem withHeads_frontSending : (s.withHeads f b).frontSending = s.frontSending := rfl
@[simp] theorem withHeads_frontOutHold : (s.withHeads f b).frontOutHold = s.frontOutHold := rfl
@[simp] theorem withHeads_backQueue : (s.withHeads f b).backQueue = s.backQueue := rfl
@[simp] theorem withHeads_endPlaces : (s.withHeads f b).endPlaces = s.endPlaces := rfl
@[simp] theorem withHeads_backSending : (s.withHeads f b).backSending = s.backSending := rfl
@[simp] theorem withHeads_backOutHold : (s.withHeads f b).backOutHold = s.backOutHold := rfl
@[simp] theorem withHeads_contexts : (s.withHeads f b).contexts = s.contexts := rfl
@[simp] theorem withHeads_discards : (s.withHeads f b).discards = s.discards := rfl
@[simp] theorem withHeads_bands : (s.withHeads f b).bands = s.bands := rfl
@[simp] theorem withHeads_slots : (s.withHeads f b).slots = s.slots := rfl
@[simp] theorem withHeads_wraps : (s.withHeads f b).wraps = s.wraps := rfl
@[simp] theorem withHeads_latched : (s.withHeads f b).latched = s.latched := rfl
@[simp] theorem withHeads_plock : (s.withHeads f b).plock = s.plock := rfl
@[simp] theorem withHeads_pfail : (s.withHeads f b).pfail = s.pfail := rfl
@[simp] theorem withHeads_life : (s.withHeads f b).life = s.life := rfl
@[simp] theorem withHeads_linkTime : (s.withHeads f b).linkTime = s.linkTime := rfl
@[simp] theorem withHeads_graceSetting : (s.withHeads f b).graceSetting = s.graceSetting := rfl
@[simp] theorem withHeads_reservations : (s.withHeads f b).reservations = s.reservations := rfl
@[simp] theorem withHeads_classes : (s.withHeads f b).classes = s.classes := rfl
@[simp] theorem withHeads_porstLine : (s.withHeads f b).porstLine = s.porstLine := rfl
@[simp] theorem withHeads_linkrstLine : (s.withHeads f b).linkrstLine = s.linkrstLine := rfl
@[simp] theorem withHeads_plockLine : (s.withHeads f b).plockLine = s.plockLine := rfl
@[simp] theorem withHeads_pfailLine : (s.withHeads f b).pfailLine = s.pfailLine := rfl
@[simp] theorem withHeads_choices : (s.withHeads f b).choices = s.choices := rfl
@[simp] theorem withHeads_pending : (s.withHeads f b).pending = s.pending := rfl
@[simp] theorem withHeads_self : s.withHeads s.frontHead s.backHead = s := rfl
@[simp] theorem withHeads_withHeads (f' b' : Option Instr) :
    (s.withHeads f b).withHeads f' b' = s.withHeads f' b' := rfl

theorem setContext_withHeads (id : CtxId) (c : Option Context) :
    (s.withHeads f b).setContext id c = (s.setContext id c).withHeads f b := rfl

theorem setBand_withHeads (i : BandId) (v : Option Band) :
    (s.withHeads f b).setBand i v = (s.setBand i v).withHeads f b := rfl

theorem setSlot_withHeads (k : SlotId) (v : KeySlot) :
    (s.withHeads f b).setSlot k v = (s.setSlot k v).withHeads f b := rfl

theorem mapBands_withHeads (g : BandId → Option Band → Option Band) :
    (s.withHeads f b).mapBands g = (s.mapBands g).withHeads f b := rfl

/-! ### Orders -/

theorem inOrder_withHeads {α : Type} (g : α → State → State) (xs : List α) (s : State)
    (h : ∀ a t, g a (State.withHeads t f b) = (g a t).withHeads f b) :
    inOrder g xs (s.withHeads f b) = (inOrder g xs s).withHeads f b := by
  induction xs generalizing s with
  | nil => rfl
  | cons x xs ih =>
    rw [inOrder_cons, inOrder_cons, h, ih]

theorem inAnyOrder_withHeads {α : Type} (g : α → State → State) (xs : List α) (s : State)
    (h : ∀ a t, g a (State.withHeads t f b) = (g a t).withHeads f b) :
    inAnyOrder g xs (s.withHeads f b) = (inAnyOrder g xs s).withHeads f b := by
  match xs with
  | [] => rfl
  | [x] => exact h x s
  | x :: y :: zs => exact inOrder_withHeads f b g _ { s with choices := s.choices + (x :: y :: zs).length } h

/-! ### The blocks -/

theorem report_withHeads (d : Detail) : (s.withHeads f b).report d = (s.report d).withHeads f b := by
  unfold State.report
  dsimp only
  change (if (s.classOf d.noticeClass).period ≠ 0 ∧ (s.classOf d.noticeClass).counted =
    (s.classOf d.noticeClass).period ∧ (s.classOf d.noticeClass).flag = false then _ else _) = _
  split <;> rfl

theorem payReply_withHeads (owed : Option Byte) (code : RequestCode) (status : ReplyStatus) (result : Result) :
    (s.withHeads f b).payReply owed code status result = (s.payReply owed code status result).withHeads f b := by
  cases owed <;> rfl

theorem endAs_withHeads (kind : EndKind) (id : CtxId) (status : TransferStatus) :
    (s.withHeads f b).endAs kind id status = (s.endAs kind id status).withHeads f b := by
  unfold State.endAs
  simp only [withHeads_contexts]
  cases s.contexts[id] with
  | none => rfl
  | some c =>
    dsimp only
    split <;> rfl

theorem endContext_withHeads (id : CtxId) (status : TransferStatus) :
    (s.withHeads f b).endContext id status = (s.endContext id status).withHeads f b :=
  endAs_withHeads _ _ _ _ _ _

theorem cutAll_withHeads (status : TransferStatus) (ids : List CtxId) :
    (s.withHeads f b).cutAll status ids = (s.cutAll status ids).withHeads f b :=
  inOrder_withHeads _ _ _ _ _ fun _ t => endContext_withHeads t _ _ _ _

theorem moveWatermark_withHeads (i : BandId) (w : Nat) (announce : Bool) :
    (s.withHeads f b).moveWatermark i w announce = (s.moveWatermark i w announce).withHeads f b := by
  have h : ∀ d, (if announce then (s.withHeads f b).report d else s.withHeads f b) =
      (if announce then s.report d else s).withHeads f b := by
    intro d
    split
    · exact report_withHeads s f b d
    · rfl
  unfold State.moveWatermark
  simp only [withHeads_bands, h]
  cases s.bands[i] with
  | none => rfl
  | some x =>
    dsimp only
    cases x.migration with
    | none => rfl
    | some r =>
      dsimp only
      split
      · rw [setBand_withHeads, report_withHeads]
      · rfl

theorem placeFor_withHeads (i : BandId) (w : Nat) : (s.withHeads f b).placeFor i w = s.placeFor i w := by
  have h : ∀ ns fuel v, (s.withHeads f b).placed ns fuel v = s.placed ns fuel v := by
    intro ns fuel
    induction fuel with
    | zero => intro v; rfl
    | succ fuel ih =>
      intro v
      have hl : (s.withHeads f b).lockingAt ns v = s.lockingAt ns v := rfl
      unfold State.placed
      rw [hl]
      simp only [ih]
  unfold State.placeFor
  simp only [h]

theorem startWatermark_withHeads (i : BandId) : (s.withHeads f b).startWatermark i = s.startWatermark i := by
  unfold State.startWatermark
  simp only [withHeads_bands, placeFor_withHeads]

theorem replaceWatermark_withHeads (ns : Ns) :
    (s.withHeads f b).replaceWatermark ns = (s.replaceWatermark ns).withHeads f b := by
  unfold State.replaceWatermark
  simp only [withHeads_bands, placeFor_withHeads, moveWatermark_withHeads]
  cases (s.bands[baseBand ns]).bind (·.migration) with
  | none => rfl
  | some r =>
    dsimp only
    split <;> rfl

theorem applyBandSet_withHeads (i : BandId) (new : Option BandFields) :
    (s.withHeads f b).applyBandSet i new = (s.applyBandSet i new).withHeads f b := by
  unfold State.applyBandSet
  cases new with
  | none => rfl
  | some g =>
    dsimp only
    split
    · exact (congrArg (fun t : State => t.replaceWatermark _) (setBand_withHeads s f b _ _)).trans
        (replaceWatermark_withHeads _ f b _)
    · rfl

theorem applyMigrateStart_withHeads (i : BandId) (target : SlotId) (generation : BitVec 16) :
    (s.withHeads f b).applyMigrateStart i target generation =
      (s.applyMigrateStart i target generation).withHeads f b := by
  unfold State.applyMigrateStart
  simp only [withHeads_bands]
  cases s.bands[i] with
  | none => rfl
  | some x =>
    exact (congrArg (fun t : State => t.moveWatermark _ _ _) (setBand_withHeads s f b _ _)).trans
      (moveWatermark_withHeads _ f b _ _ _)

theorem applyPending_withHeads (i : BandId) :
    (s.withHeads f b).applyPending i = (s.applyPending i).withHeads f b := by
  unfold State.applyPending
  simp only [withHeads_bands]
  cases s.bands[i] with
  | none => rfl
  | some x =>
    dsimp only
    cases x.pending with
    | none => rfl
    | some p =>
      dsimp only
      split
      · split
        · exact (congrArg (fun t : State => t.payReply _ _ _ _) (applyBandSet_withHeads s f b _ _)).trans
            (payReply_withHeads _ f b _ _ _ _)
        · exact (congrArg (fun t : State => t.payReply _ _ _ _) (applyMigrateStart_withHeads s f b _ _ _)).trans
            (payReply_withHeads _ f b _ _ _ _)
      · rfl

theorem applyIdleChanges_withHeads : (s.withHeads f b).applyIdleChanges = s.applyIdleChanges.withHeads f b :=
  inOrder_withHeads _ _ _ _ _ fun _ t => applyPending_withHeads t f b _

theorem dropPending_withHeads (i : BandId) :
    (s.withHeads f b).dropPending i = (s.dropPending i).withHeads f b := by
  unfold State.dropPending
  simp only [withHeads_bands]
  cases s.bands[i] with
  | none => rfl
  | some x =>
    dsimp only
    cases x.pending with
    | none => rfl
    | some p =>
      dsimp only
      split <;> rw [setBand_withHeads, payReply_withHeads]

theorem dropNaming_withHeads (k : SlotId) :
    (s.withHeads f b).dropNaming k = (s.dropNaming k).withHeads f b :=
  inOrder_withHeads _ _ _ _ _ fun i t => by
    simp only [withHeads_bands]
    cases t.bands[i] with
    | none => rfl
    | some x =>
      dsimp only
      split
      · exact dropPending_withHeads t f b _
      · rfl

theorem endPurge_withHeads (k : SlotId) : (s.withHeads f b).endPurge k = (s.endPurge k).withHeads f b := by
  unfold State.endPurge
  simp only [withHeads_slots]
  cases (s.slots[k]).state with
  | purging m a =>
    exact (congrArg (fun t : State => t.report _) (payReply_withHeads (s.erase k) f b _ _ _ _)).trans
      (report_withHeads _ f b _)
  | _ => rfl

theorem drainIdle_withHeads (except : Option SlotId) :
    (s.withHeads f b).drainIdle except = (s.drainIdle except).withHeads f b :=
  inAnyOrder_withHeads _ _ _ _ _ fun _ t => endPurge_withHeads t f b _

theorem settleCuts_withHeads (deferred : Bool) (except : Option SlotId) :
    (s.withHeads f b).settleCuts deferred except = (s.settleCuts deferred except).withHeads f b := by
  unfold State.settleCuts
  cases deferred with
  | true => exact drainIdle_withHeads s f b _
  | false =>
    exact (congrArg (fun t : State => t.drainIdle _) (applyIdleChanges_withHeads s f b)).trans
      (drainIdle_withHeads _ f b _)

theorem expire_withHeads (deferred : Bool) (k : SlotId) :
    (s.withHeads f b).expire deferred k = (s.expire deferred k).withHeads f b := by
  have h : ∀ ids, (((s.withHeads f b).cutAll .keyPurged ids).settleCuts deferred (some k)).endPurge k =
      (((s.cutAll .keyPurged ids).settleCuts deferred (some k)).endPurge k).withHeads f b := fun ids => by
    rw [cutAll_withHeads, settleCuts_withHeads, endPurge_withHeads]
  unfold State.expire
  simp only [withHeads_slots]
  cases (s.slots[k]).state with
  | purging m a => exact h _
  | _ => rfl

theorem reportFailed_withHeads (i : BandId) :
    (s.withHeads f b).reportFailed i = (s.reportFailed i).withHeads f b := by
  unfold State.reportFailed
  simp only [withHeads_bands]
  cases (s.bands[i]).bind (·.migration) with
  | none => rfl
  | some r => exact report_withHeads s f b _

theorem unbind_withHeads (k : SlotId) : (s.withHeads f b).unbind k = (s.unbind k).withHeads f b :=
  congrArg (fun t : State => t.mapBands fun _ ob => ob.map fun x : Band => x.unbound k)
    (inOrder_withHeads f b (fun i t => State.reportFailed t i) (s.failing k) s
      fun _ t => reportFailed_withHeads t f b _)

theorem purgeSteps_withHeads (deferred : Bool) (k : SlotId) (m : Material) (account : Account) :
    (s.withHeads f b).purgeSteps deferred k m account = (s.purgeSteps deferred k m account).withHeads f b := by
  have h4 : ∀ ids t, inAnyOrder (fun id t => State.endContext t id .keyPurged) ids (State.withHeads t f b) =
      (inAnyOrder (fun id t => State.endContext t id .keyPurged) ids t).withHeads f b := fun ids t =>
    inAnyOrder_withHeads f b _ ids t fun _ u => endContext_withHeads u f b _ _
  have h5 : ∀ t : State, (if account.grace = 0 then (t.withHeads f b).cutAll .keyPurged (t.holdersOf k)
      else t.withHeads f b) = (if account.grace = 0 then t.cutAll .keyPurged (t.holdersOf k) else t).withHeads f b :=
    fun t => by
      split
      · exact cutAll_withHeads t f b _ _
      · rfl
  have hs : (s.withHeads f b).setSlot k { s.slots[k] with state := .purging m account } =
      (s.setSlot k { s.slots[k] with state := .purging m account }).withHeads f b := rfl
  have hn : ∀ (t : State) l, (t.withHeads f b).namingAny l = t.namingAny l := fun _ _ => rfl
  have hf : ∀ (t : State), (t.withHeads f b).failing k = t.failing k := fun _ => rfl
  have hh : ∀ (t : State), (t.withHeads f b).holdersOf k = t.holdersOf k := fun _ => rfl
  unfold State.purgeSteps
  simp only [withHeads_slots, hs, dropNaming_withHeads, unbind_withHeads, hn, hf, hh, h4, h5, settleCuts_withHeads]
  split
  · exact endPurge_withHeads _ f b _
  · rfl

theorem beginPurge_withHeads (deferred : Bool) (k : SlotId) (cause : PurgeCause) (owed : Option Byte)
    (grace : Nat) : (s.withHeads f b).beginPurge deferred k cause owed grace =
      (s.beginPurge deferred k cause owed grace).withHeads f b := by
  unfold State.beginPurge
  simp only [withHeads_slots]
  cases (s.slots[k]).state with
  | ready m => exact purgeSteps_withHeads s f b _ _ _ _
  | poisoned m => exact purgeSteps_withHeads s f b _ _ _ _
  | _ => rfl

/-! ### Lockdown -/

theorem cutBand_withHeads (kind : EndKind) (i : BandId) :
    (s.withHeads f b).cutBand kind i = (s.cutBand kind i).withHeads f b :=
  (congrArg (fun t : State => t.settleCuts true none)
    (inOrder_withHeads f b (fun id t => State.endAs t kind id .tripped) ((s.lockBand i).naming i) (s.lockBand i)
      fun _ t => endAs_withHeads t f b _ _ _)).trans (settleCuts_withHeads _ f b _ _)

theorem tripPurge_withHeads (k : SlotId) : (s.withHeads f b).tripPurge k = (s.tripPurge k).withHeads f b := by
  unfold State.tripPurge
  simp only [withHeads_slots]
  cases (s.slots[k]).state with
  | ready m => exact beginPurge_withHeads s f b _ _ _ _ _
  | poisoned m => exact beginPurge_withHeads s f b _ _ _ _ _
  | purging m a =>
    exact (congrArg (fun t : State => t.expire _ _) (setSlot_withHeads s f b _ _)).trans (expire_withHeads _ f b _ _)
  | _ => rfl

theorem purgeBand_withHeads (i : BandId) : (s.withHeads f b).purgeBand i = (s.purgeBand i).withHeads f b :=
  (congrArg (fun t : State => inOrder (fun k t => State.tripPurge t k)
      (allSlots.filter fun k => s.inSlotSet i k) t) (cutBand_withHeads s f b .uncounted i)).trans
    (inOrder_withHeads f b _ _ _ fun _ t => tripPurge_withHeads t f b _)

theorem bandAction_withHeads (src : TripSource) (i : BandId) :
    (s.withHeads f b).bandAction src i = (s.bandAction src i).withHeads f b := by
  unfold State.bandAction
  simp only [withHeads_bands]
  cases s.bands[i] with
  | none => rfl
  | some x =>
    dsimp only
    split
    · cases x.fields.action with
      | none => rfl
      | lock => rfl
      | cut => exact cutBand_withHeads s f b _ _
      | purge => exact purgeBand_withHeads s f b _
    · rfl

theorem latch_of_not (src : TripSource) (h : s.latched.has src = false) (u : State)
    (hu : (inOrder (fun i t => State.bandAction t src i) allBands
      { s with latched := s.latched.insert src }).applyIdleChanges = u) :
    s.latch src = u.report (.trip (.source src) u.latched) := by
  subst hu
  unfold State.latch
  rw [if_neg (by simp [h])]

theorem latch_withHeads (src : TripSource) : (s.withHeads f b).latch src = (s.latch src).withHeads f b := by
  cases hs : s.latched.has src with
  | true => rw [latch_of_has s src hs, latch_of_has (s.withHeads f b) src hs]
  | false =>
    obtain ⟨u, hu⟩ : ∃ u, (inOrder (fun i t => State.bandAction t src i) allBands
      { s with latched := s.latched.insert src }).applyIdleChanges = u := ⟨_, rfl⟩
    have hw : (inOrder (fun i t => State.bandAction t src i) allBands
        (State.withHeads { s with latched := s.latched.insert src } f b)).applyIdleChanges = u.withHeads f b := by
      rw [inOrder_withHeads f b _ _ _ fun _ t => bandAction_withHeads t f b _ _, applyIdleChanges_withHeads, hu]
    rw [latch_of_not s src hs u hu, ← report_withHeads]
    exact latch_of_not (s.withHeads f b) src hs (u.withHeads f b) hw

theorem latchPurges_withHeads (src : TripSource) (k : SlotId) :
    (s.withHeads f b).latchPurges src k = s.latchPurges src k := by
  unfold State.latchPurges
  rw [latch_withHeads]
  rfl

theorem aheadOf_withHeads (kept : List BandId) :
    (s.withHeads f b).aheadOf kept = (s.aheadOf kept).withHeads f b :=
  (congrArg (fun t : State => t.drainIdle none)
    (inOrder_withHeads f b (fun i t => if kept.contains i then t else State.applyPending t i) allBands s fun i t => by
      split
      · rfl
      · exact applyPending_withHeads t f b _)).trans (drainIdle_withHeads _ f b _)

theorem mayKeepBack_withHeads (src : TripSource) (kept : List BandId) (i : BandId) :
    (s.withHeads f b).mayKeepBack src kept i = s.mayKeepBack src kept i := by
  have hf : (s.withHeads f b).changeFree i = s.changeFree i := rfl
  have hp : ∀ (r t : State) j, (r.withHeads f b).changePurged (t.withHeads f b) src j = r.changePurged t src j := by
    intro r t j
    unfold State.changePurged
    simp only [withHeads_bands, latchPurges_withHeads]
  unfold State.mayKeepBack
  simp only [hf, aheadOf_withHeads, hp]

theorem keptBack_withHeads (src : TripSource) : (s.withHeads f b).keptBack src = s.keptBack src := by
  have h : ∀ fuel kept, (s.withHeads f b).keepBack src fuel kept = s.keepBack src fuel kept := by
    intro fuel
    induction fuel with
    | zero => intro kept; rfl
    | succ fuel ih =>
      intro kept
      unfold State.keepBack
      simp only [mayKeepBack_withHeads, ih]
  exact h _ _

theorem keyFault_withHeads (k : SlotId) : (s.withHeads f b).keyFault k = (s.keyFault k).withHeads f b := by
  have h : ∀ ids t, inAnyOrder (fun id t => State.endContext t id .keyFault) ids (State.withHeads t f b) =
      (inAnyOrder (fun id t => State.endContext t id .keyFault) ids t).withHeads f b := fun ids t =>
    inAnyOrder_withHeads f b _ ids t fun _ u => endContext_withHeads u f b _ _
  have hs : ∀ v, (s.withHeads f b).setSlot k v = (s.setSlot k v).withHeads f b := fun _ => rfl
  unfold State.keyFault
  simp only [withHeads_slots, hs, h, keptBack_withHeads, aheadOf_withHeads, latch_withHeads, report_withHeads]
  rfl

/-! ### The key store -/

theorem wrapFaultReply_withHeads (owed : Option Byte) (generation : BitVec 16) :
    (s.withHeads f b).wrapFaultReply owed generation = (s.wrapFaultReply owed generation).withHeads f b := by
  unfold State.wrapFaultReply
  simp only [latch_withHeads, withHeads_replies]
  split
  · exact payReply_withHeads _ f b _ _ _ _
  · exact inAnyOrder_withHeads f b _ _ s fun first t => by
      cases first with
      | true => exact payReply_withHeads t f b _ _ _ _
      | false => exact latch_withHeads t f b _

theorem unwrapOutcome_withHeads (k : SlotId) (owed : Option Byte) (result : Option (BitVec 512)) :
    (s.withHeads f b).unwrapOutcome k owed result = (s.unwrapOutcome k owed result).withHeads f b := by
  have h : (s.withHeads f b).endLoad k = (s.endLoad k).withHeads f b := rfl
  unfold State.unwrapOutcome
  simp only [withHeads_slots, h, setSlot_withHeads, payReply_withHeads]
  cases result with
  | none => rfl
  | some m =>
    dsimp only
    split <;> rfl

theorem completeLoad_withHeads (k : SlotId) :
    (s.withHeads f b).completeLoad k = (s.completeLoad k).withHeads f b := by
  have h : ∀ w v, ((s.withHeads f b).endLoad k).setWrap w v = ((s.endLoad k).setWrap w v).withHeads f b :=
    fun _ _ => rfl
  unfold State.completeLoad
  simp only [withHeads_slots, withHeads_wraps, h, wrapFaultReply_withHeads, report_withHeads, unwrapOutcome_withHeads]
  cases (s.slots[k]).state with
  | loading l =>
    dsimp only
    split <;> rfl
  | _ => rfl

theorem abandonLoad_withHeads (k : SlotId) :
    (s.withHeads f b).abandonLoad k = (s.abandonLoad k).withHeads f b := by
  unfold State.abandonLoad
  simp only [withHeads_slots]
  cases (s.slots[k]).state with
  | loading l => exact payReply_withHeads (s.endLoad k) f b _ _ _ _
  | _ => rfl

theorem purgeAllSlot_withHeads (holders : SlotId → Nat) (k : SlotId) :
    State.purgeAllSlot holders k (s.withHeads f b) = (State.purgeAllSlot holders k s).withHeads f b := by
  have h : (s.withHeads f b).erase k = (s.erase k).withHeads f b := rfl
  unfold State.purgeAllSlot
  simp only [withHeads_slots, h, report_withHeads, payReply_withHeads]
  cases (s.slots[k]).state <;> rfl

theorem purgeAll_withHeads : (s.withHeads f b).purgeAll = s.purgeAll.withHeads f b := by
  have h1 : ∀ t : State, inOrder (fun i t => State.dropPending t i) allBands (t.withHeads f b) =
      (inOrder (fun i t => State.dropPending t i) allBands t).withHeads f b := fun t =>
    inOrder_withHeads f b _ _ _ fun _ u => dropPending_withHeads u f b _
  have h2 : ∀ t : State, inOrder (fun k t => State.abandonLoad t k) allSlots (t.withHeads f b) =
      (inOrder (fun k t => State.abandonLoad t k) allSlots t).withHeads f b := fun t =>
    inOrder_withHeads f b _ _ _ fun _ u => abandonLoad_withHeads u f b _
  have h4 : ∀ (g : SlotId → Nat) (t : State), inOrder (State.purgeAllSlot g) allSlots (t.withHeads f b) =
      (inOrder (State.purgeAllSlot g) allSlots t).withHeads f b := fun g t =>
    inOrder_withHeads f b _ _ _ fun _ u => purgeAllSlot_withHeads u f b _ _
  unfold State.purgeAll
  simp only [h1, h2, cutAll_withHeads, withHeads_slots, h4]
  generalize inOrder (State.purgeAllSlot _) allSlots _ = u
  rfl

/-! ### Transfer -/

theorem discard_withHeads (kind : DiscardKind) (ctx : Option CtxId) :
    (s.withHeads f b).discard kind ctx = (s.discard kind ctx).withHeads f b :=
  report_withHeads { s with discards := raised s.discards } f b _

theorem advance_withHeads (c : Context) : (s.withHeads f b).advance c = (s.advance c).withHeads f b := by
  unfold State.advance
  cases c.segments with
  | nil => rfl
  | cons g _ =>
    simp only [withHeads_bands, placeFor_withHeads, moveWatermark_withHeads]
    cases (s.bands[g.band]).bind (·.migration) <;> rfl

theorem complete_withHeads (id : CtxId) (c : Context) :
    (s.withHeads f b).complete id c = (s.complete id c).withHeads f b := by
  unfold State.complete
  simp only [endContext_withHeads]
  split
  · rw [advance_withHeads, settleCuts_withHeads]
  · rw [settleCuts_withHeads]

theorem appendReleased_withHeads (id : CtxId) (dir : Direction) (bytes : List Byte) :
    (s.withHeads f b).appendReleased id dir bytes = (s.appendReleased id dir bytes).withHeads f b := by
  unfold State.appendReleased
  split
  · rfl
  · cases dir <;> rfl

theorem takeBytes_withHeads (bytes : List Byte) (c : Context) :
    (s.withHeads f b).takeBytes bytes c = s.takeBytes bytes c := by
  induction bytes generalizing c with
  | nil => rfl
  | cons x xs ih =>
    have h : (s.withHeads f b).startSector c = s.startSector c := rfl
    unfold State.takeBytes
    rw [h]
    simp only [ih]

theorem processFragment_withHeads (id : CtxId) (c : Context) (bytes : List Byte) :
    (s.withHeads f b).processFragment id c bytes = (s.processFragment id c bytes).withHeads f b := by
  unfold State.processFragment
  simp only [takeBytes_withHeads, setContext_withHeads, appendReleased_withHeads, complete_withHeads, discard_withHeads,
    keyFault_withHeads]
  cases (s.takeBytes bytes c).stop with
  | more => rfl
  | keyFault k => rfl
  | complete overrun =>
    dsimp only
    split <;> rfl

/-! ### The taking of a frame -/

theorem takeData_withHeads (lane : InLane) (ctx : Byte) (bytes : List Byte) :
    takeData lane ctx bytes (s.withHeads f b) = (takeData lane ctx bytes s).withHeads f b := by
  unfold takeData
  simp only [withHeads_contexts, discard_withHeads, processFragment_withHeads]
  cases ctxOf ctx with
  | none => rfl
  | some id =>
    dsimp only
    split
    · rfl
    · split
      · rfl
      · cases s.contexts[id] with
        | none => rfl
        | some c =>
          dsimp only
          split <;> rfl

theorem spans_withHeads (ns : Ns) (first count : Nat) :
    (s.withHeads f b).spans ns first count = s.spans ns first count := by
  have h : ∀ last fuel lba, (s.withHeads f b).spansFrom ns last fuel lba = s.spansFrom ns last fuel lba := by
    intro last fuel
    induction fuel with
    | zero => intro lba; rfl
    | succ fuel ih =>
      intro lba
      have hl : (s.withHeads f b).lockingAt ns lba = s.lockingAt ns lba := rfl
      have he : (s.withHeads f b).baseRunEnd ns lba last = s.baseRunEnd ns lba last := rfl
      unfold State.spansFrom
      rw [hl, he]
      simp only [ih]
  exact h _ _ _

theorem openRefusal_withHeads (id : CtxId) (dir : Direction) (migrate : Bool) (ns : Option Ns) (first count : Nat) :
    (s.withHeads f b).openRefusal id dir migrate ns first count = s.openRefusal id dir migrate ns first count := by
  have hs : ∀ n, (s.withHeads f b).namespaceSize n = s.namespaceSize n := fun _ => rfl
  have hr : ∀ l, (s.withHeads f b).spansRefusal dir l = s.spansRefusal dir l := fun _ => rfl
  have hm : ∀ l, (s.withHeads f b).migrateAllowed dir first l = s.migrateAllowed dir first l := fun _ => rfl
  unfold State.openRefusal
  simp only [withHeads_life, withHeads_contexts, hs, spans_withHeads, hr, hm]

theorem newContext_withHeads (dir : Direction) (migrate : Bool) (ns : Ns) (first count : Nat) :
    (s.withHeads f b).newContext dir migrate ns first count = s.newContext dir migrate ns first count := by
  have hs : (s.withHeads f b).segmentOf = s.segmentOf := rfl
  have hf : (s.withHeads f b).formatOfNs ns = s.formatOfNs ns := rfl
  unfold State.newContext
  simp only [spans_withHeads, hs, hf, withHeads_linkTime]

theorem takeOpen_withHeads (ctx : Byte) (dir : Direction) (flags ns : Byte) (first : BitVec 48)
    (count : BitVec 16) :
    takeOpen ctx dir flags ns first count (s.withHeads f b) = (takeOpen ctx dir flags ns first count s).withHeads f b := by
  unfold takeOpen
  simp only [discard_withHeads, openRefusal_withHeads, newContext_withHeads]
  cases ctxOf ctx with
  | none => rfl
  | some id =>
    dsimp only
    cases s.openRefusal id dir (flags.getLsbD 0) (nsOf ns) first.toNat (count.toNat + 1) with
    | some status => rfl
    | none => cases nsOf ns <;> rfl

theorem takeAbort_withHeads (ctx : Byte) : takeAbort ctx (s.withHeads f b) = (takeAbort ctx s).withHeads f b := by
  unfold takeAbort
  simp only [withHeads_contexts, discard_withHeads, endContext_withHeads, settleCuts_withHeads]
  cases ctxOf ctx with
  | none => rfl
  | some id =>
    dsimp only
    cases s.contexts[id] <;> rfl

theorem reserve_withHeads : (s.withHeads f b).reserve = s.reserve.withHeads f b := rfl

theorem reply_withHeads (tag code : Byte) (status : ReplyStatus) (r : Result) :
    (s.withHeads f b).reply tag code status r = (s.reply tag code status r).withHeads f b := rfl

theorem takeWrapLoad_withHeads (tag : Byte) (body : Body WrapLoadFields) :
    takeWrapLoad tag body (s.withHeads f b) = (takeWrapLoad tag body s).withHeads f b := by
  have h : ∀ w, (s.withHeads f b).wrapLoadRefusal w = s.wrapLoadRefusal w := fun _ => rfl
  unfold takeWrapLoad
  simp only [h]
  cases body with
  | wrongLength => rfl
  | fields g =>
    dsimp only
    cases wrapOf g.wrapSlot with
    | none => rfl
    | some w =>
      dsimp only
      cases s.wrapLoadRefusal w <;> rfl

theorem takeKeyLoad_withHeads (tag : Byte) (body : Body KeyLoadFields) :
    takeKeyLoad tag body (s.withHeads f b) = (takeKeyLoad tag body s).withHeads f b := by
  have h : ∀ k w, (s.withHeads f b).keyLoadRefusal k w = s.keyLoadRefusal k w := fun _ _ => rfl
  unfold takeKeyLoad
  simp only [h, withHeads_wraps]
  cases body with
  | wrongLength => rfl
  | fields g =>
    dsimp only
    cases slotOf g.keySlot with
    | none => rfl
    | some k =>
      cases wrapOf g.wrapSlot with
      | none => rfl
      | some w =>
        dsimp only
        cases s.keyLoadRefusal k w with
        | some status => rfl
        | none =>
          dsimp only
          cases s.wraps[w] <;> rfl

theorem takeQuerySlot_withHeads (tag : Byte) (body : Body Byte) :
    takeQuerySlot tag body (s.withHeads f b) = (takeQuerySlot tag body s).withHeads f b := by
  unfold takeQuerySlot
  cases body with
  | wrongLength => rfl
  | fields g =>
    dsimp only
    cases slotOf g <;> rfl

theorem takeKeyPurge_withHeads (tag : Byte) (body : Body Byte) :
    takeKeyPurge tag body (s.withHeads f b) = (takeKeyPurge tag body s).withHeads f b := by
  have h : ∀ k, (s.withHeads f b).requestCause k = s.requestCause k := fun _ => rfl
  unfold takeKeyPurge
  simp only [h, withHeads_slots, reserve_withHeads, abandonLoad_withHeads, beginPurge_withHeads, reply_withHeads,
    withHeads_graceSetting]
  cases body with
  | wrongLength => rfl
  | fields g =>
    dsimp only
    cases slotOf g with
    | none => rfl
    | some k =>
      dsimp only
      cases (s.slots[k]).state <;> rfl

theorem takePurgeAll_withHeads (tag : Byte) (body : Body Unit) :
    takePurgeAll tag body (s.withHeads f b) = (takePurgeAll tag body s).withHeads f b := by
  cases body with
  | wrongLength => rfl
  | fields g =>
    unfold takePurgeAll
    simp only [reserve_withHeads, purgeAll_withHeads, reply_withHeads]

theorem takeSetGrace_withHeads (tag : Byte) (body : Body (BitVec 32)) :
    takeSetGrace tag body (s.withHeads f b) = (takeSetGrace tag body s).withHeads f b := by
  cases body <;> rfl

theorem takeBandSet_withHeads (tag : Byte) (body : Body BandSetFields) :
    takeBandSet tag body (s.withHeads f b) = (takeBandSet tag body s).withHeads f b := by
  have h : ∀ i new, (s.withHeads f b).bandSetRefusal i new = s.bandSetRefusal i new := fun _ _ => rfl
  have ho : ∀ i, (s.withHeads f b).bandOpen i = s.bandOpen i := fun _ => rfl
  unfold takeBandSet
  simp only [h, ho, reserve_withHeads, applyBandSet_withHeads, reply_withHeads]
  cases body with
  | wrongLength => rfl
  | fields g =>
    dsimp only
    cases bandSetOf g with
    | none => rfl
    | some x =>
      dsimp only
      cases s.bandSetRefusal x.1 x.2 with
      | some status => rfl
      | none =>
        dsimp only
        split <;> rfl

theorem takeBandLock_withHeads (tag : Byte) (body : Body BandLockFields) :
    takeBandLock tag body (s.withHeads f b) = (takeBandLock tag body s).withHeads f b := by
  have h : ∀ m, (s.withHeads f b).gateHolds m = s.gateHolds m := fun _ => rfl
  unfold takeBandLock
  simp only [h, withHeads_bands]
  cases body with
  | wrongLength => rfl
  | fields g =>
    dsimp only
    cases bandOf g.band with
    | none => rfl
    | some i =>
      cases locksOf g.locks with
      | none => rfl
      | some x =>
        dsimp only
        cases s.bands[i] with
        | none => rfl
        | some v =>
          dsimp only
          cases firstFailing [(s.gateHolds v.fields.tripMask && v.fields.clears x.1 x.2, ReplyStatus.tripped)] <;> rfl

theorem takeQueryBand_withHeads (tag : Byte) (body : Body Byte) :
    takeQueryBand tag body (s.withHeads f b) = (takeQueryBand tag body s).withHeads f b := by
  unfold takeQueryBand
  cases body with
  | wrongLength => rfl
  | fields g =>
    dsimp only
    cases bandOf g <;> rfl

theorem takeMigrateStart_withHeads (tag : Byte) (body : Body MigrateStartFields) :
    takeMigrateStart tag body (s.withHeads f b) = (takeMigrateStart tag body s).withHeads f b := by
  have h : ∀ i k g, (s.withHeads f b).migrateStartRefusal i k g = s.migrateStartRefusal i k g := fun _ _ _ => rfl
  have ho : ∀ i, (s.withHeads f b).bandOpen i = s.bandOpen i := fun _ => rfl
  unfold takeMigrateStart
  simp only [h, ho, startWatermark_withHeads, reserve_withHeads, applyMigrateStart_withHeads, reply_withHeads]
  cases body with
  | wrongLength => rfl
  | fields g =>
    dsimp only
    cases bandOf g.band with
    | none => rfl
    | some i =>
      cases slotOf g.target with
      | none => rfl
      | some k =>
        dsimp only
        cases s.migrateStartRefusal i k g.generation with
        | some status => rfl
        | none =>
          dsimp only
          split <;> rfl

theorem takeTripForce_withHeads (tag : Byte) (body : Body Unit) :
    takeTripForce tag body (s.withHeads f b) = (takeTripForce tag body s).withHeads f b := by
  cases body with
  | wrongLength => rfl
  | fields g =>
    unfold takeTripForce
    simp only [reserve_withHeads, latch_withHeads, reply_withHeads, withHeads_latched]

theorem takeTripClear_withHeads (tag : Byte) (body : Body Byte) :
    takeTripClear tag body (s.withHeads f b) = (takeTripClear tag body s).withHeads f b := by
  unfold takeTripClear
  simp only [withHeads_plock, withHeads_latched]
  cases body with
  | wrongLength => rfl
  | fields g =>
    dsimp only
    cases sourceSetOf g with
    | none => rfl
    | some m =>
      dsimp only
      cases firstFailing [(m.plock && s.plock, ReplyStatus.stillAsserted)] <;> rfl

theorem takeNoticePeriod_withHeads (tag : Byte) (body : Body NoticePeriodFields) :
    takeNoticePeriod tag body (s.withHeads f b) = (takeNoticePeriod tag body s).withHeads f b := by
  unfold takeNoticePeriod
  cases body with
  | wrongLength => rfl
  | fields g =>
    dsimp only
    cases classCodeOf g.noticeClass <;> rfl

theorem acknowledge_withHeads (k : NoticeClass) :
    (s.withHeads f b).acknowledge k = (s.acknowledge k).withHeads f b := by
  have h : (s.withHeads f b).classOf k = s.classOf k := rfl
  unfold State.acknowledge
  simp only [h, withHeads_noticeSlots]
  split
  · rfl
  · cases (s.classOf k).latest with
    | none => rfl
    | some e =>
      dsimp only
      split <;> rfl

theorem takeNoticeAck_withHeads (tag : Byte) (body : Body Byte) :
    takeNoticeAck tag body (s.withHeads f b) = (takeNoticeAck tag body s).withHeads f b := by
  have h : ∀ (t : State) xs, inOrder (fun k t => State.acknowledge t k) xs (t.withHeads f b) =
      (inOrder (fun k t => State.acknowledge t k) xs t).withHeads f b := fun t xs =>
    inOrder_withHeads f b _ _ _ fun _ u => acknowledge_withHeads u f b _
  have hm : ∀ t : State, (t.withHeads f b).flaggedMask = t.flaggedMask := fun _ => rfl
  unfold takeNoticeAck
  simp only [reserve_withHeads, h, reply_withHeads, hm]
  cases body with
  | wrongLength => rfl
  | fields g =>
    dsimp only
    cases classMaskOf g <;> rfl

theorem takeQueryContext_withHeads (tag : Byte) (body : Body Byte) :
    takeQueryContext tag body (s.withHeads f b) = (takeQueryContext tag body s).withHeads f b := by
  unfold takeQueryContext
  cases body with
  | wrongLength => rfl
  | fields g =>
    dsimp only
    cases ctxOf g <;> rfl

theorem takeGoOnline_withHeads (tag : Byte) (body : Body Unit) :
    takeGoOnline tag body (s.withHeads f b) = (takeGoOnline tag body s).withHeads f b := by
  have h : (s.withHeads f b).goOnlineRefusal = s.goOnlineRefusal := rfl
  unfold takeGoOnline
  simp only [h]
  cases body with
  | wrongLength => rfl
  | fields g =>
    dsimp only
    cases s.goOnlineRefusal <;> rfl

theorem takeTimeSet_withHeads (tag : Byte) (body : Body (BitVec 32)) :
    takeTimeSet tag body (s.withHeads f b) = (takeTimeSet tag body s).withHeads f b := by
  cases body <;> rfl

theorem takeQueryStatus_withHeads (tag : Byte) (body : Body Unit) :
    takeQueryStatus tag body (s.withHeads f b) = (takeQueryStatus tag body s).withHeads f b := by
  cases body <;> rfl

/-- The taking of any frame does not read the heads. -/
theorem takeFrame_withHeads (frame : Instr) :
    takeFrame frame (s.withHeads f b) = (takeFrame frame s).withHeads f b := by
  cases frame <;> unfold takeFrame <;> first
    | rfl
    | exact takeOpen_withHeads s f b _ _ _ _ _ _
    | exact takeData_withHeads s f b _ _ _
    | exact takeAbort_withHeads s f b _
    | exact discard_withHeads s f b _ _
    | exact takeWrapLoad_withHeads s f b _ _
    | exact takeKeyLoad_withHeads s f b _ _
    | exact takeQuerySlot_withHeads s f b _ _
    | exact takeKeyPurge_withHeads s f b _ _
    | exact takePurgeAll_withHeads s f b _ _
    | exact takeSetGrace_withHeads s f b _ _
    | exact takeBandSet_withHeads s f b _ _
    | exact takeBandLock_withHeads s f b _ _
    | exact takeQueryBand_withHeads s f b _ _
    | exact takeMigrateStart_withHeads s f b _ _
    | exact takeTripForce_withHeads s f b _ _
    | exact takeTripClear_withHeads s f b _ _
    | exact takeNoticePeriod_withHeads s f b _ _
    | exact takeNoticeAck_withHeads s f b _ _
    | exact takeQueryContext_withHeads s f b _ _
    | exact takeGoOnline_withHeads s f b _ _
    | exact takeTimeSet_withHeads s f b _ _
    | exact takeQueryStatus_withHeads s f b _ _

/-- The conditions of a taking do not read the heads. -/
theorem takeable_withHeads (frame : Instr) : (s.withHeads f b).takeable frame = s.takeable frame := by
  cases frame <;> rfl

/-! ### The events that test the heads -/

theorem expireSlot_withHeads (k : SlotId) : (s.withHeads f b).expireSlot k = (s.expireSlot k).withHeads f b := by
  have h : (s.withHeads f b).expiryDue k = s.expiryDue k := rfl
  unfold State.expireSlot
  rw [h, expire_withHeads]
  split <;> rfl

theorem drainSlot_withHeads (k : SlotId) : (s.withHeads f b).drainSlot k = (s.drainSlot k).withHeads f b := by
  unfold State.drainSlot
  simp only [withHeads_slots, endPurge_withHeads]
  split <;> rfl

theorem assertPlock_withHeads : (s.withHeads f b).assertPlock = s.assertPlock.withHeads f b := by
  unfold State.assertPlock
  by_cases h : s.plockLine = true
  · rw [if_pos h, if_pos (show (s.withHeads f b).plockLine = true from h)]
  · rw [if_neg h, if_neg (show ¬(s.withHeads f b).plockLine = true from h)]
    by_cases hp : s.porstLine = true
    · rw [if_pos hp, if_pos (show (s.withHeads f b).porstLine = true from hp)]
      rfl
    · rw [if_neg hp, if_neg (show ¬(s.withHeads f b).porstLine = true from hp)]
      exact latch_withHeads { s with plockLine := true, plock := true } f b .plock

theorem assertPfail_withHeads : (s.withHeads f b).assertPfail = s.assertPfail.withHeads f b := by
  unfold State.assertPfail
  by_cases h : s.pfailLine = true
  · rw [if_pos h, if_pos (show (s.withHeads f b).pfailLine = true from h)]
  · rw [if_neg h, if_neg (show ¬(s.withHeads f b).pfailLine = true from h)]
    by_cases hp : s.porstLine = true
    · rw [if_pos hp, if_pos (show (s.withHeads f b).porstLine = true from hp)]
      rfl
    · rw [if_neg hp, if_neg (show ¬(s.withHeads f b).porstLine = true from hp)]
      exact report_withHeads { s with pfailLine := true, pfail := true } f b (.trip .pfail s.latched)

theorem freeFront_withHeads (source : FrontSource) :
    (s.withHeads f b).freeFront source = (s.freeFront source).withHeads f b := by
  cases source with
  | notice k => rfl
  | reply => rfl
  | data =>
    unfold State.freeFront State.popFront
    simp only [withHeads_frontQueue]
    cases s.frontQueue with
    | nil => rfl
    | cons e rest => cases e <;> rfl

theorem popBack_withHeads : (s.withHeads f b).popBack = s.popBack.withHeads f b := by
  unfold State.popBack
  simp only [withHeads_backQueue]
  cases s.backQueue with
  | nil => rfl
  | cons e rest => cases e <;> rfl

end

end Sys2Proof.Machine
end

