-- ==== Sys2Proof/Laws/Tables.lean ====
section
/-! SUPPORT. The order tables in the words of the statements, and what a blob that unwraps says of every altered one. -/

namespace Sys2Proof.Machine

/-- The first failing check of a table is the first of its conditions that holds. -/
theorem firstToHold_firstFailing {σ : Type} (checks : List (Bool × σ)) :
    FirstToHold (checks.map fun x => (x.1 = true, x.2)) (firstFailing checks) := by
  induction checks with
  | nil => rfl
  | cons x rest ih =>
    obtain ⟨fails, status⟩ := x
    cases fails
    · exact ⟨fun h => absurd h Bool.false_ne_true, fun _ => ih⟩
    · exact ⟨fun _ => rfl, fun h => absurd rfl h⟩

/-- One step of a table whose condition is put in other words. -/
theorem FirstToHold.cons {σ : Type} {p : Prop} {status : σ} {rest : List (Prop × σ)} {fails : Bool}
    {r : Option σ} (h : fails = true ↔ p) (hr : fails = false → FirstToHold rest r) :
    FirstToHold ((p, status) :: rest) (if fails then some status else r) := by
  cases fails
  · exact ⟨fun hp => absurd (h.2 hp) (by decide), fun _ => hr rfl⟩
  · exact ⟨fun _ => rfl, fun hp => absurd (h.1 rfl) hp⟩

/-- Altering one byte of wrapped key material gives one of its altered materials. -/
theorem mem_alteredMaterials (wrapped : BitVec 512) (i : Fin 64) (d : Byte) (h : d ≠ 0) :
    alteredAt wrapped i d ∈ alteredMaterials wrapped := by
  have hd : d.toNat ≠ 0 := fun h' => h (BitVec.eq_of_toNat_eq h')
  have := d.isLt
  simp only [alteredMaterials, List.mem_flatMap, List.mem_map, List.mem_finRange, true_and, List.mem_range]
  refine ⟨i, d.toNat - 1, by omega, ?_⟩
  rw [show d.toNat - 1 + 1 = d.toNat by omega, BitVec.ofNat_toNat, BitVec.setWidth_eq]

/-- Everything a blob that unwraps says: its wrapped key material was made under the wrapping key, with the blob's
integrity value, of the material given, and no wrapped material with one altered byte goes with that value. -/
theorem made_of_unwrap {blob : BitVec 576} {key : BitVec 256} {m : BitVec 512} (h : unwrap blob key = some m) :
    Config.madeOf (wrappedPart blob) = some ⟨key, integrityPart blob, m⟩ ∧
    ∀ b ∈ alteredMaterials (wrappedPart blob), notMadeWith (integrityPart blob) b = true := by
  unfold unwrap at h
  cases hm : Config.madeOf (wrappedPart blob) with
  | none => rw [hm] at h; cases h
  | some made =>
    rw [hm] at h
    dsimp only at h
    split at h
    case isTrue hh =>
      obtain ⟨rfl, hi, ha⟩ := hh
      cases h
      exact ⟨by rw [← hi], List.all_eq_true.1 ha⟩
    case isFalse => cases h

/-- Two blobs of the same wrapped key material that both unwrap have the same integrity value: a change in bytes 64 to
71 alone is an integrity failure (11.4). -/
theorem integrityPart_eq_of_unwrap {blob blob' : BitVec 576} {key key' : BitVec 256} {m m' : BitVec 512}
    (hw : wrappedPart blob = wrappedPart blob') (h : unwrap blob key = some m) (h' : unwrap blob' key' = some m') :
    integrityPart blob = integrityPart blob' := by
  have h1 := (made_of_unwrap h).1
  rw [hw, (made_of_unwrap h').1] at h1
  simp only [Option.some.injEq, MadeBlob.mk.injEq] at h1
  exact h1.2.1.symm

/-- Where a blob unwraps, no blob with its integrity value and one altered byte of wrapped key material does
(R78, 11.4). -/
theorem unwrap_eq_none_of_altered {blob blob' : BitVec 576} {key : BitVec 256} {m : BitVec 512} (key' : BitVec 256)
    (h : unwrap blob key = some m) (hb : wrappedPart blob' ∈ alteredMaterials (wrappedPart blob))
    (hi : integrityPart blob' = integrityPart blob) : unwrap blob' key' = none := by
  cases h' : unwrap blob' key' with
  | none => rfl
  | some m' =>
    have ha := (made_of_unwrap h).2 _ hb
    simp [notMadeWith, (made_of_unwrap h').1, hi] at ha

/-- Altering a byte of a blob below byte 64 alters that byte of its wrapped key material. -/
theorem wrappedPart_altered_low (blob : BitVec 576) (i : Fin 72) (d : Byte) (hi : i.val < 64) :
    wrappedPart (blob ^^^ (d.setWidth 576 <<< (8 * i.val))) = alteredAt (wrappedPart blob) ⟨i.val, hi⟩ d := by
  apply BitVec.eq_of_getLsbD_eq
  intro n hn
  simp only [wrappedPart, alteredAt, BitVec.getLsbD_xor, BitVec.getLsbD_extractLsb', BitVec.getLsbD_shiftLeft,
    BitVec.getLsbD_setWidth]
  by_cases h8 : n < 8 * i.val
  · simp [hn, h8]
  · have : n < 576 := by omega
    have : n - 8 * i.val < 512 := by omega
    have : n - 8 * i.val < 576 := by omega
    simp_all

/-- Altering a byte of a blob from byte 64 on leaves its wrapped key material. -/
theorem wrappedPart_altered_high (blob : BitVec 576) (i : Fin 72) (d : Byte) (hi : 64 ≤ i.val) :
    wrappedPart (blob ^^^ (d.setWidth 576 <<< (8 * i.val))) = wrappedPart blob := by
  apply BitVec.eq_of_getLsbD_eq
  intro n hn
  have : n < 8 * i.val := by omega
  simp [wrappedPart, this]

/-- Altering a byte of a blob below byte 64 leaves its integrity value. -/
theorem integrityPart_altered_low (blob : BitVec 576) (i : Fin 72) (d : Byte) (hi : i.val < 64) :
    integrityPart (blob ^^^ (d.setWidth 576 <<< (8 * i.val))) = integrityPart blob := by
  apply BitVec.eq_of_getLsbD_eq
  intro n hn
  have : 8 ≤ 512 + n - 8 * i.val := by omega
  simp [integrityPart, this]

/-- A blob is its wrapped key material and its integrity value. -/
theorem eq_of_parts {blob blob' : BitVec 576} (hw : wrappedPart blob = wrappedPart blob')
    (hi : integrityPart blob = integrityPart blob') : blob = blob' := by
  apply BitVec.eq_of_getLsbD_eq
  intro n hn
  by_cases h : n < 512
  · have := congrArg (·.getLsbD n) hw
    simpa [wrappedPart, h] using this
  · have := congrArg (·.getLsbD (n - 512)) hi
    have h1 : 512 + (n - 512) = n := by omega
    have h2 : n - 512 < 64 := by omega
    simpa [integrityPart, h1, h2] using this

end Sys2Proof.Machine
end

