-- ==== Sys2Proof/Tests/Slice0.lean ====
section
/-! SUPPORT. Small tests of the model: ill-formed commands, the cipher against its published vector, one step of each family, and for each statement with hypotheses a state and operands that meet them. -/

namespace Sys2Proof.Tests

open Sys2Proof.Machine

set_option Elab.async false

/-! ### Well-formedness -/

theorem test_ill_formed_commands_are_refused :
    (Instr.openFrame 64 .write 0 1 0 0).wellFormed = false ∧
    (Instr.data .front 64 [1]).wellFormed = false ∧
    (Instr.data .front 0 (List.replicate 2049 0)).wellFormed = false ∧
    (Instr.abort 64).wellFormed = false ∧
    (Instr.malformedFrame .front [3, 0, 0, 5]).wellFormed = false ∧
    (Instr.undefinedRequestCode 1 0x12 []).wellFormed = false ∧
    (Instr.undefinedRequestCode 1 0x13 (List.replicate 75 0)).wellFormed = false ∧
    (Instr.querySlot 1 (.wrongLength [7])).wellFormed = false ∧
    (Instr.querySlot 1 (.wrongLength (List.replicate 75 0))).wellFormed = false ∧
    (Instr.purgeAll 1 (.wrongLength [])).wellFormed = false := by decide +kernel

theorem test_well_formed_commands_are_accepted :
    (Instr.openFrame 63 .write 0 1 0 0).wellFormed = true ∧
    (Instr.data .front 63 (List.replicate 2048 0)).wellFormed = true ∧
    (Instr.malformedFrame .front [3, 1, 0, 5, 0]).wellFormed = true ∧
    (Instr.malformedFrame .back [1]).wellFormed = true ∧
    (Instr.undefinedRequestCode 1 0x13 (List.replicate 74 0)).wellFormed = true ∧
    (Instr.querySlot 1 (.wrongLength [])).wellFormed = true := by decide +kernel

/-! ### Frames of chapter 11 -/

theorem test_frames_read_as_their_commands :
    frameCommand .front [0x01, 11, 0, 5, 0x02, 1, 3, 0x34, 0x12, 0, 0, 0, 0, 7, 0] =
      .openFrame 5 .read 1 3 0x1234 7 ∧
    frameCommand .back [0x02, 2, 0, 9, 0xAA, 0xBB] = .data .back 9 [0xAA, 0xBB] ∧
    frameCommand .front [0x03, 0, 0, 63] = .abort 63 ∧
    frameCommand .front [0x03, 0, 0, 64] = .malformedFrame .front [0x03, 0, 0, 64] ∧
    frameCommand .back [0x03, 0, 0, 1] = .malformedFrame .back [0x03, 0, 0, 1] ∧
    frameCommand .front [0x04, 5, 0, 0x77, 0x06, 1, 0, 0, 0] = .setGrace 0x77 (.fields 1) ∧
    frameCommand .front [0x04, 2, 0, 0x77, 0x06, 1] = .setGrace 0x77 (.wrongLength [1]) ∧
    frameCommand .front [0x04, 1, 0, 0x77, 0x13] = .undefinedRequestCode 0x77 0x13 [] := by decide +kernel

theorem test_replies_are_laid_out_as_listed :
    Reply.bytes ⟨0x21, 0x06, .ok, .grace 250000⟩ = [0x13, 6, 0, 0x21, 0x06, 0, 0x90, 0xD0, 0x03, 0] ∧
    FrontEntry.bytes (.done 5 .aborted 2 0x0102) = [0x11, 9, 0, 5, 11, 2, 0, 0, 0, 2, 1, 0, 0] ∧
    BackEntry.bytes (.ended 5 .ok 1) = [0x12, 5, 0, 5, 0, 1, 0, 0, 0] := by decide +kernel

/-! ### The cipher -/

/-- The AES-256 example of FIPS 197, appendix C.3 (log 4). -/
theorem test_block_cipher_vector :
    blockE 0x1f1e1d1c1b1a191817161514131211100f0e0d0c0b0a09080706050403020100#256
        0xffeeddccbbaa99887766554433221100#128 = 0x8960494b9049fceabf456751cab7a28e#128 ∧
    blockD 0x1f1e1d1c1b1a191817161514131211100f0e0d0c0b0a09080706050403020100#256
        0x8960494b9049fceabf456751cab7a28e#128 = 0xffeeddccbbaa99887766554433221100#128 := by decide +kernel

/-- The worked rows of 1.3. -/
theorem test_doubling_rows :
    double 0x80000000000000000000000000000001#128 = 0x85#128 ∧ double 0xFF#128 = 0x1FE#128 ∧
    double 0x40000000000000000000000000000000#128 = 0x80000000000000000000000000000000#128 ∧
    double 0#128 = 0#128 := by decide +kernel

/-- The worked tweaks of 1.3. -/
theorem test_tweak_rows :
    tweak 1 0x1234 none = 0x020000000000001234#128 ∧
    tweak 4 0xA000000001 (some 0xA1B2C3D4) = 0xA1B2C3D400000005000000A000000001#128 ∧
    tweak 7 (2 ^ 48 - 1) (some 0) = 0x080000FFFFFFFFFFFF#128 := by decide +kernel

/-! ### Small states -/

/-- Key material with K1 = 1 and K2 = 2. -/
def material : Material := storeWords 16 (1#512 ||| (2#512 <<< 256))

/-- The same with one stored bit inverted. -/
def damagedMaterial : Material := material.set 0 ((material[0]).invert 0)

/-- A purge account with a grace. -/
def account (grace : Nat) : Account :=
  { grace := grace, cause := .request, drained := 0, cut := 0, owed := some 0x44 }

/-- A load with a wrapping key and a time left. -/
def loadOf (words : WrapWords) (timeLeft : Nat) : Load :=
  { wrapSlot := 0, words := words, blob := 0, owed := some 0x33, timeLeft := timeLeft }

/-- Wrapping-key words that pass, and the same with one stored bit inverted. -/
def words : WrapWords := storeWords 8 (3#256)

def damagedWords : WrapWords := words.set 0 ((words[0]).invert 32)

/-- A band over an extent, bound to a slot of generation 1, that PLOCK cuts. -/
def bandOver (extent : Extent) (slot : SlotId) : Band :=
  { fields :=
      { extent := extent, binding := some ⟨slot, 1⟩, readLock := false, writeLock := false, salt := none,
        tripMask := ⟨true, false, false⟩, action := .cut, pfail := .none }
    openCount := 0, migration := none, writer := none, pending := none }

/-- Namespace 1: 20 LBAs of format F512. -/
def baseEntry : Band := bandOver (.base 20 .f512 .ciphered) 0

/-- A locking band over its LBAs 10 to 19. -/
def lockingEntry : Band := bandOver (.locking 0 10 19) 1

/-- ONLINE, wrap slot 0 loaded, key slots 0 and 1 READY, slot 2 POISONED, band entries 0 and 8
ACTIVE. -/
def work : State :=
  { State.reset with
    life := .online
    wraps := #v[.loaded words, .empty, .faulty words, .empty]
    slots := ((State.reset.slots.set 0 ⟨1, 0, .ready material⟩).set 1 ⟨1, 0, .ready material⟩).set 2
      ⟨1, 0, .poisoned material⟩
    bands := (State.reset.bands.set 0 (some baseEntry)).set 8 (some lockingEntry) }

/-- A write of LBAs 0 and 1 through band 0. -/
def writeRecord : Context :=
  { dir := .write, migrate := false, ns := 0, first := 0, count := 2, format := .f512, metaMode := .ciphered
    segments := [⟨0, 0, 1, 0, none⟩], sectorsDone := 0, offset := 0, residue := [], progress := .boundary
    openTime := 0 }

/-- A read of LBA 12 through band 8. -/
def readRecord : Context :=
  { dir := .read, migrate := false, ns := 0, first := 12, count := 1, format := .f512, metaMode := .ciphered
    segments := [⟨8, 12, 12, 1, none⟩], sectorsDone := 0, offset := 0, residue := [], progress := .boundary
    openTime := 0 }

/-- Contexts 5 and 6 open. -/
def opened : State := (work.acceptContext 5 writeRecord).acceptContext 6 readRecord

/-- Band 0 migrating to slot 1 with its watermark at 4. -/
def migrating : State :=
  { opened with
    bands := opened.bands.set 0 (some { baseEntry with openCount := 1, migration := some ⟨1, 1, 4⟩ }) }

/-- The next state of a command, where it answers one. -/
def after (c : Instr) (s : State) : Option State :=
  match exec c s with
  | .next t => some t
  | _ => none

theorem test_open_is_accepted :
    after (.openFrame 5 .write 0 1 0 1) work = some (work.acceptContext 5 writeRecord) ∧
    after (.openFrame 6 .read 0 1 12 0) (work.acceptContext 5 writeRecord) = some opened := by decide +kernel

theorem test_open_past_the_end_is_refused :
    after (.openFrame 5 .write 0 1 19 1) work =
      some { work with frontQueue := [.refusal 5 .outOfRange] } := by decide +kernel


/-- Key slot 4 LOADING with these wrapping-key words and this time left. -/
def loading (w : WrapWords) (timeLeft : Nat) : State :=
  { work with slots := work.slots.set 4 ⟨1, 0, .loading (loadOf w timeLeft)⟩, reservations := 1 }

/-- Key slot 3 PURGING with this grace and holder count. -/
def purging (grace holders : Nat) : State :=
  { work with slots := work.slots.set 3 ⟨1, holders, .purging material (account grace)⟩, reservations := 1 }

/-- Every reservation, DATA place and the DONE place 5 taken. -/
def crowded : State :=
  { work with
    reservations := 8
    frontQueue := List.replicate 16 (.data 0 [0])
    backQueue := List.replicate 16 (.data 0 [0])
    donePlaces := work.donePlaces.set 5 .filled }

/-- PORST asserted, the PLOCK line at a level. -/
def off (plock : Bool) : State := { State.reset with porstLine := true, plockLine := plock }

/-- One byte before the end of a first sector of two. -/
def lateRecord (dir : Direction) : Context :=
  { writeRecord with
    dir := dir, offset := 511, residue := List.replicate 15 0, progress := .insector 0 1 31 5 }

/-- Context 5 late in its first sector, its slot's material damaged. -/
def faulty (dir : Direction) : State :=
  { opened with
    contexts := opened.contexts.set 5 (some (lateRecord dir))
    slots := opened.slots.set 0 ⟨1, 1, .ready damagedMaterial⟩ }

/-! ### Single steps -/

theorem test_reset_frees_and_releases :
    after .porstAssert opened = some (off false) ∧
    after .porstRelease (off false) = some State.reset := by decide +kernel

theorem test_abort_of_a_write :
    after (.abort 5) opened = some { opened with
      contexts := opened.contexts.set 5 none
      frontQueue := [.done 5 .aborted 0 0]
      backQueue := [.ended 5 .aborted 0]
      donePlaces := opened.donePlaces.set 5 .filled
      endPlaces := opened.endPlaces.set 5 .filled
      bands := opened.bands.set 0 (some baseEntry)
      slots := opened.slots.set 0 ⟨1, 0, .ready material⟩ } := by decide +kernel

/-- A fragment that ends a sector releases the sector's last block; the next sector's start finds the damage. -/
theorem test_damage_is_found_at_the_next_sector :
    ((faulty .write).takeBytes [0] (lateRecord .write)).released.length = 16 ∧
    ((faulty .write).takeBytes [0] (lateRecord .write)).stop = .more ∧
    ((faulty .write).takeBytes [0, 0] (lateRecord .write)).stop = .keyFault 0 := by decide +kernel

/-- A sector of 520 bytes, its tail stolen, comes back. -/
theorem test_stealing_comes_back :
    feed .read .f520 .ciphered 480 [] (.insector 0 1 30 7)
      (feed .write .f520 .ciphered 480 [] (.insector 0 1 30 7) (List.replicate 40 9)) =
      List.replicate 40 9 := by decide +kernel

theorem test_requests_are_answered_at_once :
    after (.setGrace 7 (.fields 20000000)) work = some { work with
      graceSetting := 10000000, reservations := 1, replies := [⟨7, 0x06, .ok, .grace 10000000⟩] } ∧
    after (.timeSet 7 (.fields 5)) work = some { work with
      linkTime := 5, reservations := 1, replies := [⟨7, 0x11, .ok, .time 0⟩] } ∧
    after (.tripClear 7 (.fields 8)) work = some { work with
      reservations := 1, replies := [⟨7, 0x0C, .badRequest, .latched SourceSet.empty⟩] } := by decide +kernel

theorem test_plock_cuts_what_its_mask_names :
    (after .plockAssert opened).map (fun t => (t.latched, t.openContexts, t.frontQueue, t.attn)) =
      some (⟨true, false, false⟩, 0, [.done 5 .tripped 0 0, .done 6 .tripped 0 0], true) := by decide +kernel

theorem test_a_purge_without_holders_ends_at_once :
    (after (.keyPurge 7 (.fields 2)) work).map (fun t => ((t.slots[(2 : SlotId)]).state, t.replies)) =
      some (.empty, [⟨7, 0x04, .ok, .keyPurge 2 0 0⟩]) := by decide +kernel

/-! ### States and operands that meet the hypotheses of the statements -/

theorem work_takes_requests : work.TakesRequests := ⟨by decide +kernel, by decide +kernel⟩

theorem opened_takes_requests : opened.TakesRequests := ⟨by decide +kernel, by decide +kernel⟩

theorem reset_takes_requests : State.reset.TakesRequests := ⟨by decide +kernel, by decide +kernel⟩

theorem test_witness_StepRunsTheFrontCommand : State.reset.pending = [] := rfl

theorem test_witness_PorstFreesEveryContext : opened.porstLine = false := rfl

theorem test_witness_PorstReleaseFollowsTheLines :
    (off false).porstLine = true ∧ (off false).powerOn = off false ∧ (off false).plockLine = false ∧
    (off true).porstLine = true ∧ (off true).powerOn = off true ∧ (off true).plockLine = true :=
  ⟨rfl, rfl, rfl, rfl, rfl, rfl⟩

theorem test_witness_SectorsAreCipheredBlockByBlock :
    (List.replicate 512 (0 : Byte)).length = Format.f512.sectorBytes ∧
    (List.replicate 520 (0 : Byte)).length = Format.f520.sectorBytes ∧
    (tailBytes .f512 .ciphered = 0 ∧ 31 < fullBlocks .f512 .ciphered) ∧
    (tailBytes .f520 .ciphered = 8 ∧ 30 + 1 < fullBlocks .f520 .ciphered) ∧
    ∃ mask : Nat → Block, mask 0 = firstMask 1 0 ∧ ∀ j, mask (j + 1) = double (mask j) :=
  ⟨by decide +kernel, by decide +kernel, by decide +kernel, by decide +kernel,
    fun j => Nat.rec (firstMask 1 0) (fun _ m => double m) j, rfl, fun _ => rfl⟩

theorem test_witness_ReadInvertsWrite : (List.replicate 4160 (0 : Byte)).length = Format.f4160.sectorBytes := by
  decide +kernel

theorem test_witness_SectorsAreTransformedWhole :
    writeRecord.progress = .boundary ∧ writeRecord.offset = 0 ∧ writeRecord.residue = [] ∧
    writeRecord.sectorsDone + 1 ≤ writeRecord.count ∧ writeRecord.sectorsDone + 1 ≠ writeRecord.count ∧
    ({ writeRecord with sectorsDone := 1 } : Context).sectorsDone + 1 = writeRecord.count ∧
    (List.replicate 512 (0 : Byte)).length = writeRecord.format.sectorBytes ∧
    opened.fetch (opened.slotFor writeRecord 0) = some material ∧
    opened.fetch (opened.slotFor { writeRecord with sectorsDone := 1 } 1) = some material := by decide +kernel

theorem writeRecord_ok : writeRecord.ok := ⟨by decide, by decide, rfl, rfl⟩

theorem readRecord_ok : readRecord.ok := ⟨by decide, by decide, rfl, rfl⟩

theorem test_witness_FragmentsMayBeSplit :
    writeRecord.ok ∧ (opened.takeBytes [] writeRecord).stop = .more ∧
    (opened.takeBytes [1, 2, 3] writeRecord).stop = .more :=
  ⟨writeRecord_ok, by decide +kernel, by decide +kernel⟩

theorem test_witness_FramesAreHeldByTheirLane :
    isFrame (.querySlot 1 (.fields 0)) = true ∧ isFrame (.data .back 6 [1]) = true ∧
    { work with frontHead := some (.querySlot 1 (.fields 0)) }.holdLine .front = true ∧
    crowded.holdLine .front = false ∧ crowded.takeable (.querySlot 1 (.fields 0)) = false ∧
    crowded.holdLine .back = false ∧ crowded.takeable (.data .back 6 [1]) = false := by decide +kernel

theorem test_witness_FramesFollowTheirLayouts :
    ([0x02, 0, 0] : List Byte).length < 4 ∧ (63#8).toNat < 64 ∧ (List.replicate 2048 (0 : Byte)).length ≤ 2048 ∧
    (List.replicate 74 (0 : Byte)).length ≤ 74 ∧ (0x13#8 = 0 ∨ 0x12 < (0x13#8).toNat) ∧
    (∃ request : List Byte → Instr,
      ∀ body, request body = frameCommand .front ([0x04] ++ leBytes 2 body.length ++ [7] ++ body)) ∧
    (∃ notice : Detail → List Byte, ∀ d, notice d = (Notice.mk ⟨3, d⟩ 1).bytes) ∧
    ∃ head : Byte → List Byte, ∀ code, head code = [0x14, 15, 0, code] ++ leWord 4 (3#32) ++ [BitVec.ofNat 8 1] :=
  ⟨by decide, by decide, by decide +kernel, by decide, by decide, ⟨_, fun _ => rfl⟩, ⟨_, fun _ => rfl⟩,
    ⟨_, fun _ => rfl⟩⟩

theorem test_witness_FramesAreTakenWhen :
    ctxOf 63 = some 63 ∧ ctxOf 5 = some 5 ∧
    1 ≤ ([1] : List Byte).length ∧ (List.replicate 2048 (0 : Byte)).length ≤ 2048 ∧
    opened.contexts[(63 : CtxId)] = none ∧ opened.contexts[(5 : CtxId)] = some writeRecord ∧
    writeRecord.dir = laneDir .front ∧ writeRecord.dir ≠ laneDir .back ∧
    isRequest (.undefinedRequestCode 1 0x13 []) = true ∧ isRequest (.queryStatus 1 (.fields ())) = true := by
  decide +kernel

/-- A sector that starts in a bank with a load in progress holds its fragment; one that has started does not. -/
theorem test_a_busy_bank_holds_a_sector_start :
    { opened with slots := (loading words 40).slots }.takeable (.data .front 5 [1]) = false ∧
    { opened with
      slots := (loading words 40).slots
      contexts := opened.contexts.set 5 (some (lateRecord .write)) }.takeable (.data .front 5 [1]) = true ∧
    { opened with
      slots := (loading words 40).slots
      contexts := opened.contexts.set 5 (some (lateRecord .write)) }.takeable (.data .front 5 [1, 1]) = false := by
  decide +kernel

theorem test_witness_SettledIsKept :
    { crowded with frontHead := some (.querySlot 1 (.fields 0)) }.PowerOk ∧
    { crowded with frontHead := some (.querySlot 1 (.fields 0)) }.Settled ∧
    (∃ t, exec .microsecondPasses { crowded with frontHead := some (.querySlot 1 (.fields 0)) } = .next t) ∧
    (off true).PowerOk ∧ (off true).Settled :=
  ⟨fun h => (by cases h), fun lane => by cases lane <;> decide +kernel, ⟨_, rfl⟩, fun _ => rfl,
    fun lane => by cases lane <;> decide +kernel⟩

/-- Both lanes held: a REQUEST at front-in, DATA of context 6 at back-in. -/
def bothHeads (s : State) : State :=
  { s with frontHead := some (.querySlot 1 (.fields 0)), backHead := some (.data .back 6 [1]) }

theorem test_witness_HeadsAreTaken :
    (work.takeable (.querySlot 1 (.fields 0)) = true ∧ work.takeable (.data .back 6 [1]) = true) ∧
    ({ work with reservations := 8 }.takeable (.querySlot 1 (.fields 0)) = false ∧
      { work with reservations := 8 }.takeable (.data .back 6 [1]) = true) ∧
    ({ crowded with reservations := 7 }.takeable (.querySlot 1 (.fields 0)) = true ∧
      { crowded with reservations := 7 }.takeable (.data .back 6 [1]) = false) ∧
    work.Settled ∧ isFrame (.querySlot 1 (.fields 0)) = true ∧
    work.holdLine (frameLane (.querySlot 1 (.fields 0))) = false :=
  ⟨by decide +kernel, by decide +kernel, by decide +kernel, fun lane => by cases lane <;> decide +kernel, rfl,
    by decide +kernel⟩

/-- A REPLY leaves: its reservation reaches the REQUEST held at front-in, which is answered, and back-in stays held. -/
theorem test_a_sent_reply_takes_the_held_request :
    (after (.frameSent .front) { bothHeads crowded with
      replies := [⟨3, 0x03, .ok, .none⟩], frontSending := some .reply }).map
        (fun t => (t.frontHead, t.backHead, t.reservations, t.replies.map (·.tag))) =
      some (none, some (.data .back 6 [1]), 8, [1]) := by decide +kernel

/-- A data-queue frame leaves: its DATA place reaches the DATA frame held at back-in alone. -/
theorem test_a_sent_data_frame_takes_the_held_data :
    (after (.frameSent .front) { bothHeads crowded with frontSending := some .data }).map
        (fun t => (t.frontHead, t.backHead, t.reservations, t.discards)) =
      some (some (.querySlot 1 (.fields 0)), none, 8, 1) := by decide +kernel

theorem test_witness_OpenChecksInOrder :
    ctxOf 5 = some 5 ∧ State.reset.holdLine .front = false ∧ State.reset.openTakeable 5 = true ∧
    State.reset.life = .prepare ∧ opened.holdLine .front = false ∧ opened.openTakeable 5 = true ∧
    opened.life = .online ∧ (opened.contexts[(5 : CtxId)]).isSome = true := by decide +kernel

/-- Band 8 locked against writes, and band 0 migrating to slot 1 with its watermark at 4. -/
def sweeping : State :=
  { work with
    bands := (work.bands.set 0 (some { baseEntry with migration := some ⟨1, 1, 4⟩ })).set 8
      (some { lockingEntry with fields := { lockingEntry.fields with writeLock := true } }) }

theorem test_witness_OpenChecksOverSegments :
    ctxOf 7 = some 7 ∧ sweeping.holdLine .front = false ∧ sweeping.openTakeable 7 = true ∧
    sweeping.life = .online ∧ sweeping.contexts[(7 : CtxId)] = none ∧ nsOf 1 = some 0 ∧
    sweeping.bands[baseBand 0] = some { baseEntry with migration := some ⟨1, 1, 4⟩ } ∧
    baseEntry.fields.extent = .base 20 .f512 .ciphered ∧
    (sweeping.spans 0 9 2 = [⟨0, 9, 9⟩] ++ ⟨8, 10, 10⟩ :: [] ∧
      sweeping.bandRefusal .write { baseEntry with migration := some ⟨1, 1, 4⟩ } = none ∧
      sweeping.bandRefusal .write { lockingEntry with fields := { lockingEntry.fields with writeLock := true } } =
        some .locked) ∧
    sweeping.spans 0 4 2 = [⟨0, 4, 5⟩] ∧
    (after (.openFrame 7 .write 0 1 9 1) sweeping = some { sweeping with frontQueue := [.refusal 7 .locked] }) ∧
    (after (.openFrame 7 .write 1 1 5 1) sweeping = some { sweeping with frontQueue := [.refusal 7 .migrateOrder] }) ∧
    sweeping.openRefusal 7 .write true (some 0) 4 2 = none ∧
    sweeping.openRefusal 7 .read true (some 0) 5 2 = none := by decide +kernel

theorem test_witness_OpenNeedsANamespaceAndARange :
    ctxOf 63 = some 63 ∧ work.holdLine .front = false ∧ work.openTakeable 63 = true ∧ work.life = .online ∧
    work.contexts[(63 : CtxId)] = none ∧ nsOf 0 = none ∧ nsOf 9 = none ∧ nsOf 8 = some 7 ∧
    work.bands[baseBand 7] = none ∧ nsOf 1 = some 0 ∧ work.bands[baseBand 0] = some baseEntry ∧
    baseEntry.fields.extent = .base 20 .f512 .ciphered ∧
    20 < (20#48).toNat + ((0#16).toNat + 1) ∧ (19#48).toNat + ((0#16).toNat + 1) ≤ 20 := by decide +kernel

theorem work_bands (i : BandId) :
    work.bands[i] = if i = 0 then some baseEntry else if i = 8 then some lockingEntry else none := by
  revert i; decide +kernel

theorem migrating_bands (i : BandId) :
    migrating.bands[i] = if i = 0 then some { baseEntry with openCount := 1, migration := some ⟨1, 1, 4⟩ }
      else if i = 8 then some { lockingEntry with openCount := 1 } else none := by
  revert i; decide +kernel

theorem opened_contexts (id : CtxId) :
    opened.contexts[id] = if id = 5 then some writeRecord else if id = 6 then some readRecord else none := by
  revert id; decide +kernel

theorem migrating_entries (i : BandId) (b : Band) (h : migrating.bands[i] = some b) :
    (i = 0 ∧ b = { baseEntry with openCount := 1, migration := some ⟨1, 1, 4⟩ }) ∨
    (i = 8 ∧ b = { lockingEntry with openCount := 1 }) := by
  rw [migrating_bands] at h
  split_ifs at h with h0 h8
  · exact .inl ⟨h0, (Option.some.inj h).symm⟩
  · exact .inr ⟨h8, (Option.some.inj h).symm⟩

theorem base_claims_nothing (ns : Ns) (e : Nat × Nat) :
    ¬ Band.claims { baseEntry with openCount := 1, migration := some ⟨1, 1, 4⟩ } ns e := by
  intro h; rcases h with h | h <;> cases h

theorem locking_claims (ns : Ns) (e : Nat × Nat) (h : Band.claims { lockingEntry with openCount := 1 } ns e) :
    ns = 0 ∧ e = (10, 19) := by
  rcases h with h | h
  · change (if (0 : Ns) = ns then some ((10 : Nat), (19 : Nat)) else none) = some e at h
    split_ifs at h with h0
    exact ⟨h0.symm, (Option.some.inj h).symm⟩
  · cases h

theorem migrating_layout : migrating.LayoutOk := by
  refine ⟨?_, ?_, ?_⟩
  · intro i b h
    rcases migrating_entries i b h with ⟨rfl, rfl⟩ | ⟨rfl, rfl⟩ <;> exact ⟨by decide, fun f hf => by cases hf⟩
  · intro i b ns e h hc
    rcases migrating_entries i b h with ⟨rfl, rfl⟩ | ⟨rfl, rfl⟩
    · exact absurd hc (base_claims_nothing ns e)
    · obtain ⟨rfl, rfl⟩ := locking_claims ns e hc
      exact ⟨by decide, _, migrating_bands _, by decide, (by intro h; cases h), fun f hf => by cases hf⟩
  · intro i j b b' ns e e' hij h h' hc hc'
    rcases migrating_entries i b h with ⟨rfl, rfl⟩ | ⟨rfl, rfl⟩
    · exact absurd hc (base_claims_nothing ns e)
    · rcases migrating_entries j b' h' with ⟨rfl, rfl⟩ | ⟨rfl, rfl⟩
      · exact absurd hc' (base_claims_nothing ns e')
      · exact absurd rfl hij

theorem test_witness_SegmentsFollowTheOwners : migrating.LayoutOk ∧ 0 < 1 := ⟨migrating_layout, by decide⟩

theorem test_witness_OpenIsRefusedOrAccepted :
    ctxOf 5 = some 5 ∧ work.holdLine .front = false ∧ work.openTakeable 5 = true ∧
    work.openRefusal 5 .write false (nsOf 1) (0#48).toNat ((1#16).toNat + 1) = none ∧
    work.openRefusal 5 .write true (nsOf 1) (0#48).toNat ((1#16).toNat + 1) = some .migrateOrder ∧
    work.bands[(0 : BandId)] = some baseEntry ∧ baseEntry.fields.binding = some ⟨0, 1⟩ ∧
    baseEntry.migration = none ∧
    sweeping.bands[(0 : BandId)] = some { baseEntry with migration := some ⟨1, 1, 4⟩ } ∧
    work.bands[baseBand 0] = some baseEntry ∧ baseEntry.fields.extent = .base 20 .f512 .ciphered := by
  decide +kernel

theorem test_witness_DataIsProcessed :
    ctxOf 5 = some 5 ∧ opened.holdLine .front = false ∧ opened.holdLine .back = false ∧
    ([1] : List Byte) ≠ [] ∧ ([1] : List Byte).length ≤ 2048 ∧
    opened.contexts[(5 : CtxId)] = some writeRecord ∧ writeRecord.dir = laneDir .front ∧
    opened.pairedPlaceFree .front = true ∧ opened.needsBusyBank .front 5 1 = false ∧
    (opened.takeBytes [1] writeRecord).stop = .more ∧
    opened.contexts[(6 : CtxId)] = some readRecord ∧ readRecord.dir = laneDir .back ∧
    opened.pairedPlaceFree .back = true ∧ opened.needsBusyBank .back 6 1 = false ∧
    (opened.takeBytes [1] readRecord).stop = .more := by decide +kernel

/-- Context 5 late in its last sector. -/
def ending : State :=
  { opened with contexts := opened.contexts.set 5 (some { lateRecord .write with sectorsDone := 1 }) }

theorem test_witness_LastSectorCompletes :
    ending.holdLine .front = false ∧ ending.holdLine .back = false ∧
    ending.contexts[(5 : CtxId)] = some { lateRecord .write with sectorsDone := 1 } ∧
    ending.pairedPlaceFree .front = true ∧ ending.needsBusyBank .front 5 1 = false ∧
    ending.needsBusyBank .front 5 2 = false ∧
    (ending.takeBytes [0] { lateRecord .write with sectorsDone := 1 }).stop = .complete false ∧
    (ending.takeBytes [0, 0] { lateRecord .write with sectorsDone := 1 }).stop = .complete true := by
  decide +kernel

/-- The same with the slot that context 5 alone holds PURGING. -/
def endingPurge : State :=
  { ending with slots := ending.slots.set 0 ⟨1, 1, .purging material (account 9)⟩ }

/-- The one purge that drains, and a fragment of one byte that ends the last sector. -/
theorem test_witness_LastHolderCompletes :
    (endingPurge.slots[(0 : SlotId)]).state = .purging material (account 9) ∧
    (lateRecord .write).holds 0 = true ∧
    (∀ x : SlotId, ((endingPurge.slots[x]).isPurging = true ∧
      (if (lateRecord .write).holds x then (endingPurge.slots[x]).holders - 1 else (endingPurge.slots[x]).holders) = 0)
      ↔ x = 0) ∧
    (∀ x : SlotId, (ending.slots[x]).isPurging = false) ∧
    endingPurge.needsBusyBank .front 5 1 = false ∧
    (endingPurge.takeBytes [0] { lateRecord .write with sectorsDone := 1 }).stop = .complete false := by
  decide +kernel

/-- An overrun is counted once, with its kind and context id (R38, R46); the last holder's completion is counted as
drained (R94, R101). -/
theorem test_overrun_and_drain_are_reported :
    ((after (.data .front 5 [0, 0, 0]) ending).map fun t => (t.classes[4].latest, t.noticeSlots[4], t.discards)) =
      some (some ⟨0, .discard .overrun (some 5) 1⟩, some ⟨⟨0, .discard .overrun (some 5) 1⟩, 1⟩, 1) ∧
    ((after (.data .front 5 [0]) endingPurge).map fun t => (t.classes[2].latest, t.classes[4].latest)) =
      some (some ⟨0, .purge 0 .request 1 0⟩, none) := by decide +kernel

/-- A migrate writer late in its last sector, of two from an LBA on. -/
def sweeper (first : Nat) : Context :=
  { lateRecord .write with
    sectorsDone := 1, migrate := true, first := first, segments := [⟨0, first, first + 1, 0, some 1⟩] }

/-- Its band with a record, or without one. -/
def sweepEnding (first : Nat) (record : Option Migration) : State :=
  { ending with
    bands := work.bands.set 0 (some { baseEntry with openCount := 1, migration := record, writer := some 5 })
    contexts := (work.contexts.set 5 (some (sweeper first))) }

theorem sweepEnding_bands (first : Nat) (record : Option Migration) (i : BandId) (b : Band)
    (h : (sweepEnding first record).bands[i] = some b) : b.pending = none := by
  simp only [sweepEnding, Fin.getElem_fin, Vector.getElem_set] at h
  split at h
  · cases h; rfl
  · have h' : work.bands[i] = some b := h
    rw [work_bands] at h'
    split_ifs at h' <;> · cases h'; rfl

theorem test_witness_MigrateWriterCompletes :
    (∀ (i : BandId) (b : Band), (sweepEnding 4 (some ⟨1, 1, 4⟩)).bands[i] = some b → b.pending = none) ∧
    (sweepEnding 4 (some ⟨1, 1, 4⟩)).contexts[(5 : CtxId)] = some (sweeper 4) ∧
    ((sweepEnding 4 (some ⟨1, 1, 4⟩)).takeBytes [0] (sweeper 4)).stop = .complete false ∧
    (sweepEnding 4 (some ⟨1, 1, 4⟩)).needsBusyBank .front 5 1 = false ∧
    (sweeper 4).migrate = true ∧ (sweeper 4).segments = [⟨0, 4, 5, 0, some 1⟩] ∧
    (sweepEnding 4 (some ⟨1, 1, 4⟩)).placeFor 0 (max 4 (4 + 2)) = 6 ∧ 6 ≠ baseEntry.fields.extent.endLba ∧
    (sweepEnding 8 (some ⟨1, 1, 8⟩)).placeFor 0 (max 8 (8 + 2)) = baseEntry.fields.extent.endLba ∧
    (True ↔ ∀ (i : BandId) (b : Band), (sweepEnding 4 (some ⟨1, 1, 4⟩)).bands[i] = some b → b.pending = none) ∧
    (sweepEnding 4 none).bands[(0 : BandId)] =
      some { baseEntry with openCount := 1, migration := none, writer := some 5 } :=
  ⟨fun i b h => sweepEnding_bands _ _ i b h, by decide +kernel, by decide +kernel, by decide +kernel,
    by decide +kernel, by decide +kernel, by decide +kernel, by decide +kernel, by decide +kernel,
    ⟨fun _ i b h => sweepEnding_bands _ _ i b h, fun _ => trivial⟩, by decide +kernel⟩

/-- The writer's end moves the watermark, past the locking band to the end of the base band where it reaches it. -/
theorem test_a_migrate_writer_advances :
    ((after (.data .front 5 [0]) (sweepEnding 4 (some ⟨1, 1, 4⟩))).map fun t => (t.bands[(0 : BandId)], t.classes[3].latest)) =
      some (some { baseEntry with migration := some ⟨1, 1, 6⟩ }, some ⟨0, .migrate 0 .advance 6⟩) ∧
    ((after (.data .front 5 [0]) (sweepEnding 8 (some ⟨1, 1, 8⟩))).map fun t => (t.bands[(0 : BandId)], t.classes[3].latest)) =
      some (some { baseEntry with fields := { baseEntry.fields with binding := some ⟨1, 1⟩ } },
        some ⟨0, .migrate 0 .complete 20⟩) := by decide +kernel

theorem test_witness_FailedParityCutsTheHolders :
    (faulty .write).holdLine .front = false ∧ (faulty .write).holdLine .back = false ∧
    (faulty .write).contexts[(5 : CtxId)] = some (lateRecord .write) ∧
    (faulty .write).pairedPlaceFree .front = true ∧ (faulty .write).needsBusyBank .front 5 2 = false ∧
    ((faulty .write).takeBytes [0, 0] (lateRecord .write)).stop = .keyFault 0 ∧
    ((faulty .write).takeBytes [0, 0] (lateRecord .write)).released ≠ [] ∧
    (lateRecord .write).holds 0 = true ∧ ((faulty .write).slots[(0 : SlotId)]).isReady = true ∧
    (faulty .write).latched.keyfault = false ∧ ((faulty .write).slots[(1 : SlotId)]).isPurging = false ∧
    ((faulty .write).contexts[(6 : CtxId)]).any (fun x => x.holds 0) = false ∧
    (faulty .read).contexts[(5 : CtxId)] = some (lateRecord .read) ∧
    (faulty .read).pairedPlaceFree .back = true ∧ (faulty .read).needsBusyBank .back 5 2 = false ∧
    ((faulty .read).takeBytes [0, 0] (lateRecord .read)).stop = .keyFault 0 ∧
    ((faulty .read).takeBytes [0, 0] (lateRecord .read)).released ≠ [] := by decide +kernel


/-- Context 5 late in its first sector, its damaged slot PURGING. -/
def faultyPurging : State :=
  { faulty .write with slots := (faulty .write).slots.set 0 ⟨1, 1, .purging damagedMaterial (account 9)⟩ }

theorem test_witness_FailedParityEndsAPurge :
    faultyPurging.CountsOk ∧ (faultyPurging.slots[(0 : SlotId)]).state = .purging damagedMaterial (account 9) ∧
    (account 9).owed = some 0x44 ∧ faultyPurging.needsBusyBank .front 5 2 = false ∧
    (faultyPurging.takeBytes [0, 0] (lateRecord .write)).stop = .keyFault 0 ∧
    (after (.data .front 5 [0, 0]) faultyPurging).map (fun t => ((t.slots[(0 : SlotId)]).state, t.replies)) =
      some (.empty, [⟨0x44, 0x04, .ok, .keyPurge 0 0 1⟩]) :=
  ⟨⟨show ∀ (i : BandId), ∀ b ∈ faultyPurging.bands[i], b.openCount = (faultyPurging.naming i).length by decide +kernel,
    by decide +kernel, by decide +kernel⟩, by decide +kernel⟩

theorem test_witness_DiscardedFramesAreCounted :
    ctxOf 7 = some 7 ∧ opened.holdLine .front = false ∧ opened.holdLine .back = false ∧
    opened.pairedPlaceFree .front = true ∧ opened.pairedPlaceFree .back = true ∧
    opened.contexts[(7 : CtxId)] = none ∧ opened.contexts[(5 : CtxId)] = some writeRecord ∧
    writeRecord.dir ≠ laneDir .back := by decide +kernel

theorem test_witness_AbortCuts :
    ctxOf 6 = some 6 ∧ ctxOf 7 = some 7 ∧ opened.holdLine .front = false ∧ opened.backHead = none ∧
    opened.contexts[(7 : CtxId)] = none ∧ opened.contexts[(6 : CtxId)] = some readRecord ∧
    opened.bands[(8 : BandId)] = some { lockingEntry with openCount := 1 } ∧ readRecord.names 8 = true ∧
    isBase 8 = false := by decide +kernel

theorem test_witness_BadRequestsChangeNothing : opened.TakesRequests ∧ opened.backHead = none :=
  ⟨opened_takes_requests, rfl⟩

theorem test_witness_QueriesReportTheState :
    opened.TakesRequests ∧ slotOf 31 = some 31 ∧ slotOf 32 = none ∧ bandOf 31 = some 31 ∧ bandOf 32 = none ∧
    ctxOf 63 = some 63 ∧ ctxOf 64 = none ∧ ctxOf 5 = some 5 ∧ bandOf 8 = some 8 ∧
    opened.bands[(31 : BandId)] = none ∧ opened.bands[(8 : BandId)] = some { lockingEntry with openCount := 1 } ∧
    opened.contexts[(63 : CtxId)] = none ∧ opened.contexts[(5 : CtxId)] = some writeRecord :=
  ⟨opened_takes_requests, by decide +kernel⟩

theorem test_witness_TimeSetLoadsLinkTime :
    opened.TakesRequests ∧ opened.backHead = none ∧ opened.contexts[(5 : CtxId)] = some writeRecord :=
  ⟨opened_takes_requests, by decide +kernel⟩

theorem test_witness_SetGraceAndGoOnline :
    work.TakesRequests ∧ work.life = .online ∧ State.reset.TakesRequests ∧ State.reset.life = .prepare ∧
    (∀ w : WrapId, (State.reset.wraps[w]).isLoaded = false) ∧
    { work with life := .prepare }.TakesRequests ∧ (∃ w : WrapId, (work.wraps[w]).isLoaded = true) :=
  ⟨work_takes_requests, rfl, reset_takes_requests, rfl, by decide +kernel,
    ⟨by decide +kernel, by decide +kernel⟩, by decide +kernel⟩

theorem test_witness_EventsAreCountedIntoNotices :
    (⟨false, 0, 1, none⟩ : ClassState) = work.classOf .trip ∧ { work with porstLine := true }.porstLine = true := by
  decide +kernel

/-- An event of TRIP. -/
def event : NoticeEvent := ⟨3, .trip .pfail SourceSet.empty⟩

/-- A sent NOTICE of TRIP with one more event counted, KEYFAULT with one sent and nothing counted, PURGE waiting. -/
def noted : State :=
  { work with
    classes := ((work.classes.set 0 ⟨true, 1, 1, some event⟩).set 1 ⟨true, 0, 1, some event⟩).set 2
      ⟨true, 0, 1, some event⟩
    noticeSlots := work.noticeSlots.set 2 (some ⟨event, 1⟩) }

theorem test_witness_NoticeRequests :
    noted.TakesRequests ∧ classCodeOf 4 = some .discard ∧ classCodeOf 5 = none ∧ 31 < (32#8).toNat ∧
    (31#8).toNat ≤ 31 ∧ (noted.classOf .discard).flag = false ∧
    (noted.noticeSlots[NoticeClass.purge.idx]).isSome = true ∧
    ((noted.classOf .trip).flag = true ∧ noted.noticeSlots[NoticeClass.trip.idx] = none ∧
      (noted.classOf .trip).period ≠ 0 ∧ (noted.classOf .trip).counter = (noted.classOf .trip).period ∧
      (noted.classOf .trip).latest = some event) ∧
    ((noted.classOf .keyfault).flag = true ∧ noted.noticeSlots[NoticeClass.keyfault.idx] = none ∧
      ¬((noted.classOf .keyfault).period ≠ 0 ∧
        (noted.classOf .keyfault).counter = (noted.classOf .keyfault).period)) :=
  ⟨⟨by decide +kernel, by decide +kernel⟩, by decide +kernel⟩

theorem loading_takes_requests : (loading words 40).TakesRequests := ⟨by decide +kernel, by decide +kernel⟩

theorem test_witness_WrapLoadAndKeyLoad :
    (wrapOf 4 = none ∧ wrapOf 3 = some 3 ∧ slotOf 32 = none) ∧
    (work.TakesRequests ∧ work.life = .online) ∧
    ({ loading words 40 with life := .prepare }.TakesRequests ∧
      { loading words 40 with life := .prepare }.wrapInUse 0 = true ∧
      { loading words 40 with life := .prepare }.wrapInUse 3 = false) ∧
    (loading words 40).TakesRequests ∧
    (((loading words 40).slots[(0 : SlotId)]).isEmpty = false ∧
      ((loading words 40).slots[(30 : SlotId)]).isEmpty = true ∧
      ((loading words 40).slots[(31 : SlotId)]).isEmpty = true ∧
      ((loading words 40).wraps[(1 : WrapId)]).isLoaded = false ∧
      (loading words 40).wraps[(0 : WrapId)] = .loaded words ∧
      (loading words 40).bankBusy (bankOf 30) = true ∧ (loading words 40).bankBusy (bankOf 31) = false) :=
  ⟨by decide +kernel, ⟨work_takes_requests, rfl⟩, ⟨⟨by decide +kernel, by decide +kernel⟩, by decide +kernel⟩,
    loading_takes_requests, by decide +kernel⟩

theorem test_witness_UnwrapLaws : (1#256) ≠ 2#256 ∧ (1#8 : Byte) ≠ 0 ∧ (0#576) ≠ 1#576 <<< 512 ∧
    (0#576).extractLsb' 0 512 = (1#576 <<< 512).extractLsb' 0 512 := by decide +kernel

theorem test_witness_UnwrapEndsTheLoad :
    work.frontHead = none ∧ work.backHead = none ∧ (∀ l, (work.slots[(0 : SlotId)]).state ≠ .loading l) ∧
    (loading words 40).frontHead = none ∧ (loading words 40).backHead = none ∧
    ((loading words 40).slots[(4 : SlotId)]).state = .loading (loadOf words 40) ∧
    allPass (loadOf words 40).words = true := by
  refine ⟨rfl, rfl, ?_, rfl, rfl, by decide +kernel, by decide +kernel⟩
  intro l h
  have h' : (work.slots[(0 : SlotId)]).state = .ready material := by decide +kernel
  rw [h'] at h
  cases h

theorem test_witness_WrapFaultLatchesKeyfault :
    (loading damagedWords 40).frontHead = none ∧ (loading damagedWords 40).backHead = none ∧
    ((loading damagedWords 40).slots[(4 : SlotId)]).state = .loading (loadOf damagedWords 40) ∧
    allPass (loadOf damagedWords 40).words = false ∧
    (loading damagedWords 40).wraps[(loadOf damagedWords 40).wrapSlot] = .loaded words := by decide +kernel

theorem test_witness_KeyPurgeBySlotState :
    slotOf 32 = none ∧ work.TakesRequests ∧ work.backHead = none ∧
    ((work.slots[(31 : SlotId)]).state = .empty ∧ (work.slots[(0 : SlotId)]).isReady = true ∧
      (work.slots[(2 : SlotId)]).isPoisoned = true) ∧
    ((purging 9 1).TakesRequests ∧
      ((purging 9 1).slots[(3 : SlotId)]).state = .purging material (account 9)) ∧
    ((loading words 40).TakesRequests ∧
      ((loading words 40).slots[(4 : SlotId)]).state = .loading (loadOf words 40)) :=
  ⟨rfl, work_takes_requests, rfl, by decide +kernel,
    ⟨⟨by decide +kernel, by decide +kernel⟩, by decide +kernel⟩, loading_takes_requests, by decide +kernel⟩


theorem opened_counts : opened.CountsOk :=
  ⟨show ∀ (i : BandId), ∀ b ∈ opened.bands[i], b.openCount = (opened.naming i).length by decide +kernel,
    by decide +kernel, by decide +kernel⟩

/-- A purge with grace left: no context is cut, the band loses its binding alone, and no PURGE event is reported. -/
theorem test_witness_KeyPurgeLeavesHolders :
    opened.TakesRequests ∧ opened.CountsOk ∧ 0 < opened.graceSetting ∧ slotOf 0 = some 0 ∧
    (opened.slots[(0 : SlotId)]).isReady = true ∧ opened.contexts[(5 : CtxId)] = some writeRecord ∧
    writeRecord.holds 0 = true ∧ (∀ x : SlotId, (opened.slots[x]).isPurging = false) ∧
    (∀ i : BandId, ∀ b ∈ opened.bands[i], b.migration = none ∧ b.pending = none) ∧
    (∃ fails : Band → Bool, ∀ b, fails b = (b.migration.isSome && (b.boundTo 0 || b.migratesTo 0))) ∧
    (after (.keyPurge 7 (.fields 0)) opened).map (fun t =>
      ((t.slots[(0 : SlotId)]).isPurging, t.contexts[(5 : CtxId)], t.bands[(0 : BandId)], t.classes[2].latest)) =
      some (true, some writeRecord, some { baseEntry with
        fields := { baseEntry.fields with binding := none }, openCount := 1 }, none) :=
  ⟨opened_takes_requests, opened_counts, by decide +kernel, by decide +kernel, by decide +kernel, by decide +kernel,
    by decide +kernel, by decide +kernel, by decide +kernel, ⟨_, fun _ => rfl⟩, by decide +kernel⟩

/-- A purge of a migration's target with a grace of 0: the contexts that name the band are cut and counted. -/
theorem test_witness_KeyPurgeFailsAMigration :
    { migrating with graceSetting := 0 }.TakesRequests ∧ migrating.backHead = none ∧ slotOf 0 = some 0 ∧
    (migrating.slots[(0 : SlotId)]).isReady = true ∧
    migrating.bands[(0 : BandId)] = some { baseEntry with openCount := 1, migration := some ⟨1, 1, 4⟩ } ∧
    baseEntry.fields.binding = some ⟨0, 1⟩ ∧ Band.boundTo baseEntry 0 = true ∧
    migrating.contexts[(5 : CtxId)] = some writeRecord ∧ writeRecord.names 0 = true ∧
    (after (.keyPurge 7 (.fields 0)) migrating).map (fun t =>
      ((t.slots[(0 : SlotId)]).state, t.replies, t.classes[2].latest)) =
      some (.empty, [⟨7, 0x04, .ok, .keyPurge 0 0 1⟩], some ⟨0, .purge 0 .migrateFail 0 1⟩) :=
  ⟨⟨by decide +kernel, by decide +kernel⟩, by decide +kernel⟩

/-- Slot 0 PURGING with context 5 as its holder and the countdown at 0. -/
def expiring : State :=
  { opened with slots := opened.slots.set 0 ⟨1, 1, .purging material (account 0)⟩ }

theorem test_witness_PurgesEndByDrainOrExpiry :
    (work.slots[(0 : SlotId)]).isPurging = false ∧ ((purging 9 1).slots[(3 : SlotId)]).holders ≠ 0 ∧
    (purging 9 0).porstLine = false ∧
    ((purging 9 0).slots[(3 : SlotId)]).state = .purging material (account 9) ∧
    ((purging 9 0).slots[(3 : SlotId)]).holders = 0 ∧ (purging 9 1).expiryDue 3 = false ∧
    expiring.frontHead = none ∧ expiring.backHead = none ∧ expiring.expiryDue 0 = true ∧
    expiring.contexts[(5 : CtxId)] = some writeRecord ∧ writeRecord.holds 0 = true ∧
    expiring.contexts[(6 : CtxId)] = some readRecord ∧ readRecord.holds 0 = false ∧
    (expiring.slots[(0 : SlotId)]).state = .purging material (account 0) ∧ (account 0).owed = some 0x44 ∧
    (∀ x : SlotId, x ≠ 0 → (expiring.slots[x]).isPurging = false) := by
  decide +kernel

theorem test_witness_PurgeAllErasesEverything :
    opened.TakesRequests ∧ opened.backHead = none ∧ opened.contexts[(5 : CtxId)] = some writeRecord ∧
    ∃ holders : SlotId → Nat, ∀ k, holders k =
      (List.finRange 64).countP fun id => (opened.contexts[id]).any fun c => c.holds k :=
  ⟨opened_takes_requests, rfl, by decide +kernel, _, fun _ => rfl⟩

/-- PURGE-ALL answers the purge in progress with the holder it cuts, and itself last. -/
theorem test_purge_all_answers_a_purge_in_progress :
    (after (.purgeAll 7 (.fields ())) faultyPurging).map (fun t => (t.replies, t.backQueue)) =
      some ([⟨0x44, 0x04, .ok, .keyPurge 0 0 1⟩, ⟨7, 0x05, .ok, .none⟩], [.ended 5 .keyPurged 0]) := by decide +kernel

/-- A BAND-SET of a base band to ACTIVE with a size. -/
def setBase (band state : Byte) (size : BitVec 64) : BandSetFields :=
  { band := band, state := state, namespaceNumber := 0, format := 0, metaMode := 0, bindingPresent := 0, slot := 0
    generation := 0, locks := 0, saltPresent := 0, salt := 0, tripMask := 0, latchedAction := 0
    pfailResponse := 0, extentA := size, extentB := 0 }

/-- The fields it gives. -/
def baseFields (size : Nat) : BandFields :=
  { extent := .base size .f512 .ciphered, binding := none, readLock := false, writeLock := false, salt := none
    tripMask := SourceSet.empty, action := .none, pfail := .none }

theorem test_witness_BandSetIsRefusedStagedOrApplied :
    opened.TakesRequests ∧ opened.backHead = none ∧
    bandSetOf (setBase 32 1 20) = none ∧ bandSetOf (setBase 0 2 20) = none ∧
    bandSetOf (setBase 0 1 20) = some (0, some (baseFields 20)) ∧
    bandSetOf (setBase 31 0 0) = some (31, none) ∧
    opened.bandSetRefusal 0 (some (baseFields 19)) = some .outOfRange ∧
    opened.bandSetRefusal 0 (some (baseFields 20)) = none ∧
    opened.bands[(0 : BandId)] = some { baseEntry with openCount := 1 } ∧
    opened.bandSetRefusal 7 (some (baseFields 20)) = none ∧ opened.bands[(7 : BandId)] = none ∧
    work.bandSetRefusal 0 (some (baseFields 20)) = none ∧ work.bands[(0 : BandId)] = some baseEntry :=
  ⟨opened_takes_requests, by decide +kernel⟩

/-- Every field of a BAND-SET at the end of its range, and the slot byte of an absent binding. -/
theorem test_fields_of_a_band_set :
    bandSetOf { setBase 31 1 (2 ^ 48 - 1) with
      namespaceNumber := 8, extentB := 2 ^ 48 - 1, format := 9, metaMode := 9, bindingPresent := 1, slot := 31,
      generation := 5, locks := 2, saltPresent := 1, salt := 77, tripMask := 5, latchedAction := 3, pfailResponse := 1 } =
      some (31, some {
        extent := .locking 7 (2 ^ 48 - 1) (2 ^ 48 - 1), binding := some ⟨31, 5⟩, readLock := false
        writeLock := true, salt := some 77, tripMask := ⟨true, false, true⟩, action := .purge, pfail := .hold }) ∧
    bandSetOf { setBase 7 1 (2 ^ 48) with format := 4, metaMode := 1, slot := 255 } =
      some (7, some { baseFields (2 ^ 48) with extent := .base (2 ^ 48) .f4160 .clear }) ∧
    bandSetOf (setBase 7 1 0) = none ∧ bandSetOf { setBase 7 1 9 with bindingPresent := 1, slot := 32 } = none := by
  decide +kernel

/-- A BAND-SET of locking band 9 to ACTIVE over LBAs of namespace 1. -/
def setLocking (first last : BitVec 64) : BandSetFields :=
  { setBase 9 1 first with namespaceNumber := 1, extentB := last }

/-- The fields it gives. -/
def lockingFields (first last : Nat) : BandFields := { baseFields 0 with extent := .locking 0 first last }

/-- Band 0 migrating with its watermark at 4, and no open context. -/
def idleSweep : State :=
  { work with bands := work.bands.set 0 (some { baseEntry with migration := some ⟨1, 1, 4⟩ }) }

/-- The watermark of a base band after a BAND-SET over it, off it, and over all that is left of the band. -/
theorem test_witness_BandSetMovesTheWatermark :
    idleSweep.TakesRequests ∧ idleSweep.backHead = none ∧
    bandSetOf (setLocking 4 5) = some (9, some (lockingFields 4 5)) ∧
    bandSetOf (setLocking 6 7) = some (9, some (lockingFields 6 7)) ∧
    bandSetOf (setLocking 4 9) = some (9, some (lockingFields 4 9)) ∧
    idleSweep.bandSetRefusal 9 (some (lockingFields 4 5)) = none ∧
    idleSweep.bandSetRefusal 9 (some (lockingFields 6 7)) = none ∧
    idleSweep.bandSetRefusal 9 (some (lockingFields 4 9)) = none ∧ idleSweep.bands[(9 : BandId)] = none ∧
    idleSweep.bands[baseBand 0] = some { baseEntry with migration := some ⟨1, 1, 4⟩ } ∧
    ((after (.bandSet 7 (.fields (setLocking 4 5))) idleSweep).map fun t => t.bands[(0 : BandId)]) =
      some (some { baseEntry with migration := some ⟨1, 1, 6⟩ }) ∧
    ((after (.bandSet 7 (.fields (setLocking 6 7))) idleSweep).map fun t => t.bands[(0 : BandId)]) =
      some (some { baseEntry with migration := some ⟨1, 1, 4⟩ }) ∧
    ((after (.bandSet 7 (.fields (setLocking 4 9))) idleSweep).map fun t => t.bands[(0 : BandId)]) =
      some (some { baseEntry with fields := { baseEntry.fields with binding := some ⟨1, 1⟩ } }) :=
  ⟨⟨by decide +kernel, by decide +kernel⟩, by decide +kernel⟩

theorem test_witness_BaseBandKeepsItsLockingBandsInside :
    work.TakesRequests ∧ work.backHead = none ∧ bandSetOf (setBase 0 1 19) = some (0, some (baseFields 19)) ∧
    bandSetOf (setBase 0 1 20) = some (0, some (baseFields 20)) ∧
    bandSetOf (setBase 0 0 0) = some (0, none) ∧ (0 : BandId) = baseBand 0 ∧
    (∀ b, work.bands[(0 : BandId)] = some b → b.pending = none ∧ b.migration = none) := by
  refine ⟨work_takes_requests, rfl, by decide +kernel, by decide +kernel, by decide +kernel, by decide, ?_⟩
  intro b h
  rw [work_bands] at h
  cases h
  exact ⟨rfl, rfl⟩

/-- PLOCK latched and band 0 locked. -/
def gated : State :=
  { work with
    latched := ⟨true, false, false⟩
    bands := work.bands.set 0 (some { baseEntry with fields := baseEntry.fields.locked }) }

theorem test_witness_BandLockSetsTheLocks :
    work.TakesRequests ∧ gated.TakesRequests ∧ bandOf 32 = none ∧ locksOf 4 = none ∧
    locksOf 3 = some (true, true) ∧ locksOf 0 = some (false, false) ∧ bandOf 31 = some 31 ∧
    work.bands[(31 : BandId)] = none ∧ work.bands[(0 : BandId)] = some baseEntry ∧
    work.gateHolds baseEntry.fields.tripMask = false ∧
    gated.bands[(0 : BandId)] = some { baseEntry with fields := baseEntry.fields.locked } ∧
    gated.gateHolds baseEntry.fields.locked.tripMask = true ∧ baseEntry.fields.locked.readLock = true :=
  ⟨work_takes_requests, ⟨by decide +kernel, by decide +kernel⟩, by decide +kernel⟩

/-- Band 0 of 10 LBAs, all of them in locking band 8. -/
def covered : State :=
  { work with
    bands := (work.bands.set 0 (some (bandOver (.base 10 .f512 .ciphered) 0))).set 8
      (some (bandOver (.locking 0 0 9) 1)) }

theorem test_witness_MigrateStartIsRefusedStagedOrApplied :
    work.TakesRequests ∧ opened.TakesRequests ∧ covered.TakesRequests ∧
    (bandOf 32 = none ∧ slotOf 32 = none ∧ bandOf 0 = some 0 ∧ slotOf 1 = some 1 ∧
      work.backHead = none ∧ opened.backHead = none ∧ covered.backHead = none) ∧
    (work.migrateStartRefusal 0 1 2 = some .genMismatch ∧ opened.migrateStartRefusal 0 1 1 = none ∧
      opened.bands[(0 : BandId)] = some { baseEntry with openCount := 1 }) ∧
    (work.migrateStartRefusal 0 1 1 = none ∧ work.bands[(0 : BandId)] = some baseEntry ∧
      work.placeFor 0 baseEntry.fields.extent.firstLba ≠ baseEntry.fields.extent.endLba) ∧
    (covered.migrateStartRefusal 0 1 1 = none ∧
      covered.bands[(0 : BandId)] = some (bandOver (.base 10 .f512 .ciphered) 0) ∧
      covered.placeFor 0 0 = 10) :=
  ⟨work_takes_requests, opened_takes_requests, ⟨by decide +kernel, by decide +kernel⟩, by decide +kernel⟩

theorem test_witness_WatermarksAndKeyChoice :
    migrating.bands[(0 : BandId)] = some { baseEntry with openCount := 1, migration := some ⟨1, 1, 4⟩ } ∧
    (19 ≠ baseEntry.fields.extent.endLba ∧ 20 = baseEntry.fields.extent.endLba) ∧
    (⟨0, 0, 1, 0, none⟩ : Segment).target = none ∧ (⟨0, 0, 1, 0, some 1⟩ : Segment).target = some 1 ∧
    8 ≤ (8 : BandId).val ∧ writeRecord.segments = [] ++ ⟨0, 0, 1, 0, none⟩ :: [] ∧
    migrating.placeFor (baseBand 0) 9 = 9 ∧ migrating.placeFor (baseBand 0) 10 = 20 ∧
    (migrating.bands[(0 : BandId)]).bind (·.migration) = some ⟨1, 1, 4⟩ ∧
    (opened.bands[(0 : BandId)]).bind (·.migration) = none := by decide +kernel

/-- Band 0 without open contexts and with a staged change. -/
def staged (change : Change) : State :=
  { work with
    bands := work.bands.set 0 (some { baseEntry with pending := some ⟨change, some 9⟩ }), reservations := 1 }

theorem test_witness_StagedChangesApplyAtOpenCountZero :
    work.frontHead = none ∧ work.backHead = none ∧
    (∀ b, work.bands[(0 : BandId)] = some b → b.openCount ≠ 0 ∨ b.pending = none) ∧
    (staged (.bandSet none)).frontHead = none ∧ (staged (.bandSet none)).backHead = none ∧
    (staged (.bandSet none)).bands[(0 : BandId)] =
      some { baseEntry with pending := some ⟨.bandSet none, some 9⟩ } ∧
    (staged (.bandSet (some (baseFields 20)))).bands[(0 : BandId)] =
      some { baseEntry with pending := some ⟨.bandSet (some (baseFields 20)), some 9⟩ } ∧
    (staged (.migrateStart 1 1)).bands[(0 : BandId)] =
      some { baseEntry with pending := some ⟨.migrateStart 1 1, some 9⟩ } := by
  refine ⟨rfl, rfl, ?_, rfl, rfl, by decide +kernel, by decide +kernel, by decide +kernel⟩
  intro b h
  rw [work_bands] at h
  cases h
  exact .inr rfl

theorem test_witness_LatchingRunsTheActions :
    gated.latched.has .plock = true ∧ opened.latched.has .plock = false ∧
    opened.bands[(0 : BandId)] = some { baseEntry with openCount := 1 } ∧
    baseEntry.fields.tripMask.has .plock = true ∧ baseEntry.fields.action = .cut ∧
    (opened.latch .plock).bands[(0 : BandId)] = some { baseEntry with fields := baseEntry.fields.locked } ∧
    opened.contexts[(5 : CtxId)] = some writeRecord ∧ writeRecord.names 0 = true ∧ writeRecord.dir = .write ∧
    opened.latched.has .soft = false ∧ baseEntry.fields.tripMask.has .soft = false ∧ baseEntry.pending = none := by
  decide +kernel

/-- The action LOCK on a band with a context open and a BAND-SET staged: the staged locks are set too. -/
theorem test_staged_locks_are_set :
    ({ opened with
      bands := opened.bands.set 0 (some { baseEntry with
        fields := { baseEntry.fields with action := .lock }, openCount := 1
        pending := some ⟨.bandSet (some (baseFields 20)), some 8⟩ }) }.latch .plock).bands[(0 : BandId)] =
      some { baseEntry with
        fields := { baseEntry.fields with action := .lock, readLock := true, writeLock := true }, openCount := 1
        pending := some ⟨.bandSet (some { baseFields 20 with readLock := true, writeLock := true }), some 8⟩ } := by
  decide +kernel

/-- PLOCK cuts band 0's contexts and locks band 8, whose context stays. -/
theorem test_a_latching_leaves_other_contexts :
    (({ opened with
      bands := opened.bands.set 8 (some { lockingEntry with
        fields := { lockingEntry.fields with action := .lock }, openCount := 1 }) }.latch .plock).contexts[(6 : CtxId)] =
        some readRecord) ∧
    readRecord.names 0 = false ∧
    (∀ i : BandId, ∀ b ∈ opened.bands[i], b.fields.tripMask.has .soft = false ∧ b.fields.action ≠ .purge) := by
  decide +kernel

/-- Band 0 purges its slot at a trip, its staged change names that slot, and band 8's names none. -/
def tripPurging : State :=
  { opened with
    bands := (opened.bands.set 0 (some { baseEntry with
        fields := { baseEntry.fields with action := .purge }, openCount := 1
        pending := some ⟨.migrateStart 1 1, some 8⟩ })).set 8
      (some { lockingEntry with openCount := 1, pending := some ⟨.bandSet none, some 9⟩ }) }

theorem test_witness_LatchingPurges :
    tripPurging.latched.has .plock = false ∧ (tripPurging.slots[(0 : SlotId)]).isReady = true ∧
    (tripPurging.bands[(0 : BandId)]).any (fun b => b.boundTo 0 && b.changeNames 0 &&
      decide (b.fields.action = .purge) && b.fields.tripMask.has .plock) = true ∧
    ((tripPurging.latch .plock).slots[(0 : SlotId)]).isEmpty = true ∧
    (tripPurging.latch .plock).replies = [⟨8, 0x0A, .abandoned, .migrateStart 0 0⟩, ⟨9, 0x07, .ok, .band 8⟩] ∧
    (tripPurging.slots[(0 : SlotId)]).isLoading = false ∧ tripPurging.inSlotSet 0 0 = true ∧
    (∀ x : SlotId, tripPurging.inSlotSet 0 x = true → x.val ≤ (0 : SlotId).val) ∧
    ((tripPurging.purgeBand 0).classOf .purge).latest = some ⟨0, .purge 0 .trip 0 0⟩ ∧
    (faultyPurging.bands[(0 : BandId)]).any (fun b => b.boundTo 0) = true ∧
    (faultyPurging.purgeBand 0).replies = [⟨0x44, 0x04, .ok, .keyPurge 0 0 0⟩] := by decide +kernel

/-- A failed parity check frees a band and latches an action that purges the slot its staged change names: the change is
dropped. -/
theorem test_a_change_of_a_purged_slot_is_dropped :
    (after (.data .front 5 [0, 0]) { faulty .write with
      bands := ((faulty .write).bands.set 0 (some { baseEntry with
          openCount := 1, pending := some ⟨.migrateStart 1 1, some 8⟩ })).set 8
        (some { lockingEntry with
          fields := { lockingEntry.fields with action := .purge, tripMask := ⟨false, false, true⟩ }
          openCount := 1 }) }).map (fun t => t.replies) =
      some [⟨8, 0x0A, .abandoned, .migrateStart 0 0⟩] := by decide +kernel

/-- Band 0's staged change, which gives it KEYFAULT in its trip mask and the action LOCK, is freed by the cuts: it applies
before the latching, whose action finds it. -/
theorem test_a_change_freed_by_the_cuts_meets_the_latching :
    (after (.data .front 5 [0, 0]) { faulty .write with
      bands := (faulty .write).bands.set 0 (some { baseEntry with
        openCount := 1
        pending := some ⟨.bandSet (some { baseEntry.fields with
          action := .lock, tripMask := ⟨false, false, true⟩ }), some 8⟩ }) }).map
        (fun t => (t.replies, (t.bands[(0 : BandId)]).map fun b =>
          (b.pending, b.fields.readLock, b.fields.writeLock))) =
      some ([⟨8, 0x07, .ok, .band 0⟩], some (none, true, true)) := by decide +kernel

/-- The two bands of a holder of the failing slot, each with its fields and its staged ones. -/
def freedTogether (zero zero' eight eight' : BandFields) : State :=
  { faulty .write with
    contexts := ((faulty .write).contexts.set 5 (some { lateRecord .write with
      segments := [⟨0, 0, 0, 0, none⟩, ⟨8, 1, 1, 0, none⟩] })).set 6 none
    slots := (faulty .write).slots.set 1 ⟨1, 0, .ready material⟩
    bands := ((faulty .write).bands.set 0 (some { baseEntry with
        fields := zero, openCount := 1, pending := some ⟨.bandSet (some zero'), some 8⟩ })).set 8
      (some { lockingEntry with
        fields := eight, openCount := 1, pending := some ⟨.bandSet (some eight'), some 9⟩ }) }

/-- Fields with the action PURGE on KEYFAULT. -/
def purgesOnKeyfault (f : BandFields) : BandFields := { f with action := .purge, tripMask := ⟨false, false, true⟩ }

/-- What a sector start in the freed record leaves: bands 0 and 8, slot 1 EMPTY or not, and the replies. -/
structure FreedOutcome where
  bands : List (Option Band)
  slotEmpty : Bool
  replies : List Reply
  deriving DecidableEq, Repr

/-- The outcome of a sector start of the freed record whose slot fails its parity check. -/
def freedOutcome (s : State) : Option FreedOutcome :=
  (after (.data .front 5 [0, 0]) s).map fun t =>
    ⟨[t.bands[(0 : BandId)], t.bands[(8 : BandId)]], (t.slots[(1 : SlotId)]).isEmpty, t.replies⟩

/-- Fields with both locks set and no binding. -/
def lockedAndUnbound (f : BandFields) : BandFields := { f with readLock := true, writeLock := true, binding := none }

/-- Band 8 purges slot 1 on KEYFAULT and its staged change ends that; band 0's staged change binds slot 1 with the same
action. Were band 0's kept back slot 1 would not be purged, so both apply, and band 0's new action purges slot 1. -/
theorem test_a_change_that_would_not_be_dropped_applies :
    freedOutcome (freedTogether baseEntry.fields
      (purgesOnKeyfault { baseEntry.fields with binding := some ⟨1, 1⟩ })
      (purgesOnKeyfault lockingEntry.fields) { lockingEntry.fields with binding := none, tripMask := SourceSet.empty }) =
      some ⟨[some { baseEntry with fields := lockedAndUnbound (purgesOnKeyfault baseEntry.fields) },
          some { lockingEntry with
            fields := { lockingEntry.fields with binding := none, tripMask := SourceSet.empty } }],
        true, [⟨8, 0x07, .ok, .band 0⟩, ⟨9, 0x07, .ok, .band 8⟩]⟩ := by decide +kernel

/-- Band 8 purges slot 1 on KEYFAULT before and after its staged change, which binds slot 1: it is dropped, and so is band
0's, which binds slot 1 too. -/
theorem test_a_change_whose_slot_is_purged_is_dropped :
    freedOutcome (freedTogether baseEntry.fields { baseEntry.fields with binding := some ⟨1, 1⟩ }
      (purgesOnKeyfault lockingEntry.fields) (purgesOnKeyfault lockingEntry.fields)) =
      some ⟨[some baseEntry, some { lockingEntry with
          fields := lockedAndUnbound (purgesOnKeyfault lockingEntry.fields) }],
        true, [⟨8, 0x07, .abandoned, .band 0⟩, ⟨9, 0x07, .abandoned, .band 8⟩]⟩ := by decide +kernel

theorem test_witness_LinesActOnTheirEdges :
    (gated.frontHead = none ∧ gated.backHead = none ∧ gated.porstLine = false ∧ gated.pfailLine = false) ∧
    { gated with plockLine := true }.plockLine = true ∧
    (gated.plockLine = false ∧ gated.latched.plock = true) ∧
    (opened.frontHead = none ∧ opened.backHead = none ∧ opened.porstLine = false ∧ opened.plockLine = false ∧
      opened.latched.plock = false) := by decide +kernel

theorem test_witness_TripForceAndTripClear :
    opened.TakesRequests ∧ opened.backHead = none ∧ opened.latched.soft = false ∧
    ({ opened with latched := ⟨true, true, false⟩, plock := true }.TakesRequests ∧
      { opened with latched := ⟨true, true, false⟩, plock := true }.latched.soft = true) ∧
    (7 < (8#8).toNat ∧ (7#8).toNat ≤ 7 ∧ (7#8).getLsbD 0 = true ∧ (6#8).getLsbD 0 = false) ∧
    opened.plock = false ∧
    (⟨false, false, false⟩ : SourceSet) = ⟨opened.latched.plock && !(7#8).getLsbD 0,
      opened.latched.soft && !(7#8).getLsbD 1, opened.latched.keyfault && !(7#8).getLsbD 2⟩ :=
  ⟨opened_takes_requests, rfl, by decide +kernel, ⟨⟨by decide +kernel, by decide +kernel⟩, by decide +kernel⟩,
    by decide +kernel⟩

/-- One NOTICE, one REPLY, one DONE and one END wait. -/
def full : State :=
  { work with
    classes := work.classes.set 2 ⟨true, 0, 1, some ⟨3, .purge 3 .request 0 0⟩⟩
    noticeSlots := work.noticeSlots.set 2 (some ⟨⟨3, .purge 3 .request 0 0⟩, 1⟩)
    replies := [⟨1, 0x05, .ok, .none⟩], reservations := 1
    frontQueue := [.done 5 .ok 1 0], donePlaces := work.donePlaces.set 5 .filled
    backQueue := [.ended 5 .ok 1], endPlaces := work.endPlaces.set 5 .filled }

theorem test_witness_SendingChoosesByPriority :
    { full with frontSending := some .reply }.frontSending.isSome = true ∧
    { full with frontOutHold := true }.frontOutHold = true ∧
    { full with linkrstLine := true }.linkrstLine = true ∧ (off false).porstLine = true ∧
    { full with backSending := true }.backSending = true ∧ { full with backOutHold := true }.backOutHold = true ∧
    (full.linkrstLine = false ∧ full.porstLine = false ∧ full.frontSending = none ∧ full.frontOutHold = false) ∧
    (full.noticeSlots[NoticeClass.purge.idx]).isSome = true ∧
    full.noticeSlots[NoticeClass.trip.idx] = none ∧ full.noticeSlots[NoticeClass.keyfault.idx] = none ∧
    full.replies ≠ [] ∧ full.frontQueue ≠ [] ∧ full.backSending = false ∧ full.backOutHold = false := by
  decide +kernel

theorem test_witness_SendingWithoutNotices :
    (∀ k : NoticeClass, work.noticeSlots[k.idx] = none) ∧ work.replies = [] ∧ work.frontQueue = [] ∧
    (∀ k : NoticeClass, { full with noticeSlots := work.noticeSlots }.noticeSlots[k.idx] = none) ∧
    { full with noticeSlots := work.noticeSlots }.replies ≠ [] ∧
    { full with noticeSlots := work.noticeSlots, replies := [] }.frontQueue ≠ [] :=
  ⟨fun k => by cases k <;> decide +kernel, rfl, rfl, fun k => by cases k <;> decide +kernel, by decide +kernel⟩

theorem test_witness_SentFramesFreeTheirPlace :
    full.frontHead = none ∧ full.backHead = none ∧ full.frontSending = none ∧ full.backSending = false ∧
    { full with frontSending := some (.notice .purge) }.frontSending = some (.notice .purge) ∧
    { full with frontSending := some .reply }.frontSending = some .reply ∧
    { full with frontSending := some .reply }.replies = ⟨1, 0x05, .ok, .none⟩ :: [] ∧
    { full with frontSending := some .data }.frontQueue = .done 5 .ok 1 0 :: [] ∧
    { full with backSending := true }.backQueue = .ended 5 .ok 1 :: [] := by decide +kernel

theorem test_witness_LinkResetEmptiesTheLink :
    opened.linkrstLine = false ∧ opened.porstLine = false ∧
    (∃ t b, exec .linkrstAssert opened = .next t ∧ t.bands[(0 : BandId)] = some b) ∧
    opened.bands[(8 : BandId)] = some { lockingEntry with openCount := 1 } ∧ isBase 8 = false ∧
    (∃ b, opened.bands[(0 : BandId)] = some b ∧ b.pending = none ∧ b.migration = none) ∧
    opened.bands[(31 : BandId)] = none :=
  ⟨rfl, rfl, ⟨opened.assertLinkrst, baseEntry, rfl, by decide +kernel⟩, by decide +kernel, by decide,
    ⟨{ baseEntry with openCount := 1 }, by decide +kernel⟩, by decide +kernel⟩

/-- Bands 0 and 8 with a context open and a change staged each. -/
def stagedOpen (base locking : Change) : State :=
  { opened with
    bands := (opened.bands.set 0 (some { baseEntry with openCount := 1, pending := some ⟨base, some 8⟩ })).set 8
      (some { lockingEntry with openCount := 1, pending := some ⟨locking, some 9⟩ })
    reservations := 2 }

theorem stagedOpen_starts (j : BandId) (x : Band) (new : Option BandFields) (o : Option Byte)
    (h : (stagedOpen (.migrateStart 1 1) (.migrateStart 0 1)).bands[j] = some x) :
    x.pending ≠ some ⟨.bandSet new, o⟩ := by
  have hall : ∀ i : BandId, ∀ b ∈ (stagedOpen (.migrateStart 1 1) (.migrateStart 0 1)).bands[i],
      b.stagedSet.isNone = true := by decide +kernel
  intro hp
  have hn := hall j x h
  simp only [Band.stagedSet, hp] at hn
  cases hn

theorem test_witness_LinkResetAppliesStagedChanges :
    (stagedOpen (.migrateStart 1 1) (.bandSet none)).linkrstLine = false ∧
    (stagedOpen (.migrateStart 1 1) (.bandSet none)).porstLine = false ∧
    (stagedOpen (.migrateStart 1 1) (.bandSet none)).bands[(0 : BandId)] =
      some { baseEntry with openCount := 1, pending := some ⟨.migrateStart 1 1, some 8⟩ } ∧
    (stagedOpen (.migrateStart 1 1) (.bandSet none)).bands[(8 : BandId)] =
      some { lockingEntry with openCount := 1, pending := some ⟨.bandSet none, some 9⟩ } ∧
    (∀ (j : BandId) (x : Band) (new : Option BandFields) (o : Option Byte),
      (stagedOpen (.migrateStart 1 1) (.migrateStart 0 1)).bands[j] = some x → x.pending ≠ some ⟨.bandSet new, o⟩) :=
  ⟨rfl, rfl, by decide +kernel, by decide +kernel, stagedOpen_starts⟩

/-- The band table of a MIGRATE-START staged for band 0 beside a locking extent staged for band 8. -/
def startBeside (first last : Nat) : State :=
  stagedOpen (.migrateStart 1 1) (.bandSet (some (lockingFields first last)))

theorem startBeside_entries (first last : Nat) (i : BandId) (b : Band) (h : (startBeside first last).bands[i] = some b) :
    (i = 0 ∧ b = { baseEntry with openCount := 1, pending := some ⟨.migrateStart 1 1, some 8⟩ }) ∨
    (i = 8 ∧ b = { lockingEntry with
      openCount := 1, pending := some ⟨.bandSet (some (lockingFields first last)), some 9⟩ }) := by
  by_cases h8 : i = 8
  · subst h8; exact .inr ⟨rfl, (Option.some.inj h).symm⟩
  by_cases h0 : i = 0
  · subst h0; exact .inl ⟨rfl, (Option.some.inj h).symm⟩
  have hb : (startBeside first last).bands[i] = opened.bands[i] := by
    have : (8 : Nat) ≠ i.val := fun h => h8 (Fin.ext h.symm)
    have : (0 : Nat) ≠ i.val := fun h => h0 (Fin.ext h.symm)
    simp only [startBeside, stagedOpen, Fin.getElem_fin, Vector.getElem_set]
    split_ifs <;> first | rfl | contradiction
  have hall : ∀ j : BandId, j = 0 ∨ j = 8 ∨ opened.bands[j] = none := by decide +kernel
  rcases hall i with h' | h' | h'
  · exact absurd h' h0
  · exact absurd h' h8
  · rw [hb, h'] at h; cases h

theorem startBeside_layout (first last : Nat) (hf : first ≤ last) (hl : last < 20) :
    (startBeside first last).LayoutOk := by
  have base : ∀ ns e, ¬ Band.claims
      { baseEntry with openCount := 1, pending := some ⟨.migrateStart 1 1, some 8⟩ } ns e := by
    rintro ns e (h | h) <;> cases h
  have locking : ∀ ns e, Band.claims { lockingEntry with
      openCount := 1, pending := some ⟨.bandSet (some (lockingFields first last)), some 9⟩ } ns e →
      ns = 0 ∧ e.1 ≤ e.2 ∧ e.2 < 20 := by
    rintro ns e (h | h)
    · change (if (0 : Ns) = ns then some ((10 : Nat), (19 : Nat)) else none) = some e at h
      split_ifs at h with h0
      cases h; exact ⟨h0.symm, by decide, by decide⟩
    · change (if (0 : Ns) = ns then some (first, last) else none) = some e at h
      split_ifs at h with h0
      cases h; exact ⟨h0.symm, hf, hl⟩
  refine ⟨fun i b h => ?_, fun i b ns e h hc => ?_, fun i j b b' ns e e' hij h h' hc hc' => ?_⟩
  · rcases startBeside_entries first last i b h with ⟨rfl, rfl⟩ | ⟨rfl, rfl⟩
    · exact ⟨by decide, fun f hf => by cases hf⟩
    · exact ⟨rfl, fun f hf => by cases hf; rfl⟩
  · rcases startBeside_entries first last i b h with ⟨rfl, rfl⟩ | ⟨rfl, rfl⟩
    · exact absurd hc (base ns e)
    · obtain ⟨rfl, he⟩ := locking ns e hc
      exact ⟨he.1, _, rfl, he.2, (by intro h; cases h), fun f hf => by cases hf⟩
  · rcases startBeside_entries first last i b h with ⟨rfl, rfl⟩ | ⟨rfl, rfl⟩
    · exact absurd hc (base ns e)
    · rcases startBeside_entries first last j b' h' with ⟨rfl, rfl⟩ | ⟨rfl, rfl⟩
      · exact absurd hc' (base ns e')
      · exact absurd rfl hij

/-- The layout holds of a MIGRATE-START staged beside a BAND-SET of some, and of all, of its band's LBAs. -/
theorem test_witness_LinkResetStartsMigrations :
    ((startBeside 0 3).LayoutOk ∧ (startBeside 0 19).LayoutOk) ∧
    (startBeside 0 3).linkrstLine = false ∧ (startBeside 0 3).porstLine = false ∧
    (startBeside 0 3).bands[(0 : BandId)] =
      some { baseEntry with openCount := 1, pending := some ⟨.migrateStart 1 1, some 8⟩ } ∧
    { opened with linkrstLine := true }.linkrstLine = true ∧
    ((off false).linkrstLine = false ∧ (off false).porstLine = true) ∧
    (∀ x : SlotId, ((startBeside 0 3).slots[x]).isPurging = false) :=
  ⟨⟨startBeside_layout 0 3 (by decide) (by decide), startBeside_layout 0 19 (by decide) (by decide)⟩, rfl, rfl, rfl, rfl,
    ⟨rfl, rfl⟩, by decide +kernel⟩

/-- Where the staged locking band takes every LBA, the migration that just began completes at once (R114, R121). -/
theorem test_link_reset_completes_a_migration :
    ((after .linkrstAssert (startBeside 0 19)).map fun t => t.bands[(0 : BandId)]) =
      some (some { baseEntry with fields := { baseEntry.fields with binding := some ⟨1, 1⟩ } }) := by decide +kernel

/-- A MIGRATE-START, and a BAND-SET that takes the first LBAs from its band: both apply, without a reply. -/
theorem test_link_reset_applies_staged_changes :
    (after .linkrstAssert (stagedOpen (.migrateStart 1 1) (.bandSet (some (lockingFields 0 3))))).map (fun t =>
      (t.bands[(0 : BandId)], t.bands[(8 : BandId)], t.replies)) =
      some (some { baseEntry with migration := some ⟨1, 1, 4⟩ },
        some { lockingEntry with fields := lockingFields 0 3 }, []) := by decide +kernel

/-- A slot's load has more than `n` microseconds left. -/
def loadAbove (n : Nat) (v : KeySlot) : Bool :=
  match v.state with
  | .loading l => decide (n < l.timeLeft)
  | _ => true

/-- A slot's purge has no holders or more than a microsecond of grace left. -/
def graceLeft (v : KeySlot) : Bool :=
  match v.state with
  | .purging _ a => decide (v.holders ≠ 0 → 1 < a.grace)
  | _ => true

theorem loads_of (s : State) (n : Nat) (h : (∀ k : SlotId, loadAbove n s.slots[k] = true)) (k : SlotId) (l : Load)
    (hl : (s.slots[k]).state = .loading l) : n < l.timeLeft := by
  have := h k
  rw [loadAbove, hl] at this
  simpa using this

theorem graces_of (s : State) (h : (∀ k : SlotId, graceLeft s.slots[k] = true)) (k : SlotId) (m : Material)
    (a : Account) (hl : (s.slots[k]).state = .purging m a) : (s.slots[k]).holders ≠ 0 → 1 < a.grace := by
  have := h k
  rw [graceLeft, hl] at this
  exact of_decide_eq_true this

theorem test_witness_MicrosecondsCount :
    ((off false).frontHead = none ∧ (off false).backHead = none ∧ (off false).porstLine = true) ∧
    ((loading words 2).frontHead = none ∧ (loading words 2).backHead = none ∧
      (loading words 2).porstLine = false) ∧
    (∀ (k : SlotId) (l : Load), ((loading words 2).slots[k]).state = .loading l → 1 < l.timeLeft) ∧
    (∀ (k : SlotId) m a, ((loading words 2).slots[k]).state = .purging m a →
      ((loading words 2).slots[k]).holders ≠ 0 → 1 < a.grace) ∧
    (∀ (k : SlotId) (l : Load), ((purging 2 1).slots[k]).state = .loading l → 1 < l.timeLeft) ∧
    (∀ (k : SlotId) m a, ((purging 2 1).slots[k]).state = .purging m a →
      ((purging 2 1).slots[k]).holders ≠ 0 → 1 < a.grace) ∧
    (∀ (k : SlotId) (l : Load), ((loading words 1).slots[k]).state = .loading l → 1 ≤ l.timeLeft) ∧
    ∃ t, exec .microsecondPasses (loading words 1) = .next t :=
  ⟨⟨rfl, rfl, rfl⟩, ⟨rfl, rfl, rfl⟩, loads_of _ 1 (by decide +kernel), graces_of _ (by decide +kernel),
    loads_of _ 1 (by decide +kernel), graces_of _ (by decide +kernel), loads_of _ 0 (by decide +kernel), _, rfl⟩

/-- One purge's countdown that the tick brings to 0, and one load at its bound with no purge beside it. -/
theorem test_witness_MicrosecondEndsOneThing :
    (∀ x : SlotId, (purging 1 1).tick.expiryDue x = true ↔ x = 3) ∧
    (∀ x : SlotId, loadAbove 1 ((purging 1 1).slots[x]) = true) ∧
    (∀ x : SlotId, loadAbove 1 ((loading words 1).slots[x]) = false ↔ x = 4) ∧
    ((loading words 1).slots[(4 : SlotId)]).isLoading = true ∧
    (∀ x : SlotId, ((loading words 1).slots[x]).isPurging = false) := by decide +kernel

/-! ### States that meet the invariants -/

theorem classOk_unused (k : NoticeClass) (p : Nat) (h : p ≤ 7) : ClassOk k ⟨false, 0, p, none⟩ none :=
  ⟨h, Nat.zero_le p, fun x => (by cases x), fun _ x => Nat.pos_of_ne_zero x, fun x => absurd rfl x,
    fun _ x => (by cases x), fun _ x => (by cases x)⟩

theorem classOk_waiting : ClassOk .purge ⟨true, 0, 1, some ⟨3, .purge 3 .request 0 0⟩⟩
    (some ⟨⟨3, .purge 3 .request 0 0⟩, 1⟩) :=
  ⟨by decide, by decide, fun _ => rfl, fun x => (by cases x), fun x => absurd rfl x,
    fun _ x => (by cases x; rfl), fun _ x => (by cases x; decide)⟩

theorem test_witness_NoticesAreKept : full.NoticesOk ∧ ∃ t, exec (.frameSent .front) full = .next t := by
  refine ⟨fun k => ?_, _, rfl⟩
  cases k
  · exact classOk_unused .trip 1 (by decide)
  · exact classOk_unused .keyfault 1 (by decide)
  · exact classOk_waiting
  · exact classOk_unused .migrate 0 (by decide)
  · exact classOk_unused .discard 1 (by decide)

theorem test_witness_ReservationsAreKept :
    (full.ReservationsOk ∧ (purging 9 1).ReservationsOk) ∧ ∃ t, exec (.frameSent .front) full = .next t :=
  ⟨⟨⟨by decide +kernel, by decide +kernel, fun h => (by cases h)⟩,
    ⟨by decide +kernel, by decide +kernel, fun h => (by cases h)⟩⟩, _, rfl⟩

theorem opened_places (id : CtxId) :
    opened.donePlaces[id] = (if id = 5 ∨ id = 6 then .reserved else .idle) ∧
    opened.endPlaces[id] = (if id = 5 then .reserved else .idle) := by
  revert id; decide +kernel

theorem test_witness_PlacesAreKept : opened.PlacesOk ∧ ∃ t, exec (.abort 5) opened = .next t := by
  refine ⟨⟨by decide +kernel, by decide +kernel, fun id => ?_⟩, _, rfl⟩
  obtain ⟨hd, he⟩ := opened_places id
  have hc := opened_contexts id
  refine ⟨?_, ?_, ?_, ?_⟩
  · rw [hd, hc]
    by_cases h5 : id = 5
    · simp [h5]
    · by_cases h6 : id = 6 <;> simp [h5, h6]
  · rw [he, hc]
    by_cases h5 : id = 5
    · simp [h5, writeRecord]
    · by_cases h6 : id = 6 <;> simp [h5, h6, readRecord]
  · rw [hd, show opened.frontQueue = [] from rfl]
    split_ifs <;> first | rfl | contradiction
  · rw [he, show opened.backQueue = [] from rfl]
    split_ifs <;> first | rfl | contradiction

theorem migrating_counts : migrating.CountsOk :=
  ⟨show ∀ (i : BandId), ∀ b ∈ migrating.bands[i], b.openCount = (migrating.naming i).length by decide +kernel,
    by decide +kernel, by decide +kernel⟩

theorem test_witness_CountsAreKept : migrating.CountsOk ∧ ∃ t, exec (.abort 5) migrating = .next t :=
  ⟨migrating_counts, _, rfl⟩

theorem test_witness_RecordsAreKept : opened.RecordsOk ∧ ∃ t, exec (.data .front 5 [1]) opened = .next t := by
  refine ⟨fun id c h => ?_, _, rfl⟩
  rw [opened_contexts] at h
  split_ifs at h
  · exact Option.some.inj h ▸ writeRecord_ok
  · exact Option.some.inj h ▸ readRecord_ok

theorem test_witness_LinesLifeAndPowerAreKept :
    opened.LinesOk ∧ State.reset.PrepareOk ∧ (off true).PowerOk ∧ (off true).porstLine = true ∧
    ∃ t, exec .plockDeassert (off true) = .next t := by
  refine ⟨⟨fun h => (by cases h), fun _ => ⟨rfl, rfl⟩, fun h => (by cases h)⟩, fun _ => by decide +kernel,
    fun _ => rfl, rfl, _, rfl⟩

theorem test_witness_LayoutIsKept : migrating.LayoutOk ∧ ∃ t, exec (.abort 5) migrating = .next t :=
  ⟨migrating_layout, _, rfl⟩

theorem migrating_keys : migrating.KeysOk := by
  refine ⟨fun i b h => ?_, fun id c k h hk => ?_⟩
  · rcases migrating_entries i b h with ⟨rfl, rfl⟩ | ⟨rfl, rfl⟩
    · exact ⟨fun x hx => (by cases hx; decide +kernel), fun r hr => (by cases hr; decide +kernel),
        fun k hk => (by cases hk)⟩
    · exact ⟨fun x hx => (by cases hx; decide +kernel), fun r hr => (by cases hr), fun k hk => (by cases hk)⟩
  · change opened.contexts[id] = some c at h
    rw [opened_contexts] at h
    split_ifs at h
    · cases Option.some.inj h
      exact (show ∀ k : SlotId, writeRecord.holds k = true → (migrating.slots[k]).state.lendable = true by
        decide +kernel) k hk
    · cases Option.some.inj h
      exact (show ∀ k : SlotId, readRecord.holds k = true → (migrating.slots[k]).state.lendable = true by
        decide +kernel) k hk

theorem test_witness_KeysAreKept :
    migrating.CountsOk ∧ migrating.KeysOk ∧ ∃ t, exec (.keyPurge 1 (.fields 0)) migrating = .next t :=
  ⟨migrating_counts, migrating_keys, _, rfl⟩

theorem migrating_watermarks : migrating.WatermarksOk := by
  refine ⟨fun i b r h hr => ?_, fun i b target generation owed h hp => ?_, fun id c h hm => ?_⟩
  · rcases migrating_entries i b h with ⟨rfl, rfl⟩ | ⟨rfl, rfl⟩
    · cases hr
      exact ⟨rfl, by decide, by decide, fun _ => by decide +kernel⟩
    · cases hr
  · rcases migrating_entries i b h with ⟨rfl, rfl⟩ | ⟨rfl, rfl⟩ <;> cases hp
  · change opened.contexts[id] = some c at h
    rw [opened_contexts] at h
    split_ifs at h <;> cases Option.some.inj h <;> cases hm

theorem test_witness_WatermarksAreKept :
    migrating.CountsOk ∧ migrating.LayoutOk ∧ migrating.WatermarksOk ∧
    ∃ t, exec (.linkrstAssert) migrating = .next t :=
  ⟨migrating_counts, migrating_layout, migrating_watermarks, _, rfl⟩

end Sys2Proof.Tests
end

/-! PROOFS. The sector cipher (R4, R5, R9 to R11, R13 to R15): what one byte, one unit of bytes and a whole sector
release, and what stands at each offset of a sector's output. -/

namespace Sys2Proof.Machine

/-! ### Sizes -/

@[simp] theorem blockBytes_length (x : Block) : (blockBytes x).length = 16 := rfl

/-- R5: the ciphered length is the full blocks and the tail. -/
theorem cipheredLength_eq (f : Format) (m : MetaMode) : cipheredLength f m = 16 * fullBlocks f m + tailBytes f m :=
  (Nat.div_add_mod _ 16).symm

theorem fullBlocks_pos (f : Format) (m : MetaMode) : 0 < fullBlocks f m := by
  cases f <;> cases m <;> decide

theorem tailBytes_eq_zero_or_eight (f : Format) (m : MetaMode) : tailBytes f m = 0 ∨ tailBytes f m = 8 := by
  cases f <;> cases m <;> decide

theorem cipheredLength_le_sectorBytes (f : Format) (m : MetaMode) : cipheredLength f m ≤ f.sectorBytes := by
  cases m
  case ciphered => exact Nat.le_refl _
  case clear => exact Nat.le_add_right _ _

/-! ### Stealing -/

/-- The mask of the stolen block, from M(n - 1): M(n) on the write path (R10), M(n - 1) on the read path (R11). -/
def stolenMask (mask : Block) : Direction → Block
  | .write => double mask
  | .read => mask

/-- What stealing releases is the stolen block, then the held block's first bytes in the tail's place. -/
theorem stealRelease_eq (dir : Direction) (k1 : BitVec 256) (mask held : Block) (tail : List Byte) :
    stealRelease dir k1 mask held tail =
      blockBytes (cipherBlock dir k1 (stolenMask mask dir) (blockOf (tail ++ (blockBytes held).drop tail.length))) ++
        (blockBytes held).take tail.length := by
  cases dir <;> rfl

theorem stealRelease_length (dir : Direction) (k1 : BitVec 256) (mask held : Block) (tail : List Byte)
    (h : tail.length ≤ 16) : (stealRelease dir k1 mask held tail).length = 16 + tail.length := by
  simp [stealRelease_eq, h]

/-! ### One byte -/

/-- How many bytes a sector in progress gathers before it acts on them: a block, or the tail; none at a boundary. -/
def Progress.unitBytes (f : Format) (m : MetaMode) : Progress → Nat
  | .boundary => 0
  | .insector .. => 16
  | .tailing .. => tailBytes f m

section Feed

variable {dir : Direction} {f : Format} {m : MetaMode} {offset j : Nat} {residue bytes : List Byte} {b : Byte}
  {slot : SlotId} {k1 : BitVec 256} {mask held : Block}

/-- A clear byte is released as it is. -/
theorem placeByte_clear (p : Progress) (h : cipheredLength f m ≤ offset) :
    placeByte dir f m offset residue p b = ⟨residue, p, [b]⟩ := if_pos h

/-- A byte that leaves its unit incomplete joins the residue. -/
theorem placeByte_gather (p : Progress) (h : offset < cipheredLength f m)
    (hlen : residue.length + 1 < p.unitBytes f m) :
    placeByte dir f m offset residue p b = ⟨residue ++ [b], p, []⟩ := by
  have hres : (residue ++ [b]).length < p.unitBytes f m := by simpa using hlen
  rw [placeByte, if_neg (Nat.not_le.mpr h)]
  cases p with
  | boundary => rfl
  | insector => exact if_pos hres
  | tailing => exact if_pos hres

/-- A byte that completes a block before the last one releases it (R9) and moves to the next mask (R8). -/
theorem placeByte_normal (h : offset < cipheredLength f m) (hlen : residue.length + 1 = 16)
    (hj : j + 1 < fullBlocks f m) :
    placeByte dir f m offset residue (.insector slot k1 j mask) b =
      ⟨[], .insector slot k1 (j + 1) (double mask),
        blockBytes (cipherBlock dir k1 mask (blockOf (residue ++ [b])))⟩ := by
  simp [placeByte, Nat.not_le.mpr h, hlen, hj]

/-- A byte that completes the last block of a sector without a tail releases it as a normal block (R9). -/
theorem placeByte_last (h : offset < cipheredLength f m) (hlen : residue.length + 1 = 16)
    (hj : j + 1 = fullBlocks f m) (hr : tailBytes f m = 0) :
    placeByte dir f m offset residue (.insector slot k1 j mask) b =
      ⟨[], .insector slot k1 j mask, blockBytes (cipherBlock dir k1 mask (blockOf (residue ++ [b])))⟩ := by
  simp [placeByte, Nat.not_le.mpr h, hlen, hj, hr]

/-- A byte that completes the last block of a sector with a tail releases nothing: the block is held (R10, R11). -/
theorem placeByte_hold (h : offset < cipheredLength f m) (hlen : residue.length + 1 = 16)
    (hj : j + 1 = fullBlocks f m) (hr : tailBytes f m ≠ 0) :
    placeByte dir f m offset residue (.insector slot k1 j mask) b =
      ⟨[], .tailing slot k1 j mask (stealHold dir k1 mask (blockOf (residue ++ [b]))), []⟩ := by
  simp [placeByte, Nat.not_le.mpr h, hlen, hj, hr]

/-- The byte that completes the tail releases the stolen block and the tail (R10, R11). -/
theorem placeByte_tail (h : offset < cipheredLength f m) (hlen : residue.length + 1 = tailBytes f m) :
    placeByte dir f m offset residue (.tailing slot k1 j mask held) b =
      ⟨[], .boundary, stealRelease dir k1 mask held (residue ++ [b])⟩ := by
  simp [placeByte, Nat.not_le.mpr h, hlen]

/-! ### A run of bytes -/

/-- Clear bytes pass as they are. -/
theorem feed_clear (p : Progress) (h : cipheredLength f m ≤ offset) :
    feed dir f m offset residue p bytes = bytes := by
  induction bytes generalizing offset with
  | nil => rfl
  | cons b bs ih =>
    rw [feed, placeByte_clear p h]
    exact congrArg (b :: ·) (ih (Nat.le_succ_of_le h))

/-- Bytes that leave their unit incomplete release nothing and join the residue. -/
theorem feed_gather (p : Progress) (xs ys : List Byte) (h : offset + xs.length ≤ cipheredLength f m)
    (hlen : residue.length + xs.length < p.unitBytes f m) :
    feed dir f m offset residue p (xs ++ ys) = feed dir f m (offset + xs.length) (residue ++ xs) p ys := by
  induction xs generalizing offset residue with
  | nil => simp
  | cons x xs ih =>
    simp only [List.length_cons] at h hlen
    rw [List.cons_append, feed, placeByte_gather p (by omega) (by omega), List.nil_append,
      ih (by omega) (by simp; omega)]
    simp [Nat.add_assoc, Nat.add_comm 1]

/-- A whole unit of bytes releases what its last byte does. -/
theorem feed_unit (p : Progress) {q : Placed} {k : Nat} (hunit : p.unitBytes f m = k + 1) (hk : k < bytes.length)
    (h : offset + k < cipheredLength f m) (hq : placeByte dir f m (offset + k) (bytes.take k) p bytes[k] = q) :
    feed dir f m offset [] p bytes =
      q.released ++ feed dir f m (offset + (k + 1)) q.residue q.progress (bytes.drop (k + 1)) := by
  have hlen : (bytes.take k).length = k := List.length_take_of_le hk.le
  calc feed dir f m offset [] p bytes
      = feed dir f m offset [] p (bytes.take k ++ bytes[k] :: bytes.drop (k + 1)) := by
        rw [← List.drop_eq_getElem_cons, List.take_append_drop]
    _ = feed dir f m (offset + k) (bytes.take k) p (bytes[k] :: bytes.drop (k + 1)) := by
        rw [feed_gather p _ _ (by omega) (by simp; omega), hlen, List.nil_append]
    _ = _ := by rw [feed, hq, Nat.add_assoc]

/-- Sixteen bytes of a block before the last one release it, and the next block begins under the next mask. -/
theorem feed_normal (hlen : 16 ≤ bytes.length) (h : offset + 16 ≤ cipheredLength f m)
    (hj : j + 1 < fullBlocks f m) :
    feed dir f m offset [] (.insector slot k1 j mask) bytes =
      blockBytes (cipherBlock dir k1 mask (blockOf (bytes.take 16))) ++
        feed dir f m (offset + 16) [] (.insector slot k1 (j + 1) (double mask)) (bytes.drop 16) := by
  rw [feed_unit (k := 15) _ rfl hlen h (placeByte_normal h (by simp; omega) hj), List.take_append_getElem]

/-- Sixteen bytes of the last block of a sector without a tail release it. -/
theorem feed_last (hlen : 16 ≤ bytes.length) (h : offset + 16 ≤ cipheredLength f m) (hj : j + 1 = fullBlocks f m)
    (hr : tailBytes f m = 0) :
    feed dir f m offset [] (.insector slot k1 j mask) bytes =
      blockBytes (cipherBlock dir k1 mask (blockOf (bytes.take 16))) ++
        feed dir f m (offset + 16) [] (.insector slot k1 j mask) (bytes.drop 16) := by
  rw [feed_unit (k := 15) _ rfl hlen h (placeByte_last h (by simp; omega) hj hr), List.take_append_getElem]

/-- Sixteen bytes of the last block of a sector with a tail are held. -/
theorem feed_hold (hlen : 16 ≤ bytes.length) (h : offset + 16 ≤ cipheredLength f m) (hj : j + 1 = fullBlocks f m)
    (hr : tailBytes f m ≠ 0) :
    feed dir f m offset [] (.insector slot k1 j mask) bytes =
      feed dir f m (offset + 16) [] (.tailing slot k1 j mask (stealHold dir k1 mask (blockOf (bytes.take 16))))
        (bytes.drop 16) := by
  rw [feed_unit (k := 15) _ rfl hlen h (placeByte_hold h (by simp; omega) hj hr), List.take_append_getElem,
    List.nil_append]

/-- The tail releases the stolen block and itself; what follows is clear. -/
theorem feed_tail (hr : 0 < tailBytes f m) (hlen : tailBytes f m ≤ bytes.length)
    (h : offset + tailBytes f m = cipheredLength f m) :
    feed dir f m offset [] (.tailing slot k1 j mask held) bytes =
      stealRelease dir k1 mask held (bytes.take (tailBytes f m)) ++ bytes.drop (tailBytes f m) := by
  obtain ⟨k, hk⟩ : ∃ k, tailBytes f m = k + 1 := Nat.exists_eq_succ_of_ne_zero hr.ne'
  rw [feed_unit (.tailing slot k1 j mask held) hk (by omega) (by omega) (placeByte_tail (by omega) (by simp; omega)),
    List.take_append_getElem, feed_clear _ (by omega), hk]

/-! ### A whole sector -/

section Sector

variable {k2 : BitVec 256} {t : Block} {masks : Nat → Block} (h0 : masks 0 = firstMask k2 t)
  (hs : ∀ j, masks (j + 1) = double (masks j)) (hlen : bytes.length = f.sectorBytes)
include h0 hs hlen

/-- From offset 16j on, the output of a sector is what block j and the bytes after it release under the mask M(j):
the blocks before it stand at their own offsets. -/
theorem cipherSector_drop (hj : j < fullBlocks f m) :
    (cipherSector dir f m k1 k2 t bytes).drop (16 * j) =
      feed dir f m (16 * j) [] (.insector 0 k1 j (masks j)) (bytes.drop (16 * j)) := by
  induction j with
  | zero => rw [h0]; rfl
  | succ j ih =>
    have hle := cipheredLength_le_sectorBytes f m
    have hLc := cipheredLength_eq f m
    rw [Nat.mul_succ, ← List.drop_drop, ih (by omega), feed_normal (by simp; omega) (by omega) hj,
      List.drop_left' (blockBytes_length _), List.drop_drop, hs]

/-- From the last block on, the output of a sector without a tail is that block and the clear bytes. -/
theorem cipherSector_drop_last (hr : tailBytes f m = 0) (hj : j + 1 = fullBlocks f m) :
    (cipherSector dir f m k1 k2 t bytes).drop (16 * j) =
      blockBytes (cipherBlock dir k1 (masks j) (blockOf ((bytes.drop (16 * j)).take 16))) ++
        bytes.drop (cipheredLength f m) := by
  have hle := cipheredLength_le_sectorBytes f m
  have hLc : cipheredLength f m = 16 * j + 16 := by rw [cipheredLength_eq, hr, ← hj]; rfl
  rw [cipherSector_drop h0 hs hlen (by omega), feed_last (by simp; omega) hLc.ge hj hr, feed_clear _ hLc.le,
    List.drop_drop, hLc]

/-- Each normal block of the output stands at its own offset (R9). -/
theorem cipherSector_normal (hj : j + 1 < fullBlocks f m ∨ (tailBytes f m = 0 ∧ j < fullBlocks f m)) :
    ((cipherSector dir f m k1 k2 t bytes).drop (16 * j)).take 16 =
      blockBytes (cipherBlock dir k1 (masks j) (blockOf ((bytes.drop (16 * j)).take 16))) := by
  have hle := cipheredLength_le_sectorBytes f m
  have hLc := cipheredLength_eq f m
  by_cases hnext : j + 1 < fullBlocks f m
  · rw [cipherSector_drop h0 hs hlen (by omega), feed_normal (by simp; omega) (by omega) hnext,
      List.take_left' (blockBytes_length _)]
  · rw [cipherSector_drop_last h0 hs hlen (by omega) (by omega), List.take_left' (blockBytes_length _)]

/-- From block n - 1 on, the output of a sector with a tail is that block and the tail, stolen, and the clear bytes
(R10, R11). -/
theorem cipherSector_drop_stolen (hr : tailBytes f m ≠ 0) (hj : j + 1 = fullBlocks f m) :
    (cipherSector dir f m k1 k2 t bytes).drop (16 * j) =
      stealRelease dir k1 (masks j) (stealHold dir k1 (masks j) (blockOf ((bytes.drop (16 * j)).take 16)))
          ((bytes.drop (16 * (j + 1))).take (tailBytes f m)) ++
        bytes.drop (cipheredLength f m) := by
  have hle := cipheredLength_le_sectorBytes f m
  have hLc : cipheredLength f m = 16 * (j + 1) + tailBytes f m := hj ▸ cipheredLength_eq f m
  rw [cipherSector_drop h0 hs hlen (by omega), feed_hold (by simp; omega) (by omega) hj hr,
    feed_tail (by omega) (by simp; omega) (by omega), List.drop_drop, List.drop_drop, ← Nat.mul_succ, hLc]

/-- Clear bytes of a sector pass as they are, at their own offsets. -/
theorem cipherSector_clear :
    (cipherSector dir f m k1 k2 t bytes).drop (cipheredLength f m) = bytes.drop (cipheredLength f m) := by
  have hle := cipheredLength_le_sectorBytes f m
  obtain ⟨j, hj⟩ : ∃ j, fullBlocks f m = j + 1 := Nat.exists_eq_succ_of_ne_zero (fullBlocks_pos f m).ne'
  have hLc : cipheredLength f m = 16 * j + (16 + tailBytes f m) := by rw [cipheredLength_eq, hj]; omega
  conv_lhs => rw [hLc, ← List.drop_drop]
  by_cases hr : tailBytes f m = 0
  · rw [cipherSector_drop_last h0 hs hlen hr hj.symm, List.drop_left' (by simp [hr])]
  · have htail : ((bytes.drop (16 * (j + 1))).take (tailBytes f m)).length = tailBytes f m := by simp; omega
    have h8 := tailBytes_eq_zero_or_eight f m
    rw [cipherSector_drop_stolen h0 hs hlen hr hj.symm,
      List.drop_left' (by rw [stealRelease_length _ _ _ _ _ (by omega), htail])]

end Sector

end Feed

/-- Settles O8: each clause is the output from one offset on, read at that offset. -/
theorem sectorsAreCipheredBlockByBlock : Obligations.SectorsAreCipheredBlockByBlock := by
  rintro dir f m k1 k2 t bytes _ _ mask hlen rfl rfl h0 hs
  refine ⟨?normal, ?stolen, cipherSector_clear h0 hs hlen⟩
  case normal =>
    rintro j _ hj rfl
    rw [cipherSector_normal h0 hs hlen hj]
    cases dir <;> rfl
  case stolen =>
    intro hr
    obtain ⟨j, hj⟩ : ∃ j, fullBlocks f m = j + 1 := Nat.exists_eq_succ_of_ne_zero (fullBlocks_pos f m).ne'
    have hle := cipheredLength_le_sectorBytes f m
    have hLc := cipheredLength_eq f m
    have hout := cipherSector_drop_stolen (dir := dir) (k1 := k1) h0 hs hlen (by omega) hj.symm
    have htail : ((bytes.drop (16 * (j + 1))).take 8).length = 8 := by simp; omega
    rw [hj, Nat.add_sub_cancel, hs]
    rintro _ held _ rfl hheld rfl
    have hhold : stealHold dir k1 (mask j) (blockOf ((bytes.drop (16 * j)).take 16)) = held := by
      rw [hheld]; cases dir <;> rfl
    rw [hhold, stealRelease_eq, hr, htail, List.append_assoc] at hout
    constructor
    · rw [hout, List.take_left' (blockBytes_length _)]
      cases dir <;> rfl
    · rw [Nat.mul_succ, ← List.drop_drop, hout, List.drop_left' (blockBytes_length _), List.take_left' (by simp)]

end Sys2Proof.Machine

/-! PROOFS. The third and fourth checks of an OPEN (R17, R26): an OPEN that stands at an open lane and can be taken
answers a refusal exactly where its checks give that status, so each clause is a fact about the checks alone. -/

namespace Sys2Proof.Machine

/-! ### The namespace byte and the namespace's size -/

theorem nsOf_eq_none_iff (b : Byte) : nsOf b = none ↔ b.toNat = 0 ∨ 9 ≤ b.toNat := by
  simp only [nsOf, dite_eq_right_iff, reduceCtorEq, imp_false]
  omega

theorem val_of_nsOf {b : Byte} {ns : Ns} (h : nsOf b = some ns) : ns.val = b.toNat - 1 := by
  simp only [nsOf, Option.dite_none_right_eq_some, Option.some.injEq] at h
  obtain ⟨_, rfl⟩ := h
  rfl

theorem namespaceSize_of_unused {s : State} {ns : Ns} (h : s.bands[baseBand ns] = none) :
    s.namespaceSize ns = none := by
  simp [State.namespaceSize, h]

theorem namespaceSize_of_base {s : State} {ns : Ns} {b : Band} {size : Nat} {f : Format} {m : MetaMode}
    (h : s.bands[baseBand ns] = some b) (he : b.fields.extent = .base size f m) :
    s.namespaceSize ns = some size := by
  simp [State.namespaceSize, h, he]

/-! ### The statuses of the fifth check -/

/-- A table answers one of its own statuses. -/
theorem mem_of_firstFailing {σ : Type} {checks : List (Bool × σ)} {status : σ}
    (h : firstFailing checks = some status) : status ∈ checks.map Prod.snd := by
  induction checks with
  | nil => cases h
  | cons check rest ih =>
    obtain ⟨fails, st⟩ := check
    cases fails with
    | true => exact Option.some.inj h ▸ List.mem_cons_self
    | false => exact List.mem_cons_of_mem _ (ih h)

theorem spansRefusal_mem {s : State} {dir : Direction} {spans : List Span} {status : TransferStatus}
    (h : s.spansRefusal dir spans = some status) :
    status ∈ [TransferStatus.bandChanging, .noKey, .keyFault, .locked, .powerHold] := by
  obtain ⟨g, _, hg⟩ := List.exists_of_findSome?_eq_some h
  obtain ⟨b, _, hb⟩ := Option.bind_eq_some_iff.1 hg
  exact mem_of_firstFailing hb

/-! ### The ordered checks, past the first two -/

section Checks

variable {s : State} {id : CtxId} {dir : Direction} {migrate : Bool} {first count : Nat}
  (hlife : s.life = .online) (hfree : s.contexts[id] = none)
include hlife hfree

theorem openRefusal_of_noNamespace : s.openRefusal id dir migrate none first count = some .noNamespace := by
  simp [State.openRefusal, hlife, hfree]

theorem openRefusal_of_unused {ns : Ns} (h : s.namespaceSize ns = none) :
    s.openRefusal id dir migrate (some ns) first count = some .noNamespace := by
  simp [State.openRefusal, hlife, hfree, h]

theorem openRefusal_of_outOfRange {ns : Ns} {size : Nat} (h : s.namespaceSize ns = some size)
    (hrange : size < first + count) :
    s.openRefusal id dir migrate (some ns) first count = some .outOfRange := by
  simp [State.openRefusal, hlife, hfree, h, hrange]

/-- A range inside its namespace leaves the statuses of the fifth and the sixth check (R27, R28). -/
theorem openRefusal_mem_of_inside {ns : Ns} {size : Nat} {status : TransferStatus}
    (h : s.namespaceSize ns = some size) (hrange : first + count ≤ size)
    (hr : s.openRefusal id dir migrate (some ns) first count = some status) :
    status ∈ [TransferStatus.bandChanging, .noKey, .keyFault, .locked, .powerHold, .migrateOrder] := by
  simp only [State.openRefusal, hlife, hfree, h, hrange.not_gt, reduceCtorEq, Option.isSome_none,
    Bool.false_eq_true, if_false] at hr
  cases hs : s.spansRefusal dir (s.spans ns first count) with
  | some st =>
    rw [hs] at hr
    exact List.mem_append_left [TransferStatus.migrateOrder] (spansRefusal_mem (hs.trans hr))
  | none =>
    rw [hs] at hr
    obtain ⟨_, hmigrate⟩ := Option.ite_none_right_eq_some.1 hr
    cases hmigrate
    decide

end Checks

/-! ### An OPEN that is taken -/

@[simp] theorem acceptContext_frontQueue (s : State) (id : CtxId) (c : Context) :
    (s.acceptContext id c).frontQueue = s.frontQueue := rfl

section Taken

variable {s : State} {ctx : Byte} {id : CtxId} {dir : Direction} {flags nsByte : Byte} {first : BitVec 48}
  {count : BitVec 16}

theorem exec_openFrame (hlane : s.holdLine .front = false) (htake : s.openTakeable ctx = true) :
    exec (.openFrame ctx dir flags nsByte first count) s = .next (takeOpen ctx dir flags nsByte first count s) :=
  congrArg Host.Outcome.next (present_of_takeable s (.openFrame ctx dir flags nsByte first count) hlane htake)

theorem takeOpen_refused {status : TransferStatus} (hid : ctxOf ctx = some id)
    (h : s.openRefusal id dir (flags.getLsbD 0) (nsOf nsByte) first.toNat (count.toNat + 1) = some status) :
    takeOpen ctx dir flags nsByte first count s = s.appendFront (.refusal id status) := by
  simp only [takeOpen, hid, h]

theorem takeOpen_frontQueue_of_passed (hid : ctxOf ctx = some id)
    (h : s.openRefusal id dir (flags.getLsbD 0) (nsOf nsByte) first.toNat (count.toNat + 1) = none) :
    (takeOpen ctx dir flags nsByte first count s).frontQueue = s.frontQueue := by
  simp only [takeOpen, hid, h]
  cases nsOf nsByte with
  | none => rfl
  | some ns => exact acceptContext_frontQueue s id _

/-- A taken OPEN answers a refusal exactly where its checks give that status: an accepted one appends nothing to
front-out (R24, R30). -/
theorem exec_openFrame_eq_refusal_iff (hid : ctxOf ctx = some id) (hlane : s.holdLine .front = false)
    (htake : s.openTakeable ctx = true) (status : TransferStatus) :
    exec (.openFrame ctx dir flags nsByte first count) s =
        .next { s with frontQueue := s.frontQueue ++ [.refusal id status] } ↔
      s.openRefusal id dir (flags.getLsbD 0) (nsOf nsByte) first.toNat (count.toNat + 1) = some status := by
  rw [exec_openFrame hlane htake, Host.Outcome.next.injEq]
  constructor
  · intro heq
    have hqueue := congrArg State.frontQueue heq
    cases h : s.openRefusal id dir (flags.getLsbD 0) (nsOf nsByte) first.toNat (count.toNat + 1) with
    | none => simp [takeOpen_frontQueue_of_passed hid h] at hqueue
    | some st => simpa [takeOpen_refused hid h] using hqueue
  · exact takeOpen_refused hid

end Taken

/-- Settles O18: each clause is read off the checks, through what a taken OPEN answers. -/
theorem openNeedsANamespaceAndARange : Obligations.OpenNeedsANamespaceAndARange := by
  intro s ctx id dir flags nsByte first count hid hlane htake hlife hfree
  have hiff := exec_openFrame_eq_refusal_iff (dir := dir) (flags := flags) (nsByte := nsByte) (first := first)
    (count := count) hid hlane htake
  simp only [ne_eq, hiff]
  refine ⟨nsOf_eq_none_iff nsByte, fun ns hns => val_of_nsOf hns, ?outside, ?unused, ?active⟩
  case outside =>
    intro hbyte
    rw [(nsOf_eq_none_iff nsByte).2 hbyte]
    exact openRefusal_of_noNamespace hlife hfree
  case unused =>
    intro ns hns hbase
    rw [hns]
    exact openRefusal_of_unused hlife hfree (namespaceSize_of_unused hbase)
  case active =>
    intro ns b size f m hns hbase hextent
    have hsize := namespaceSize_of_base hbase hextent
    rw [hns]
    refine ⟨openRefusal_of_outOfRange hlife hfree hsize, fun hrange => ⟨fun h => ?_, fun h => ?_⟩⟩
    · exact absurd (openRefusal_mem_of_inside hlife hfree hsize hrange h) (by decide)
    · exact absurd (openRefusal_mem_of_inside hlife hfree hsize hrange h) (by decide)

end Sys2Proof.Machine

/-! PROOFS. The fifth check of a base band's BAND-SET (R59, R62): a BAND-SET that can be taken answers a refusal exactly
where its checks give that status; for a base band no earlier check gives OUT_OF_RANGE and no later one does, so that
status is the fifth check's alone. -/

namespace Sys2Proof.Machine

/-! ### The extents that locking bands claim -/

/-- A search of the table for a locking extent finds exactly a claim of some entry. -/
theorem anyLocking_eq_true_iff (s : State) (ns : Ns) (p : Nat × Nat → Bool) :
    s.anyLocking ns none p = true ↔
      ∃ (j : BandId) (b : Band) (e : Nat × Nat), s.bands[j] = some b ∧ b.claims ns e ∧ p e = true := by
  have hentry (b : Band) : ((b.presentLocking ns).any p || (b.stagedLocking ns).any p) = true ↔
      ∃ e, b.claims ns e ∧ p e = true := by
    simp [Band.claims, Option.any_eq_true, or_and_right, exists_or]
  simp only [State.anyLocking, List.any_eq_true, List.mem_finRange, true_and]
  refine exists_congr fun j => ?_
  cases hj : s.bands[j] with
  | none => simp
  | some b => simpa using hentry b

/-- The fifth check in terms of claims: UNUSED strands every claim on the namespace, a size those that end past it. -/
theorem strands_baseBand_iff (s : State) (ns : Ns) (new : Option BandFields) :
    s.strands (baseBand ns) new = true ↔
      ∃ (j : BandId) (b : Band) (e : Nat × Nat), s.bands[j] = some b ∧ b.claims ns e ∧
        ∀ g, new = some g → g.extent.endLba < e.2 + 1 := by
  have hns : (baseBand ns).val < 8 := ns.isLt
  rw [State.strands, dif_pos hns]
  cases new with
  | none => exact (anyLocking_eq_true_iff s ns _).trans (by simp)
  | some g => exact (anyLocking_eq_true_iff s ns _).trans (by simp)

/-! ### The kind of extent a BAND-SET carries -/

theorem extentOf_isBaseExtent {i : BandId} {f : BandSetFields} {x : Extent} (h : extentOf i f = some x) :
    x.isBaseExtent = isBase i := by
  unfold extentOf at h
  split at h
  case isTrue hbase =>
    split at h
    · obtain ⟨_, h⟩ := Option.ite_none_left_eq_some.1 h
      cases h
      exact hbase.symm
    · cases h
  case isFalse hlocking =>
    split at h
    · obtain ⟨_, h⟩ := Option.ite_none_left_eq_some.1 h
      cases h
      exact (Bool.eq_false_of_not_eq_true hlocking).symm
    · cases h

theorem bandFieldsOf_extent {i : BandId} {f : BandSetFields} {g : BandFields} (h : bandFieldsOf i f = some g) :
    extentOf i f = some g.extent := by
  unfold bandFieldsOf at h
  split at h
  · cases h
    assumption
  · cases h

/-- A BAND-SET to ACTIVE gives a base band a base band's extent and a locking band a locking band's (R51, R59). -/
theorem bandSetOf_isBaseExtent {f : BandSetFields} {i : BandId} {g : BandFields}
    (h : bandSetOf f = some (i, some g)) : g.extent.isBaseExtent = isBase i := by
  unfold bandSetOf at h
  split at h
  · cases h
  · split at h
    · cases h
    · obtain ⟨fields, hfields, heq⟩ := Option.map_eq_some_iff.1 h
      cases heq
      exact extentOf_isBaseExtent (bandFieldsOf_extent hfields)
    · cases h

/-! ### The ordered checks for a base band -/

/-- Without a staged change and a record, and without a locking extent to place, the fifth check is the first that can
fail. -/
theorem bandSetRefusal_of_base {s : State} {i : BandId} {new : Option BandFields}
    (hfree : ∀ b, s.bands[i] = some b → b.pending = none ∧ b.migration = none)
    (hbase : ∀ g, new = some g → g.extent.isBaseExtent = true) :
    s.bandSetRefusal i new = firstFailing [
      (s.strands i new, .outOfRange),
      ((new.bind (·.binding)).any fun x => !(s.slots[x.slot]).isReady, .notReady),
      ((new.bind (·.binding)).any fun x => (s.slots[x.slot]).generation != x.generation, .genMismatch),
      (new.any fun f => s.clearsGated i f, .tripped)] := by
  have hpending : (s.bands[i]).bind (·.pending) = none := Option.bind_eq_none_iff.2 fun b hb => (hfree b hb).1
  have hmigration : (s.bands[i]).bind (·.migration) = none := Option.bind_eq_none_iff.2 fun b hb => (hfree b hb).2
  cases new with
  | none => simp [State.bandSetRefusal, firstFailing, hpending, hmigration, -Fin.getElem_fin]
  | some g =>
    have hg := hbase g rfl
    cases hx : g.extent with
    | base => simp [State.bandSetRefusal, firstFailing, hpending, hmigration, hx, -Fin.getElem_fin]
    | locking => simp [hx, Extent.isBaseExtent] at hg

/-- The checks after the fifth have other statuses. -/
theorem bandSetRefusal_eq_outOfRange_iff {s : State} {i : BandId} {new : Option BandFields}
    (hfree : ∀ b, s.bands[i] = some b → b.pending = none ∧ b.migration = none)
    (hbase : ∀ g, new = some g → g.extent.isBaseExtent = true) :
    s.bandSetRefusal i new = some .outOfRange ↔ s.strands i new = true := by
  rw [bandSetRefusal_of_base hfree hbase]
  cases s.strands i new with
  | true => exact iff_of_true rfl rfl
  | false =>
    refine iff_of_false (fun h => ?_) Bool.false_ne_true
    rw [firstFailing, if_neg Bool.false_ne_true] at h
    have hmem : ReplyStatus.outOfRange ∈ [ReplyStatus.notReady, .genMismatch, .tripped] := mem_of_firstFailing h
    exact absurd hmem (by decide)

/-! ### The replies of an applied BAND-SET -/

@[simp] theorem report_replies (s : State) (d : Detail) : (s.report d).replies = s.replies :=
  (congrArg State.replies (report_frame s d) :)

@[simp] theorem moveWatermark_replies (s : State) (i : BandId) (w : Nat) (announce : Bool) :
    (s.moveWatermark i w announce).replies = s.replies := by
  unfold State.moveWatermark
  cases s.bands[i] with
  | none => rfl
  | some b =>
    cases hm : b.migration with
    | none => simp [hm]
    | some record => cases announce <;> simp [hm, apply_ite State.replies]

@[simp] theorem replaceWatermark_replies (s : State) (ns : Ns) : (s.replaceWatermark ns).replies = s.replies := by
  unfold State.replaceWatermark
  cases (s.bands[baseBand ns]).bind (·.migration) with
  | none => rfl
  | some record => simp [apply_ite State.replies]

@[simp] theorem applyBandSet_replies (s : State) (i : BandId) (new : Option BandFields) :
    (s.applyBandSet i new).replies = s.replies := by
  cases new with
  | none => rfl
  | some g => cases hx : g.extent <;> simp [State.applyBandSet, hx]

/-! ### A BAND-SET that is taken -/

/-- A request that is taken at an open lane finds no head frame on it. -/
theorem frontHead_of_takesRequests {s : State} (h : s.TakesRequests) : s.frontHead = none := by
  have hlane := h.1
  simp only [State.holdLine, Bool.or_eq_false_iff] at hlane
  obtain ⟨⟨hhead, _⟩, _⟩ := hlane
  simpa using hhead

section Taken

variable {s : State} {tag : Byte} {f : BandSetFields} {i : BandId} {new : Option BandFields}

theorem exec_bandSet (htake : s.TakesRequests) (hback : s.backHead = none) :
    exec (.bandSet tag (.fields f)) s = .next (takeBandSet tag (.fields f) s) :=
  congrArg Host.Outcome.next (presentAndSettle_of_takeable s (.bandSet tag (.fields f)) htake.1
    (decide_eq_true htake.2) (frontHead_of_takesRequests htake) hback)

theorem takeBandSet_refused {status : ReplyStatus} (hf : bandSetOf f = some (i, new))
    (h : s.bandSetRefusal i new = some status) :
    takeBandSet tag (.fields f) s = s.answered tag .bandSet status (.band 0) := by
  simp only [takeBandSet, hf, h]
  rfl

/-- A BAND-SET that passes its checks is staged without a reply or applied with OK (R63). -/
theorem takeBandSet_replies_of_passed (hf : bandSetOf f = some (i, new)) (h : s.bandSetRefusal i new = none) :
    (takeBandSet tag (.fields f) s).replies =
      if s.bandOpen i then s.replies
      else s.replies ++ [⟨tag, RequestCode.bandSet.byte, .ok, .band (bandByte i)⟩] := by
  simp only [takeBandSet, hf, h]
  cases s.bandOpen i with
  | true => rfl
  | false => simp

/-- A taken BAND-SET answers a status other than OK exactly where its checks give it. -/
theorem exec_bandSet_eq_refusal_iff (hf : bandSetOf f = some (i, new)) (htake : s.TakesRequests)
    (hback : s.backHead = none) {status : ReplyStatus} (hstatus : status ≠ .ok) :
    exec (.bandSet tag (.fields f)) s = .next (s.answered tag .bandSet status (.band 0)) ↔
      s.bandSetRefusal i new = some status := by
  rw [exec_bandSet htake hback, Host.Outcome.next.injEq]
  constructor
  · intro heq
    have hreplies : (takeBandSet tag (.fields f) s).replies =
        s.replies ++ [⟨tag, RequestCode.bandSet.byte, status, .band 0⟩] := congrArg State.replies heq
    cases h : s.bandSetRefusal i new with
    | none =>
      rw [takeBandSet_replies_of_passed hf h] at hreplies
      split at hreplies
      · simp at hreplies
      · simp [hstatus.symm] at hreplies
    | some st =>
      rw [takeBandSet_refused hf h] at hreplies
      simpa [State.answered] using hreplies
  · exact takeBandSet_refused hf

end Taken

/-- Settles O39: the refusal is the fifth check's, and that check is the claim past the new size. -/
theorem baseBandKeepsItsLockingBandsInside : Obligations.BaseBandKeepsItsLockingBandsInside := by
  rintro s tag f _ new ns htake hback hf rfl hfree
  have hbase (g : BandFields) (hg : new = some g) : g.extent.isBaseExtent = true := by
    subst hg
    exact (bandSetOf_isBaseExtent hf).trans (decide_eq_true ns.isLt)
  calc exec (.bandSet tag (.fields f)) s = .next (s.answered tag .bandSet .outOfRange (.band 0))
      ↔ s.bandSetRefusal (baseBand ns) new = some .outOfRange :=
        exec_bandSet_eq_refusal_iff hf htake hback (by decide)
    _ ↔ s.strands (baseBand ns) new = true := bandSetRefusal_eq_outOfRange_iff hfree hbase
    _ ↔ _ := strands_baseBand_iff s ns new

end Sys2Proof.Machine

/-! PROOFS. What each shared operation leaves alone, beside what Laws/Ops.lean says of every operation: the transfer
unit with the output queues, the key slots, the band table, the notice unit. -/

namespace Sys2Proof.Machine

/-! ### The transfer unit and the output queues -/

/-- The context table and the two output queues with their DONE and END places. -/
def State.transfers (s : State) :
    Vector (Option Context) 64 × List FrontEntry × Vector Place 64 × List BackEntry × Vector Place 64 :=
  (s.contexts, s.frontQueue, s.donePlaces, s.backQueue, s.endPlaces)

theorem contexts_of_transfers {s t : State} (h : t.transfers = s.transfers) : t.contexts = s.contexts :=
  congrArg Prod.fst h

theorem transfers_of_work {s t : State} (hc : t.contexts = s.contexts) (hf : t.frontQueue = s.frontQueue)
    (hd : t.donePlaces = s.donePlaces) (hb : t.backQueue = s.backQueue) (he : t.endPlaces = s.endPlaces) :
    t.transfers = s.transfers := by
  simp [State.transfers, hc, hf, hd, hb, he]

@[simp] theorem report_transfers (s : State) (d : Detail) : (s.report d).transfers = s.transfers := by
  unfold State.report
  dsimp only
  split <;> rfl

@[simp] theorem payReply_transfers (s : State) (owed : Option Byte) (code : RequestCode) (status : ReplyStatus)
    (result : Result) : (s.payReply owed code status result).transfers = s.transfers := by
  cases owed <;> rfl

@[simp] theorem setBand_transfers (s : State) (i : BandId) (b : Option Band) :
    (s.setBand i b).transfers = s.transfers := rfl

@[simp] theorem setSlot_transfers (s : State) (k : SlotId) (v : KeySlot) :
    (s.setSlot k v).transfers = s.transfers := rfl

@[simp] theorem erase_transfers (s : State) (k : SlotId) : (s.erase k).transfers = s.transfers := rfl

@[simp] theorem mapBands_transfers (s : State) (f : BandId → Option Band → Option Band) :
    (s.mapBands f).transfers = s.transfers := rfl

theorem inOrder_transfers {α : Type} (f : α → State → State) (xs : List α) (s : State)
    (h : ∀ a t, (f a t).transfers = t.transfers) : (inOrder f xs s).transfers = s.transfers :=
  inOrder_induct (P := fun t => t.transfers = s.transfers) f xs s (fun a _ t ht => (h a t).trans ht) rfl

theorem inAnyOrder_transfers {α : Type} (f : α → State → State) (xs : List α) (s : State)
    (h : ∀ a t, (f a t).transfers = t.transfers) : (inAnyOrder f xs s).transfers = s.transfers :=
  inAnyOrder_induct (P := fun t => t.transfers = s.transfers) f xs s (fun _ _ ht => ht)
    (fun a _ t ht => (h a t).trans ht) rfl

@[simp] theorem moveWatermark_transfers (s : State) (i : BandId) (w : Nat) (announce : Bool) :
    (s.moveWatermark i w announce).transfers = s.transfers := by
  unfold State.moveWatermark
  repeat' split
  all_goals simp

@[simp] theorem replaceWatermark_transfers (s : State) (ns : Ns) :
    (s.replaceWatermark ns).transfers = s.transfers := by
  unfold State.replaceWatermark
  dsimp only
  repeat' split
  all_goals simp

@[simp] theorem applyBandSet_transfers (s : State) (i : BandId) (new : Option BandFields) :
    (s.applyBandSet i new).transfers = s.transfers := by
  unfold State.applyBandSet
  repeat' split
  all_goals simp

@[simp] theorem applyMigrateStart_transfers (s : State) (i : BandId) (target : SlotId) (generation : BitVec 16) :
    (s.applyMigrateStart i target generation).transfers = s.transfers := by
  unfold State.applyMigrateStart
  split <;> simp

@[simp] theorem applyPending_transfers (s : State) (i : BandId) : (s.applyPending i).transfers = s.transfers := by
  unfold State.applyPending
  repeat' split
  all_goals simp

@[simp] theorem applyIdleChanges_transfers (s : State) : s.applyIdleChanges.transfers = s.transfers :=
  inOrder_transfers _ _ _ fun i t => applyPending_transfers t i

@[simp] theorem dropPending_transfers (s : State) (i : BandId) : (s.dropPending i).transfers = s.transfers := by
  unfold State.dropPending
  repeat' split
  all_goals simp

@[simp] theorem dropNaming_transfers (s : State) (k : SlotId) : (s.dropNaming k).transfers = s.transfers :=
  inOrder_transfers _ _ _ fun i t => by
    repeat' split
    all_goals simp

@[simp] theorem endPurge_transfers (s : State) (k : SlotId) : (s.endPurge k).transfers = s.transfers := by
  unfold State.endPurge
  split <;> simp

@[simp] theorem drainIdle_transfers (s : State) (except : Option SlotId) :
    (s.drainIdle except).transfers = s.transfers :=
  inAnyOrder_transfers _ _ _ fun k t => endPurge_transfers t k

@[simp] theorem settleCuts_transfers (s : State) (deferred : Bool) (except : Option SlotId) :
    (s.settleCuts deferred except).transfers = s.transfers := by
  unfold State.settleCuts
  split <;> simp

@[simp] theorem reportFailed_transfers (s : State) (i : BandId) : (s.reportFailed i).transfers = s.transfers := by
  unfold State.reportFailed
  split <;> simp

@[simp] theorem unbind_transfers (s : State) (k : SlotId) : (s.unbind k).transfers = s.transfers :=
  (mapBands_transfers _ _).trans (inOrder_transfers _ _ _ fun i t => reportFailed_transfers t i)

@[simp] theorem lockBand_transfers (s : State) (i : BandId) : (s.lockBand i).transfers = s.transfers := rfl

@[simp] theorem abandonLoad_transfers (s : State) (k : SlotId) : (s.abandonLoad k).transfers = s.transfers := by
  unfold State.abandonLoad
  split
  · exact payReply_transfers _ _ _ _ _
  · rfl

theorem purgeAllSlot_transfers (holders : SlotId → Nat) (k : SlotId) (s : State) :
    (State.purgeAllSlot holders k s).transfers = s.transfers := by
  unfold State.purgeAllSlot
  split <;> simp

/-! ### The key slots and the band table -/

@[simp] theorem report_slots (s : State) (d : Detail) : (s.report d).slots = s.slots := by
  unfold State.report
  dsimp only
  split <;> rfl

@[simp] theorem report_bands (s : State) (d : Detail) : (s.report d).bands = s.bands := by
  unfold State.report
  dsimp only
  split <;> rfl

@[simp] theorem payReply_slots (s : State) (owed : Option Byte) (code : RequestCode) (status : ReplyStatus)
    (result : Result) : (s.payReply owed code status result).slots = s.slots := by
  cases owed <;> rfl

@[simp] theorem payReply_bands (s : State) (owed : Option Byte) (code : RequestCode) (status : ReplyStatus)
    (result : Result) : (s.payReply owed code status result).bands = s.bands := by
  cases owed <;> rfl

@[simp] theorem moveWatermark_slots (s : State) (i : BandId) (w : Nat) (announce : Bool) :
    (s.moveWatermark i w announce).slots = s.slots := by
  unfold State.moveWatermark
  repeat' split
  all_goals simp

@[simp] theorem replaceWatermark_slots (s : State) (ns : Ns) : (s.replaceWatermark ns).slots = s.slots := by
  unfold State.replaceWatermark
  dsimp only
  repeat' split
  all_goals simp

@[simp] theorem applyBandSet_slots (s : State) (i : BandId) (new : Option BandFields) :
    (s.applyBandSet i new).slots = s.slots := by
  unfold State.applyBandSet
  repeat' split
  all_goals simp

@[simp] theorem applyMigrateStart_slots (s : State) (i : BandId) (target : SlotId) (generation : BitVec 16) :
    (s.applyMigrateStart i target generation).slots = s.slots := by
  unfold State.applyMigrateStart
  split <;> simp

@[simp] theorem applyPending_slots (s : State) (i : BandId) : (s.applyPending i).slots = s.slots := by
  unfold State.applyPending
  repeat' split
  all_goals simp

@[simp] theorem applyIdleChanges_slots (s : State) : s.applyIdleChanges.slots = s.slots :=
  inOrder_induct (P := fun t => t.slots = s.slots) _ _ _ (fun i _ t ht => (applyPending_slots t i).trans ht) rfl

@[simp] theorem dropPending_slots (s : State) (i : BandId) : (s.dropPending i).slots = s.slots := by
  unfold State.dropPending
  repeat' split
  all_goals simp

@[simp] theorem dropNaming_slots (s : State) (k : SlotId) : (s.dropNaming k).slots = s.slots :=
  inOrder_induct (P := fun t => t.slots = s.slots) _ _ _ (fun i _ t ht => by
    split
    · exact ht
    · split
      · exact (dropPending_slots t i).trans ht
      · exact ht) rfl

@[simp] theorem reportFailed_slots (s : State) (i : BandId) : (s.reportFailed i).slots = s.slots := by
  unfold State.reportFailed
  split <;> simp

@[simp] theorem reportFailed_bands (s : State) (i : BandId) : (s.reportFailed i).bands = s.bands := by
  unfold State.reportFailed
  split <;> simp

@[simp] theorem unbind_slots (s : State) (k : SlotId) : (s.unbind k).slots = s.slots :=
  inOrder_induct (P := fun t => t.slots = s.slots) _ _ _ (fun i _ t ht => (reportFailed_slots t i).trans ht) rfl

/-- The unbinding of a slot removes it from every entry. -/
theorem unbind_get (s : State) (k : SlotId) (i : BandId) :
    (s.unbind k).bands[i] = (s.bands[i]).map (·.unbound k) := by
  have h : (inOrder (fun i t => State.reportFailed t i) (s.failing k) s).bands = s.bands :=
    inOrder_induct (P := fun t => t.bands = s.bands) _ _ _ (fun i _ t ht => (reportFailed_bands t i).trans ht) rfl
  unfold State.unbind
  rw [mapBands_get, h]

@[simp] theorem endPurge_bands (s : State) (k : SlotId) : (s.endPurge k).bands = s.bands := by
  unfold State.endPurge
  split
  · simp
  · rfl

@[simp] theorem drainIdle_bands (s : State) (except : Option SlotId) : (s.drainIdle except).bands = s.bands :=
  inAnyOrder_induct (P := fun t => t.bands = s.bands) _ _ _ (fun _ _ ht => ht)
    (fun k _ t ht => (endPurge_bands t k).trans ht) rfl

/-- The end of a purge erases its slot and leaves every other. -/
theorem endPurge_slots_get (s : State) (k j : SlotId) :
    (s.endPurge k).slots[j] =
      if j = k ∧ (s.slots[k]).isPurging = true then { s.slots[k] with holders := 0, state := .empty }
      else s.slots[j] := by
  cases hs : (s.slots[k]).state with
  | purging m a =>
    have hp : (s.slots[k]).isPurging = true := by simp only [KeySlot.isPurging, hs]
    simp only [State.endPurge, hs, report_slots, payReply_slots, State.erase, hp, and_true]
    split
    · rename_i hj
      exact hj ▸ setSlot_get_self s j _
    · rename_i hj
      exact setSlot_get_ne s _ (Ne.symm hj)
  | _ => simp only [State.endPurge, hs, KeySlot.isPurging, Bool.false_eq_true, and_false, if_false]

/-- A slot without holders has none after the end of any purge. -/
theorem endPurge_holders_zero (s : State) (k j : SlotId) (h : (s.slots[j]).holders = 0) :
    ((s.endPurge k).slots[j]).holders = 0 := by
  rw [endPurge_slots_get]
  split
  · rfl
  · exact h

theorem drainIdle_holders_zero (s : State) (except : Option SlotId) (j : SlotId) (h : (s.slots[j]).holders = 0) :
    ((s.drainIdle except).slots[j]).holders = 0 :=
  inAnyOrder_induct (P := fun t => (t.slots[j]).holders = 0) _ _ _ (fun _ _ ht => ht)
    (fun k _ t ht => endPurge_holders_zero t k j ht) h

theorem settleCuts_holders_zero (s : State) (deferred : Bool) (except : Option SlotId) (j : SlotId)
    (h : (s.slots[j]).holders = 0) : ((s.settleCuts deferred except).slots[j]).holders = 0 := by
  unfold State.settleCuts
  refine drainIdle_holders_zero _ _ _ ?_
  split
  · exact h
  · simpa only [applyIdleChanges_slots] using h

/-! ### Open contexts, and their ends -/

theorem mem_openWith {s : State} {p : Context → Bool} {id : CtxId} :
    id ∈ s.openWith p ↔ ∃ c, s.contexts[id] = some c ∧ p c = true := by
  refine List.mem_filter.trans ((and_iff_right (List.mem_finRange id)).trans ?_)
  split <;> simp_all

theorem openWith_congr {s t : State} (h : t.contexts = s.contexts) (p : Context → Bool) :
    t.openWith p = s.openWith p := by
  simp only [State.openWith, h]

/-- No context has a property exactly where no open one has it. -/
theorem openWith_eq_nil {s : State} {p : Context → Bool} :
    s.openWith p = [] ↔ ∀ (id : CtxId) (c : Context), s.contexts[id] = some c → p c = false := by
  simp only [List.eq_nil_iff_forall_not_mem, mem_openWith, not_exists, not_and, Bool.not_eq_true]

/-- An end frees the record and no other. -/
theorem endAs_contexts (s : State) (kind : EndKind) (id : CtxId) (status : TransferStatus) (j : CtxId) :
    (s.endAs kind id status).contexts[j] = if id = j then none else s.contexts[j] := by
  unfold State.endAs
  split
  · rename_i h
    split
    · rename_i hj
      exact hj ▸ h
    · rfl
  · have hset : ∀ t : State, t.contexts = s.contexts →
        (t.setContext id none).contexts[j] = if id = j then none else s.contexts[j] := by
      intro t ht
      rw [← ht]
      split
      · rename_i hj
        exact hj ▸ setContext_get_self t id none
      · rename_i hj
        exact setContext_get_ne t none hj
    split
    · exact hset _ rfl
    · exact hset _ rfl

/-- Cuts free the records of their list and no other. -/
theorem inOrder_endAs_contexts (kind : EndKind) (status : TransferStatus) (ids : List CtxId) (s : State) (j : CtxId) :
    (inOrder (fun id t => State.endAs t kind id status) ids s).contexts[j] =
      if j ∈ ids then none else s.contexts[j] := by
  induction ids generalizing s with
  | nil => simp [inOrder]
  | cons id ids ih =>
    rw [inOrder_cons, ih, endAs_contexts]
    by_cases hj : id = j
    · simp [hj]
    · simp only [hj, if_false, List.mem_cons, Ne.symm hj, false_or]

theorem inAnyOrder_endAs_contexts (kind : EndKind) (status : TransferStatus) (ids : List CtxId) (s : State)
    (j : CtxId) :
    (inAnyOrder (fun id t => State.endAs t kind id status) ids s).contexts[j] =
      if j ∈ ids then none else s.contexts[j] := by
  obtain ⟨ys, n, hperm, heq⟩ := inAnyOrder_perm (fun id t => State.endAs t kind id status) ids s
  rw [heq, inOrder_endAs_contexts]
  simp only [hperm.mem_iff]

theorem cutAll_contexts (s : State) (status : TransferStatus) (ids : List CtxId) (j : CtxId) :
    (s.cutAll status ids).contexts[j] = if j ∈ ids then none else s.contexts[j] :=
  inOrder_endAs_contexts _ status ids s j

/-- Once the contexts with a property are cut, none is open. -/
theorem openWith_cut {s t : State} {p : Context → Bool}
    (h : ∀ j, t.contexts[j] = if j ∈ s.openWith p then none else s.contexts[j]) : t.openWith p = [] := by
  refine openWith_eq_nil.2 fun id c hc => ?_
  rw [h id] at hc
  split at hc
  · cases hc
  · rename_i hm
    rw [mem_openWith] at hm
    exact Bool.eq_false_iff.2 fun hp => hm ⟨c, hc, hp⟩

theorem holdersOf_cutAll (s : State) (status : TransferStatus) (k : SlotId) :
    (s.cutAll status (s.holdersOf k)).holdersOf k = [] :=
  openWith_cut (cutAll_contexts s status (s.holdersOf k))

theorem withdraw_bands_get (s : State) (id : CtxId) (c : Context) (kind : EndKind) (i : BandId) :
    (s.withdraw id c kind).bands[i] = (s.bands[i]).map fun b => if c.names i then b.closed id else b := by
  simp [State.withdraw]

theorem withdraw_slots_get (s : State) (id : CtxId) (c : Context) (kind : EndKind) (k : SlotId) :
    (s.withdraw id c kind).slots[k] =
      if c.holds k then { s.slots[k] with
        holders := (s.slots[k]).holders - 1, state := (s.slots[k]).state.enter kind } else s.slots[k] := by
  simp [State.withdraw]

/-- What the end of an open context does to each band (R41). -/
theorem endAs_bands_get {s : State} {id : CtxId} {c : Context} (h : s.contexts[id] = some c) (kind : EndKind)
    (status : TransferStatus) (i : BandId) :
    (s.endAs kind id status).bands[i] = (s.bands[i]).map fun b => if c.names i then b.closed id else b := by
  unfold State.endAs
  rw [h]
  dsimp only
  split <;> exact withdraw_bands_get _ id c kind i

/-- What the end of an open context does to each key slot (R41, R94). -/
theorem endAs_slots_get {s : State} {id : CtxId} {c : Context} (h : s.contexts[id] = some c) (kind : EndKind)
    (status : TransferStatus) (k : SlotId) :
    (s.endAs kind id status).slots[k] =
      if c.holds k then { s.slots[k] with
        holders := (s.slots[k]).holders - 1, state := (s.slots[k]).state.enter kind } else s.slots[k] := by
  unfold State.endAs
  rw [h]
  dsimp only
  split <;> exact withdraw_slots_get _ id c kind k

/-! ### Staged changes -/

/-- A dropped staged change leaves its band without one, and every other band alone (R66). -/
theorem dropPending_bands_get (s : State) (i j : BandId) :
    (s.dropPending i).bands[j] =
      if i = j then (s.bands[j]).map fun b => { b with pending := none } else s.bands[j] := by
  unfold State.dropPending
  split
  · rename_i hb
    split
    · rename_i hj
      subst hj
      rw [hb]
      rfl
    · rfl
  · rename_i b hb
    split
    · rename_i hp
      split
      · rename_i hj
        subst hj
        rw [hb, Option.map_some, ← hp]
      · rfl
    · have hset : ∀ owed code status result,
          ((s.setBand i (some { b with pending := none })).payReply owed code status result).bands[j] =
            if i = j then (s.bands[j]).map fun b => { b with pending := none } else s.bands[j] := by
        intro owed code status result
        rw [payReply_bands]
        split
        · rename_i hj
          subst hj
          rw [setBand_get_self, hb, Option.map_some]
        · rename_i hj
          exact setBand_get_ne s _ hj
      dsimp only
      split <;> exact hset _ _ _ _

@[simp] theorem abandonLoad_bands (s : State) (k : SlotId) : (s.abandonLoad k).bands = s.bands := by
  unfold State.abandonLoad
  split
  · exact payReply_bands _ _ _ _ _
  · rfl

@[simp] theorem purgeAllSlot_bands (holders : SlotId → Nat) (k : SlotId) (s : State) :
    (State.purgeAllSlot holders k s).bands = s.bands := by
  unfold State.purgeAllSlot
  split <;> simp

/-- No band has a staged change. -/
def State.NothingStaged (s : State) : Prop := ∀ (i : BandId) (b : Band), s.bands[i] = some b → b.pending = none

theorem State.NothingStaged.endAs {s : State} (hs : s.NothingStaged) (kind : EndKind) (id : CtxId)
    (status : TransferStatus) : (s.endAs kind id status).NothingStaged := by
  cases hc : s.contexts[id] with
  | none =>
    unfold State.endAs
    rw [hc]
    exact hs
  | some c =>
    intro i b hb
    rw [endAs_bands_get hc, Option.map_eq_some_iff] at hb
    obtain ⟨b', hb', rfl⟩ := hb
    split
    · exact hs i b' hb'
    · exact hs i b' hb'

/-- Once the staged change of every band is dropped, none is left. -/
theorem nothingStaged_dropAll (s : State) :
    (inOrder (fun i t => State.dropPending t i) allBands s).NothingStaged := by
  have h : ∀ (xs : List BandId) (t : State) (i : BandId), i ∈ xs ∨ (∀ b, t.bands[i] = some b → b.pending = none) →
      ∀ b, (inOrder (fun i t => State.dropPending t i) xs t).bands[i] = some b → b.pending = none := by
    intro xs
    induction xs with
    | nil => exact fun t i hi => hi.resolve_left (by simp)
    | cons x xs ih =>
      intro t i hi
      rw [inOrder_cons]
      refine ih (t.dropPending x) i ?_
      rw [dropPending_bands_get]
      by_cases hx : x = i
      · refine .inr fun b hb => ?_
        rw [if_pos hx, Option.map_eq_some_iff] at hb
        obtain ⟨_, _, rfl⟩ := hb
        rfl
      · rw [if_neg hx]
        exact hi.imp_left fun hm => (List.mem_cons.1 hm).resolve_left (Ne.symm hx)
  exact fun i => h allBands s i (.inl (List.mem_finRange i))

end Sys2Proof.Machine

/-! PROOFS. What every command keeps, packaged once. `Kept P` says that the work of the blocks keeps `P`, operation by
operation; `Served P Q` adds the taking of frames and the events, where `Q` is what holds while one reply reservation
is made and neither waiting nor filled. From `Served` every command keeps `P`. -/

namespace Sys2Proof.Machine

/-! ### The work of the blocks -/

/-- The beginning of a purge up to the unbinding of its slot (R96): the account, the staged changes that name the slot
dropped, the slot unbound. -/
def State.startPurge (s : State) (k : SlotId) (m : Material) (account : Account) : State :=
  ((s.setSlot k { s.slots[k] with state := .purging m account }).dropNaming k).unbind k

/-- The end of a beginning purge, once the contexts of the migrations it fails are cut: the remaining holders are cut
where the grace is 0, what follows takes place, and a slot without holders is erased (R96, R102). -/
def State.finishPurge (s : State) (deferred : Bool) (k : SlotId) (grace : Nat) : State :=
  let cut := if grace = 0 then s.cutAll .keyPurged (s.holdersOf k) else s
  if (s.slots[k]).holders = 0 ∨ grace = 0 then (cut.settleCuts deferred (some k)).endPurge k
  else cut.settleCuts deferred (some k)

theorem purgeSteps_eq (s : State) (deferred : Bool) (k : SlotId) (m : Material) (account : Account) :
    s.purgeSteps deferred k m account =
      (inAnyOrder (fun id t => State.endContext t id .keyPurged)
        ((s.startPurge k m account).namingAny
          (((s.setSlot k { s.slots[k] with state := .purging m account }).dropNaming k).failing k))
        (s.startPurge k m account)).finishPurge deferred k account.grace := rfl

/-- The first part of a failed parity check (R86, R87): the slot is POISONED and its holders are cut. -/
def State.poisonAndCut (s : State) (k : SlotId) : State :=
  inAnyOrder (fun id t => t.endContext id .keyFault)
    ((s.setSlot k { s.slots[k] with state := (s.slots[k]).state.poison }).holdersOf k)
    (s.setSlot k { s.slots[k] with state := (s.slots[k]).state.poison })

/-- A fragment taken, up to its end: the record as the bytes leave it, and the released bytes appended (R33, R37). -/
def State.fragmentTaken (s : State) (id : CtxId) (c : Context) (bytes : List Byte) : State :=
  (s.setContext id (some (s.takeBytes bytes c).ctx)).appendReleased id c.dir (s.takeBytes bytes c).released

/-- A completed context ended, with the advance of a migrate writer (R39, R120). -/
def State.completed (s : State) (id : CtxId) (c : Context) : State :=
  if c.migrate ∧ c.dir = .write then (s.endContext id .ok).advance c else s.endContext id .ok

/-- Every context is cut before a PURGE-ALL erases the slots (R107). -/
theorem purgeAll_contexts (s : State) (id : CtxId) :
    (inOrder (State.purgeAllSlot fun k =>
        ((inOrder (fun k t => State.abandonLoad t k) allSlots
          (inOrder (fun i t => State.dropPending t i) allBands s)).slots[k]).holders) allSlots
      ((inOrder (fun k t => State.abandonLoad t k) allSlots
        (inOrder (fun i t => State.dropPending t i) allBands s)).cutAll .keyPurged allContexts)).contexts[id] =
      none := by
  generalize inOrder (fun k t => State.abandonLoad t k) allSlots
    (inOrder (fun i t => State.dropPending t i) allBands s) = u
  have h := contexts_of_transfers (inOrder_transfers (State.purgeAllSlot fun k => (u.slots[k]).holders) allSlots
    (u.cutAll .keyPurged allContexts) fun k t => purgeAllSlot_transfers _ k t)
  rw [h, cutAll_contexts, if_pos (List.mem_finRange id)]

/-- The beginning of a sending writes the two sendings alone. -/
theorem startSending_frame (s : State) (lane : OutLane) :
    ∃ front back, s.startSending lane = { s with frontSending := front, backSending := back } := by
  unfold State.startSending
  cases lane
  all_goals
    dsimp only
    split
    · exact ⟨_, _, rfl⟩
    · exact ⟨_, _, rfl⟩

theorem popFront_frame (s : State) :
    ∃ queue places, s.popFront = { s with frontQueue := queue, donePlaces := places } := by
  unfold State.popFront
  split <;> exact ⟨_, _, rfl⟩

theorem popBack_frame (s : State) :
    ∃ queue places, s.popBack = { s with backQueue := queue, endPlaces := places } := by
  unfold State.popBack
  split <;> exact ⟨_, _, rfl⟩

/-- A fragment taken writes its record and the output queues alone. -/
theorem fragmentTaken_frame (s : State) (id : CtxId) (c : Context) (bytes : List Byte) :
    ∃ front back, s.fragmentTaken id c bytes =
      { s.setContext id (some (s.takeBytes bytes c).ctx) with frontQueue := front, backQueue := back } := by
  unfold State.fragmentTaken State.appendReleased
  split
  · exact ⟨_, _, rfl⟩
  · split <;> exact ⟨_, _, rfl⟩

/-- The assertion of PORST puts every item at its value after PORST (R154). -/
theorem assertPorst_induct {P : State → Prop} (hreset : ∀ (s : State), P s.powerOn) (s : State) (hs : P s) : P s.assertPorst := by
  unfold State.assertPorst
  split
  · exact hs
  · exact hreset s

/-- The operations that the blocks' work consists of keep a property. -/
structure Kept (P : State → Prop) : Prop where
  choices : ∀ (s : State) n, P s → P { s with choices := n }
  report : ∀ (s : State) d, P s → P (s.report d)
  discards : ∀ (s : State) n, P s → P { s with discards := n }
  latched : ∀ (s : State) src, P s → P { s with latched := s.latched.insert src }
  setWrap : ∀ (s : State) w v, P s → P (s.setWrap w v)
  endAs : ∀ (s : State) kind id status, P s → P (s.endAs kind id status)
  applyPending : ∀ (s : State) i, P s → P (s.applyPending i)
  dropPending : ∀ (s : State) i, P s → P (s.dropPending i)
  abandonLoad : ∀ (s : State) k, P s → P (s.abandonLoad k)
  endPurge : ∀ (s : State) k, (s.slots[k]).holders = 0 ∨ s.holdersOf k = [] → P s → P (s.endPurge k)
  lockBand : ∀ (s : State) i, P s → P (s.lockBand i)
  startPurge : ∀ (s : State) k m account, account.owed = none →
    (s.slots[k]).state = .ready m ∨ (s.slots[k]).state = .poisoned m → P s → P (s.startPurge k m account)
  zeroGrace : ∀ (s : State) k m a, (s.slots[k]).state = .purging m a → P s →
    P (s.setSlot k { s.slots[k] with state := .purging m { a with grace := 0 } })
  poisonAndCut : ∀ (s : State) k, P s → P (s.poisonAndCut k)

namespace Kept

variable {P : State → Prop} (h : Kept P)
include h

theorem endContext (s : State) (id : CtxId) (status : TransferStatus) (hs : P s) : P (s.endContext id status) :=
  h.endAs s _ id status hs

theorem cutAll (s : State) (status : TransferStatus) (ids : List CtxId) (hs : P s) : P (s.cutAll status ids) :=
  inOrder_induct _ _ _ (fun id _ t ht => h.endContext t id status ht) hs

theorem applyIdleChanges (s : State) (hs : P s) : P s.applyIdleChanges :=
  inOrder_induct _ _ _ (fun i _ t ht => h.applyPending t i ht) hs

/-- The slots that drain have no holder, and none of them gains one while the others drain. -/
theorem drainIdle (s : State) (except : Option SlotId) (hs : P s) : P (s.drainIdle except) := by
  have hzero : ∀ k ∈ s.drainable except, (s.slots[k]).holders = 0 := by
    intro k hk
    have hb := (List.mem_filter.1 hk).2
    simp only [Bool.and_eq_true, beq_iff_eq] at hb
    exact hb.1.2
  refine (inAnyOrder_induct (P := fun t => P t ∧ ∀ k ∈ s.drainable except, (t.slots[k]).holders = 0) _ _ _
    (fun t n ht => ⟨h.choices t n ht.1, ht.2⟩) (fun k hk t ht => ?_) ⟨hs, hzero⟩).1
  exact ⟨h.endPurge t k (.inl (ht.2 k hk)) ht.1, fun j hj => endPurge_holders_zero t k j (ht.2 j hj)⟩

theorem settleCuts (s : State) (deferred : Bool) (except : Option SlotId) (hs : P s) :
    P (s.settleCuts deferred except) := by
  refine h.drainIdle _ _ ?_
  split
  · exact hs
  · exact h.applyIdleChanges s hs

theorem expire (s : State) (deferred : Bool) (k : SlotId) (hs : P s) : P (s.expire deferred k) := by
  unfold State.expire
  split
  · refine h.endPurge _ _ (.inr ?_) (h.settleCuts _ _ _ (h.cutAll _ _ _ hs))
    rw [State.holdersOf, openWith_congr (contexts_of_transfers (settleCuts_transfers _ _ _))]
    exact holdersOf_cutAll s .keyPurged k
  · exact hs

theorem finishPurge (s : State) (deferred : Bool) (k : SlotId) (grace : Nat) (hs : P s) :
    P (s.finishPurge deferred k grace) := by
  unfold State.finishPurge
  by_cases hg : grace = 0
  · simp only [hg, if_true, or_true]
    refine h.endPurge _ _ (.inr ?_) (h.settleCuts _ _ _ (h.cutAll _ _ _ hs))
    rw [State.holdersOf, openWith_congr (contexts_of_transfers (settleCuts_transfers _ _ _))]
    exact holdersOf_cutAll s .keyPurged k
  · simp only [hg, if_false, or_false]
    split
    · rename_i hz
      exact h.endPurge _ _ (.inl (settleCuts_holders_zero _ _ _ _ hz)) (h.settleCuts _ _ _ hs)
    · exact h.settleCuts _ _ _ hs

/-- Once the slot is unbound, the rest of a purge is cuts, what follows from them, and its end. -/
theorem purgeSteps (s : State) (deferred : Bool) (k : SlotId) (m : Material) (account : Account)
    (hs : P (s.startPurge k m account)) : P (s.purgeSteps deferred k m account) := by
  rw [purgeSteps_eq]
  exact h.finishPurge _ _ _ _ (inAnyOrder_induct _ _ _ h.choices (fun id _ t ht => h.endContext t id _ ht) hs)

theorem beginPurge (s : State) (deferred : Bool) (k : SlotId) (cause : PurgeCause) (grace : Nat) (hs : P s) :
    P (s.beginPurge deferred k cause none grace) := by
  unfold State.beginPurge
  dsimp only
  split
  · rename_i hm
    exact h.purgeSteps _ _ _ _ _ (h.startPurge _ _ _ _ rfl (.inl hm) hs)
  · rename_i hm
    exact h.purgeSteps _ _ _ _ _ (h.startPurge _ _ _ _ rfl (.inr hm) hs)
  · exact hs

theorem cutBand (s : State) (kind : EndKind) (i : BandId) (hs : P s) : P (s.cutBand kind i) :=
  h.settleCuts _ _ _ (inOrder_induct _ _ _ (fun id _ t ht => h.endAs t kind id _ ht) (h.lockBand s i hs))

theorem tripPurge (s : State) (k : SlotId) (hs : P s) : P (s.tripPurge k) := by
  unfold State.tripPurge
  split
  · exact h.beginPurge _ _ _ _ _ hs
  · exact h.beginPurge _ _ _ _ _ hs
  · rename_i hm
    exact h.expire _ _ _ (h.zeroGrace _ _ _ _ hm hs)
  · exact hs
  · exact hs

theorem bandAction (s : State) (src : TripSource) (i : BandId) (hs : P s) : P (s.bandAction src i) := by
  unfold State.bandAction
  split
  · exact hs
  · split
    · split
      · exact hs
      · exact h.lockBand s i hs
      · exact h.cutBand s _ i hs
      · exact inOrder_induct _ _ _ (fun k _ t ht => h.tripPurge t k ht) (h.cutBand s _ i hs)
    · exact hs

theorem latch (s : State) (src : TripSource) (hs : P s) : P (s.latch src) := by
  unfold State.latch
  split
  · exact hs
  · exact h.report _ _ (h.applyIdleChanges _
      (inOrder_induct _ _ _ (fun i _ t ht => h.bandAction t src i ht) (h.latched s src hs)))

theorem aheadOf (s : State) (kept : List BandId) (hs : P s) : P (s.aheadOf kept) := by
  refine h.drainIdle _ _ (inOrder_induct _ _ _ (fun i _ t ht => ?_) hs)
  split
  · exact ht
  · exact h.applyPending t i ht

theorem keyFault (s : State) (k : SlotId) (hs : P s) : P (s.keyFault k) :=
  h.report _ _ (h.latch _ _ (h.aheadOf _ _ (h.poisonAndCut s k hs)))

theorem discard (s : State) (kind : DiscardKind) (ctx : Option CtxId) (hs : P s) : P (s.discard kind ctx) :=
  h.report _ _ (h.discards _ _ hs)

/-! ### Events that are the blocks' work, and writes of other items -/

theorem completed (hm : ∀ (s : State) i w, P s → P (s.moveWatermark i w true)) (s : State) (id : CtxId) (c : Context)
    (hs : P s) : P (s.completed id c) := by
  have he := h.endContext s id .ok hs
  unfold State.completed State.advance
  split
  · split
    · exact he
    · split
      · exact he
      · exact hm _ _ _ he
  · exact he

theorem purgeAll (hslot : ∀ (s : State) g k, (∀ id : CtxId, s.contexts[id] = none) → P s →
      P (State.purgeAllSlot g k s))
    (hclear : ∀ (s : State), (∀ id : CtxId, s.contexts[id] = none) → s.NothingStaged → P s →
      P { s with wraps := Vector.replicate 4 .empty, bands := Vector.replicate 32 none, life := .prepare })
    (s : State) (hs : P s) : P s.purgeAll := by
  have h1 := inOrder_induct (fun i t => State.dropPending t i) allBands s
    (fun i _ t ht => h.dropPending t i ht) hs
  have h2 := inOrder_induct (fun k t => State.abandonLoad t k) allSlots _ (fun k _ t ht => h.abandonLoad t k ht) h1
  have hn : ∀ g : SlotId → Nat, (inOrder (State.purgeAllSlot g) allSlots
      ((inOrder (fun k t => State.abandonLoad t k) allSlots
        (inOrder (fun i t => State.dropPending t i) allBands s)).cutAll .keyPurged allContexts)).NothingStaged := by
    intro g
    refine inOrder_induct (P := State.NothingStaged) _ _ _ (fun k _ t ht => ?_)
      (inOrder_induct (P := State.NothingStaged) _ _ _ (fun id _ t ht => ht.endAs _ id _)
        (inOrder_induct (P := State.NothingStaged) _ _ _ (fun k _ t ht => ?_) (nothingStaged_dropAll s)))
    · intro i
      rw [purgeAllSlot_bands]
      exact ht i
    · intro i
      rw [abandonLoad_bands]
      exact ht i
  refine hclear _ (purgeAll_contexts s) (hn _) ?_
  have hfree : ∀ u : State, ∀ id : CtxId, (u.cutAll .keyPurged allContexts).contexts[id] = none := fun u id => by
    rw [cutAll_contexts, if_pos (List.mem_finRange id)]
  refine (inOrder_induct (P := fun t => P t ∧ ∀ id : CtxId, t.contexts[id] = none) _ allSlots _
    (fun k _ t ht => ⟨hslot t _ k ht.2 ht.1, fun id => ?_⟩)
    ⟨h.cutAll _ .keyPurged allContexts h2, hfree _⟩).1
  rw [contexts_of_transfers (purgeAllSlot_transfers _ k t)]
  exact ht.2 id

theorem assertPlock (hline : ∀ (s : State) line state, P s → P { s with plockLine := line, plock := state })
    (s : State) (hs : P s) : P s.assertPlock := by
  unfold State.assertPlock
  split
  · exact hs
  · split
    · exact hline s true s.plock hs
    · exact h.latch _ _ (hline s true true hs)

theorem assertPfail (hline : ∀ (s : State) line state, P s → P { s with pfailLine := line, pfail := state })
    (s : State) (hs : P s) : P s.assertPfail := by
  unfold State.assertPfail
  split
  · exact hs
  · split
    · exact hline s true s.pfail hs
    · exact h.report _ _ (hline s true true hs)

theorem assertLinkrst (hline : ∀ (s : State) line, P s → P { s with linkrstLine := line })
    (hreset : ∀ (s : State), P s → P s.resetPorts.freeContexts) (hclear : ∀ (s : State), P s → P s.clearNotices)
    (s : State) (hs : P s) : P s.assertLinkrst := by
  unfold State.assertLinkrst
  split
  · exact hs
  · split
    · exact hline s true hs
    · exact hclear _ (h.drainIdle _ _ (h.applyIdleChanges _ (hreset _ (hline s true hs))))

theorem releasePorst (hline : ∀ (s : State) plock pfail, P s →
      P { s with porstLine := false, linkTime := 0, plock := plock, pfail := pfail })
    (s : State) (hs : P s) : P s.releasePorst := by
  unfold State.releasePorst
  split
  · dsimp only
    split
    · exact h.latch _ _ (hline s _ _ hs)
    · exact hline s _ _ hs
  · exact hs

end Kept

/-! ### The taking of frames, and the events -/

/-- What holds while the reply of an owed tag, where there is one, is neither waiting nor filled. -/
def paying (P Q : State → Prop) : Option Byte → State → Prop
  | none => P
  | some _ => Q

/-- Beside the blocks' work, the taking of frames and the events keep `P`; between the reservation of a request and
its REPLY, `Q` holds. -/
structure Served (P Q : State → Prop) : Prop where
  kept : Kept P
  keptOwing : Kept Q
  setHead : ∀ (s : State) lane frame, P s → P (s.setHead lane frame)
  reserve : ∀ (s : State), s.reservationFree = true → P s → Q s.reserve
  reply : ∀ (s : State) tag code status result, Q s → P (s.reply tag code status result)
  -- the transfer unit
  refuse : ∀ (s : State) id status, s.frontPlaceFree = true → P s → P (s.appendFront (.refusal id status))
  accept : ∀ (s : State) id dir migrate ns first count,
    s.openRefusal id dir migrate (some ns) first count = none → s.donePlaces[id] ≠ .filled →
    s.endPlaces[id] ≠ .filled → 0 < count → P s → P (s.acceptContext id (s.newContext dir migrate ns first count))
  fragment : ∀ (s : State) id c lane bytes, s.contexts[id] = some c → c.dir = laneDir lane →
    s.pairedPlaceFree lane = true → (∀ o, (s.takeBytes bytes c).stop ≠ .complete o) → P s →
    P (s.fragmentTaken id c bytes)
  complete : ∀ (s : State) id c lane bytes o, s.contexts[id] = some c → c.dir = laneDir lane →
    s.pairedPlaceFree lane = true → (s.takeBytes bytes c).stop = .complete o → P s →
    P ((s.fragmentTaken id c bytes).completed id (s.takeBytes bytes c).ctx)
  -- the key store
  startLoad : ∀ (s : State) k w words blob tag, s.keyLoadRefusal k w = none → Q s →
    P (s.startLoad k w words blob tag)
  endLoad : ∀ (s : State) k l, (s.slots[k]).state = .loading l → P s → paying P Q l.owed (s.endLoad k)
  loaded : ∀ (s : State) k l g m, (s.slots[k]).state = .loading l → P s →
    paying P Q l.owed (s.setSlot k { s.slots[k] with generation := g, state := .ready m })
  startPurgeOwed : ∀ (s : State) k m account tag, account.owed = some tag →
    (s.slots[k]).state = .ready m ∨ (s.slots[k]).state = .poisoned m → Q s → P (s.startPurge k m account)
  purgeAll : ∀ (s : State), Q s → Q s.purgeAll
  graceSetting : ∀ (s : State) n, Q s → Q { s with graceSetting := n }
  damage : ∀ (s : State) location, P s → P (s.damage location)
  -- the band unit
  stageSet : ∀ (s : State) f i new tag, bandSetOf f = some (i, new) → s.bandSetRefusal i new = none →
    s.bandOpen i = true → Q s → P (s.stage i (.bandSet new) tag)
  applySet : ∀ (s : State) f i new, bandSetOf f = some (i, new) → s.bandSetRefusal i new = none →
    s.bandOpen i = false → Q s → Q (s.applyBandSet i new)
  lock : ∀ (s : State) i b gated read write, s.bands[i] = some b → Q s →
    Q (s.setBand i (some (b.withLocks gated read write)))
  stageStart : ∀ (s : State) i target generation tag, s.migrateStartRefusal i target generation = none →
    s.bandOpen i = true → Q s → P (s.stage i (.migrateStart target generation) tag)
  applyStart : ∀ (s : State) i target generation, s.migrateStartRefusal i target generation = none →
    s.bandOpen i = false → Q s → Q (s.applyMigrateStart i target generation)
  -- lockdown, notices, control
  tripClear : ∀ (s : State) (mask : SourceSet), (mask.plock && s.plock) = false → Q s →
    Q { s with latched := s.latched.diff mask }
  setPeriod : ∀ (s : State) k period, period ≤ Config.periodMax → Q s → Q (s.setPeriod k period)
  acknowledge : ∀ (s : State) k, Q s → Q (s.acknowledge k)
  goOnline : ∀ (s : State), Q s → Q { s with life := .online }
  timeSet : ∀ (s : State) v, Q s → Q { s with linkTime := v }
  -- the ports, the lines, time
  startSending : ∀ (s : State) lane, P s → P (s.startSending lane)
  freeFront : ∀ (s : State) source, s.frontSending = some source → P s →
    P ({ s with frontSending := none }.freeFront source)
  freeBack : ∀ (s : State), s.backSending = true → P s → P { s with backSending := false }.popBack
  setOutHold : ∀ (s : State) lane level, P s → P (s.setOutHold lane level)
  assertPlock : ∀ (s : State), P s → P s.assertPlock
  deassertPlock : ∀ (s : State), P s → P s.deassertPlock
  assertPfail : ∀ (s : State), P s → P s.assertPfail
  deassertPfail : ∀ (s : State), P s → P s.deassertPfail
  assertLinkrst : ∀ (s : State), P s → P s.assertLinkrst
  releaseLinkrst : ∀ (s : State), P s → P { s with linkrstLine := false }
  assertPorst : ∀ (s : State), P s → P s.assertPorst
  releasePorst : ∀ (s : State), P s → P s.releasePorst
  tick : ∀ (s : State), P s → P s.tick

namespace Served

variable {P Q : State → Prop} (h : Served P Q)
include h

theorem keptPaying (owed : Option Byte) : Kept (paying P Q owed) := by
  cases owed
  · exact h.kept
  · exact h.keptOwing

theorem payReply (s : State) (owed : Option Byte) (code : RequestCode) (status : ReplyStatus) (result : Result)
    (hs : paying P Q owed s) : P (s.payReply owed code status result) := by
  cases owed
  · exact hs
  · exact h.reply _ _ _ _ _ hs

theorem takeOpen (ctx : Byte) (dir : Direction) (flags ns : Byte) (first : BitVec 48) (count : BitVec 16)
    (s : State) (ht : s.openTakeable ctx = true) (hs : P s) : P (takeOpen ctx dir flags ns first count s) := by
  unfold Machine.takeOpen
  unfold State.openTakeable at ht
  split
  · exact h.kept.discard _ _ _ hs
  · rename_i id hid
    simp only [hid, Bool.and_eq_true, bne_iff_ne] at ht
    dsimp only
    split
    · exact h.refuse _ _ _ ht.1.1 hs
    · rename_i hr
      split
      · exact hs
      · rename_i n hn
        exact h.accept _ _ _ _ _ _ _ (hn ▸ hr) ht.1.2 ht.2 (Nat.succ_pos _) hs

theorem processFragment (s : State) (id : CtxId) (c : Context) (lane : InLane) (bytes : List Byte)
    (hc : s.contexts[id] = some c) (hd : c.dir = laneDir lane) (hp : s.pairedPlaceFree lane = true) (hs : P s) :
    P (s.processFragment id c bytes) := by
  unfold State.processFragment
  dsimp only
  split
  · rename_i hm
    exact h.fragment s id c lane bytes hc hd hp (by simp [hm]) hs
  · rename_i o hm
    have hdone := h.kept.settleCuts _ false none (h.complete s id c lane bytes o hc hd hp hm hs)
    split
    · exact h.kept.discard _ _ _ hdone
    · exact hdone
  · rename_i hm
    exact h.kept.keyFault _ _ (h.fragment s id c lane bytes hc hd hp (by simp [hm]) hs)

theorem takeData (lane : InLane) (ctx : Byte) (bytes : List Byte) (s : State)
    (ht : s.dataTakeable lane ctx bytes.length = true) (hs : P s) : P (takeData lane ctx bytes s) := by
  unfold Machine.takeData
  split
  · exact h.kept.discard _ _ _ hs
  · rename_i id hid
    split
    · exact h.kept.discard _ _ _ hs
    · rename_i hlong
      split
      · exact hs
      · rename_i hempty
        split
        · exact h.kept.discard _ _ _ hs
        · rename_i c hc
          split
          · rename_i hd
            have hp : s.pairedPlaceFree lane = true := by
              have hne : bytes ≠ [] := by simpa using hempty
              simp only [State.dataTakeable, hid, Option.isNone_some, hlong, decide_false, Bool.or_eq_true,
                Bool.false_eq_true, beq_iff_eq, List.length_eq_zero_iff, hne, false_or, Bool.and_eq_true] at ht
              exact ht.1
            exact h.processFragment s id c lane bytes hc hd hp hs
          · exact h.kept.discard _ _ _ hs

theorem takeAbort (ctx : Byte) (s : State) (hs : P s) : P (takeAbort ctx s) := by
  unfold Machine.takeAbort
  split
  · exact h.kept.discard _ _ _ hs
  · split
    · exact h.kept.discard _ _ _ hs
    · exact h.kept.settleCuts _ _ _ (h.kept.endContext _ _ _ hs)

/-! ### Requests -/

theorem beginPurgeOwed (t : State) (tag : Byte) (ht : Q t) (k : SlotId) (cause : PurgeCause) (grace : Nat)
    (hk : (t.slots[k]).state.bindable = true) :
    P (t.beginPurge false k cause (some tag) grace) := by
  unfold State.beginPurge
  dsimp only
  cases hm : (t.slots[k]).state with
  | ready m => exact h.kept.purgeSteps _ _ _ _ _ (h.startPurgeOwed _ _ _ _ tag rfl (.inl hm) ht)
  | poisoned m => exact h.kept.purgeSteps _ _ _ _ _ (h.startPurgeOwed _ _ _ _ tag rfl (.inr hm) ht)
  | _ => simp only [hm, SlotState.bindable, Bool.false_eq_true] at hk

section Requests

variable (s : State) (tag : Byte) (hr : Q s.reserve)
include hr

/-- An immediate REPLY. -/
theorem answer (code : Byte) (status : ReplyStatus) (result : Result) :
    P (s.reserve.reply tag code status result) :=
  h.reply _ _ _ _ _ hr

theorem takeWrapLoad (body : Body WrapLoadFields) : P (takeWrapLoad tag body s) := by
  unfold Machine.takeWrapLoad
  dsimp only
  repeat' split
  all_goals first
    | exact h.answer s tag hr _ _ _
    | exact h.reply _ _ _ _ _ (h.keptOwing.setWrap _ _ _ hr)

theorem takeKeyLoad (body : Body KeyLoadFields) : P (takeKeyLoad tag body s) := by
  unfold Machine.takeKeyLoad
  dsimp only
  repeat' split
  all_goals first
    | exact h.answer s tag hr _ _ _
    | exact h.startLoad s.reserve _ _ _ _ _ (by assumption) hr

theorem takeQuerySlot (body : Body Byte) : P (takeQuerySlot tag body s) := by
  unfold Machine.takeQuerySlot
  dsimp only
  repeat' split
  all_goals exact h.answer s tag hr _ _ _

theorem takeKeyPurge (body : Body Byte) : P (takeKeyPurge tag body s) := by
  unfold Machine.takeKeyPurge
  dsimp only
  split
  · exact h.answer s tag hr _ _ _
  · split
    · exact h.answer s tag hr _ _ _
    · split
      · exact h.answer s tag hr _ _ _
      · exact h.reply _ _ _ _ _ (h.keptOwing.abandonLoad _ _ hr)
      · rename_i hm
        exact h.beginPurgeOwed s.reserve tag hr _ _ _ (congrArg SlotState.bindable hm)
      · rename_i hm
        exact h.beginPurgeOwed s.reserve tag hr _ _ _ (congrArg SlotState.bindable hm)
      · exact h.answer s tag hr _ _ _

theorem takePurgeAll (body : Body Unit) : P (takePurgeAll tag body s) := by
  unfold Machine.takePurgeAll
  split
  · exact h.answer s tag hr _ _ _
  · exact h.reply _ _ _ _ _ (h.purgeAll _ hr)

theorem takeSetGrace (body : Body (BitVec 32)) : P (takeSetGrace tag body s) := by
  unfold Machine.takeSetGrace
  split
  · exact h.answer s tag hr _ _ _
  · exact h.reply _ _ _ _ _ (h.graceSetting _ _ hr)

theorem takeBandSet (body : Body BandSetFields) : P (takeBandSet tag body s) := by
  unfold Machine.takeBandSet
  dsimp only
  split
  · exact h.answer s tag hr _ _ _
  · split
    · exact h.answer s tag hr _ _ _
    · rename_i hf
      split
      · exact h.answer s tag hr _ _ _
      · rename_i hn
        split
        · rename_i ho
          exact h.stageSet s.reserve _ _ _ _ hf hn ho hr
        · rename_i ho
          exact h.reply _ _ _ _ _ (h.applySet s.reserve _ _ _ hf hn (Bool.eq_false_iff.2 ho) hr)

theorem takeBandLock (body : Body BandLockFields) : P (takeBandLock tag body s) := by
  unfold Machine.takeBandLock
  dsimp only
  split
  · exact h.answer s tag hr _ _ _
  · split
    · split
      · exact h.answer s tag hr _ _ _
      · rename_i hb
        split
        · exact h.answer s tag hr _ _ _
        · exact h.reply _ _ _ _ _ (h.lock s.reserve _ _ _ _ _ hb hr)
    · exact h.answer s tag hr _ _ _

theorem takeQueryBand (body : Body Byte) : P (takeQueryBand tag body s) := by
  unfold Machine.takeQueryBand
  dsimp only
  repeat' split
  all_goals exact h.answer s tag hr _ _ _

theorem takeMigrateStart (body : Body MigrateStartFields) : P (takeMigrateStart tag body s) := by
  unfold Machine.takeMigrateStart
  dsimp only
  split
  · exact h.answer s tag hr _ _ _
  · split
    · split
      · exact h.answer s tag hr _ _ _
      · rename_i hn
        split
        · rename_i ho
          exact h.stageStart s.reserve _ _ _ _ hn ho hr
        · rename_i ho
          exact h.reply _ _ _ _ _ (h.applyStart s.reserve _ _ _ hn (Bool.eq_false_iff.2 ho) hr)
    · exact h.answer s tag hr _ _ _

theorem takeTripForce (body : Body Unit) : P (takeTripForce tag body s) := by
  unfold Machine.takeTripForce
  split
  · exact h.answer s tag hr _ _ _
  · exact h.reply _ _ _ _ _ (h.keptOwing.latch _ _ hr)

theorem takeTripClear (body : Body Byte) : P (takeTripClear tag body s) := by
  unfold Machine.takeTripClear
  split
  · exact h.answer s tag hr _ _ _
  · split
    · exact h.answer s tag hr _ _ _
    · rename_i mask _
      split
      · exact h.answer s tag hr _ _ _
      · rename_i hn
        refine h.reply _ _ _ _ _ (h.tripClear s.reserve mask ?_ hr)
        simpa [firstFailing] using hn

theorem takeNoticePeriod (body : Body NoticePeriodFields) : P (takeNoticePeriod tag body s) := by
  unfold Machine.takeNoticePeriod
  dsimp only
  split
  · exact h.answer s tag hr _ _ _
  · split
    · exact h.answer s tag hr _ _ _
    · exact h.reply _ _ _ _ _ (h.setPeriod _ _ _ (Nat.min_le_right _ _) hr)

theorem takeNoticeAck (body : Body Byte) : P (takeNoticeAck tag body s) := by
  unfold Machine.takeNoticeAck
  dsimp only
  split
  · exact h.answer s tag hr _ _ _
  · split
    · exact h.answer s tag hr _ _ _
    · exact h.reply _ _ _ _ _ (inOrder_induct _ _ _ (fun k _ t ht => h.acknowledge t k ht) hr)

theorem takeQueryContext (body : Body Byte) : P (takeQueryContext tag body s) := by
  unfold Machine.takeQueryContext
  dsimp only
  repeat' split
  all_goals exact h.answer s tag hr _ _ _

theorem takeGoOnline (body : Body Unit) : P (takeGoOnline tag body s) := by
  unfold Machine.takeGoOnline
  dsimp only
  repeat' split
  all_goals first
    | exact h.answer s tag hr _ _ _
    | exact h.reply _ _ _ _ _ (h.goOnline _ hr)

theorem takeTimeSet (body : Body (BitVec 32)) : P (takeTimeSet tag body s) := by
  unfold Machine.takeTimeSet
  split
  · exact h.answer s tag hr _ _ _
  · exact h.reply _ _ _ _ _ (h.timeSet _ _ hr)

theorem takeQueryStatus (body : Body Unit) : P (takeQueryStatus tag body s) := by
  unfold Machine.takeQueryStatus
  split <;> exact h.answer s tag hr _ _ _

end Requests

/-! ### Frames -/

/-- The taking of a frame that can be taken. -/
theorem takeFrame (frame : Instr) (s : State) (ht : s.takeable frame = true) (hs : P s) : P (takeFrame frame s) := by
  cases frame with
  | openFrame => exact h.takeOpen _ _ _ _ _ _ s ht hs
  | data => exact h.takeData _ _ _ s ht hs
  | abort => exact h.takeAbort _ s hs
  | malformedFrame => exact h.kept.discard _ _ _ hs
  | undefinedRequestCode => exact h.answer s _ (h.reserve s ht hs) _ _ _
  | wrapLoad => exact h.takeWrapLoad s _ (h.reserve s ht hs) _
  | keyLoad => exact h.takeKeyLoad s _ (h.reserve s ht hs) _
  | querySlot => exact h.takeQuerySlot s _ (h.reserve s ht hs) _
  | keyPurge => exact h.takeKeyPurge s _ (h.reserve s ht hs) _
  | purgeAll => exact h.takePurgeAll s _ (h.reserve s ht hs) _
  | setGrace => exact h.takeSetGrace s _ (h.reserve s ht hs) _
  | bandSet => exact h.takeBandSet s _ (h.reserve s ht hs) _
  | bandLock => exact h.takeBandLock s _ (h.reserve s ht hs) _
  | queryBand => exact h.takeQueryBand s _ (h.reserve s ht hs) _
  | migrateStart => exact h.takeMigrateStart s _ (h.reserve s ht hs) _
  | tripForce => exact h.takeTripForce s _ (h.reserve s ht hs) _
  | tripClear => exact h.takeTripClear s _ (h.reserve s ht hs) _
  | noticePeriod => exact h.takeNoticePeriod s _ (h.reserve s ht hs) _
  | noticeAck => exact h.takeNoticeAck s _ (h.reserve s ht hs) _
  | queryContext => exact h.takeQueryContext s _ (h.reserve s ht hs) _
  | goOnline => exact h.takeGoOnline s _ (h.reserve s ht hs) _
  | timeSet => exact h.takeTimeSet s _ (h.reserve s ht hs) _
  | queryStatus => exact h.takeQueryStatus s _ (h.reserve s ht hs) _
  | _ => exact hs

theorem settle (s : State) (hs : P s) : P s.settle :=
  settle_induct s h.kept.choices h.setHead (fun f t ht hp => h.takeFrame f t ht hp) hs

theorem present (s : State) (frame : Instr) (hs : P s) : P (s.present frame) := by
  unfold State.present
  split
  · exact hs
  · split
    · rename_i ht
      exact h.takeFrame _ _ ht hs
    · exact h.setHead _ _ _ hs

theorem presentAndSettle (s : State) (frame : Instr) (hs : P s) : P (s.presentAndSettle frame) := by
  unfold State.presentAndSettle
  split
  · exact hs
  · split
    · rename_i ht
      exact h.settle _ (h.takeFrame _ _ ht hs)
    · exact h.setHead _ _ _ hs

/-! ### Events -/

theorem wrapFaultReply (s : State) (owed : Option Byte) (generation : BitVec 16) (hs : paying P Q owed s) :
    P (s.wrapFaultReply owed generation) := by
  have hpay : ∀ t, paying P Q owed t → P (t.payReply owed .keyLoad .wrapFault (.keyLoad 0 generation)) :=
    fun t ht => h.payReply t _ _ _ _ ht
  unfold State.wrapFaultReply
  dsimp only
  split
  · exact hpay _ ((h.keptPaying owed).latch _ _ hs)
  · obtain ⟨ys, n, hperm, heq⟩ := inAnyOrder_perm (fun first (t : State) =>
      if first = true then t.payReply owed .keyLoad .wrapFault (.keyLoad 0 generation) else t.latch .keyfault)
      [true, false] s
    rw [heq]
    have hn := (h.keptPaying owed).choices s n hs
    have hys : ys = [true, false] ∨ ys = [false, true] := by
      obtain ⟨a, b, rfl⟩ := List.length_eq_two.1 (hperm.length_eq.trans rfl)
      revert hperm
      cases a <;> cases b <;> decide
    obtain rfl | rfl := hys
    · exact h.kept.latch _ _ (hpay _ hn)
    · exact hpay _ ((h.keptPaying owed).latch _ _ hn)

theorem completeLoad (s : State) (k : SlotId) (hs : P s) : P (s.completeLoad k) := by
  unfold State.completeLoad
  split
  · rename_i l hl
    have hend := h.endLoad s k l hl hs
    split
    · unfold State.unwrapOutcome
      dsimp only
      split
      · exact h.payReply _ _ _ _ _ hend
      · split
        · exact h.payReply _ _ _ _ _ hend
        · exact h.payReply _ _ _ _ _ (h.loaded s k l _ _ hl hs)
    · exact h.kept.report _ _ (h.wrapFaultReply _ _ _ ((h.keptPaying l.owed).setWrap _ _ _ hend))
  · exact hs

theorem drainSlot (s : State) (k : SlotId) (hs : P s) : P (s.drainSlot k) := by
  unfold State.drainSlot
  split
  · rename_i hk
    simp only [Bool.and_eq_true, beq_iff_eq] at hk
    exact h.kept.endPurge _ _ (.inl hk.2) hs
  · exact hs

theorem expireSlot (s : State) (k : SlotId) (hs : P s) : P (s.expireSlot k) := by
  unfold State.expireSlot
  split
  · exact h.kept.expire _ _ _ hs
  · exact hs

theorem completeSending (s : State) (lane : OutLane) (hs : P s) : P (s.completeSending lane) := by
  unfold State.completeSending
  split
  · split
    · exact hs
    · rename_i hsrc
      exact h.settle _ (h.freeFront _ _ hsrc hs)
  · split
    · rename_i hb
      exact h.settle _ (h.freeBack _ hb hs)
    · exact hs

theorem microsecond (s : State) (hs : P s) : P s.microsecond := by
  unfold State.microsecond
  split
  · exact hs
  · exact h.settle _ (inAnyOrder_induct _ _ _ h.kept.choices (fun k _ t ht => h.expireSlot t k ht)
      (h.tick _ (inAnyOrder_induct _ _ _ h.kept.choices
        (fun k _ t ht => h.settle _ (h.completeLoad t k ht)) hs)))

/-- Every command keeps `P`. -/
theorem exec (c : Instr) (s t : State) (hs : P s) (he : exec c s = .next t) : P t := by
  cases c <;> cases he
  case data => exact h.presentAndSettle s _ hs
  case abort => exact h.presentAndSettle s _ hs
  case keyPurge => exact h.presentAndSettle s _ hs
  case purgeAll => exact h.presentAndSettle s _ hs
  case bandSet => exact h.presentAndSettle s _ hs
  case migrateStart => exact h.presentAndSettle s _ hs
  case tripForce => exact h.presentAndSettle s _ hs
  case unwrapComplete slot => exact h.settle _ (h.completeLoad s slot hs)
  case purgeDrain slot => exact h.drainSlot s slot hs
  case purgeExpiry slot => exact h.settle _ (h.expireSlot s slot hs)
  case pendingChangeApply band => exact h.settle _ (h.kept.applyPending s band hs)
  case bitDamage location => exact h.damage s location hs
  case sendStart lane => exact h.startSending s lane hs
  case frameSent lane => exact h.completeSending s lane hs
  case outboundHold lane level => exact h.setOutHold s lane level hs
  case plockAssert => exact h.settle _ (h.assertPlock s hs)
  case plockDeassert => exact h.deassertPlock s hs
  case pfailAssert => exact h.assertPfail s hs
  case pfailDeassert => exact h.deassertPfail s hs
  case linkrstAssert => exact h.assertLinkrst s hs
  case linkrstRelease => exact h.releaseLinkrst s hs
  case porstAssert => exact h.assertPorst s hs
  case porstRelease => exact h.releasePorst s hs
  case microsecondPasses => exact h.microsecond s hs
  all_goals exact h.present s _ hs

end Served

end Sys2Proof.Machine

/-! PROOFS. The notice unit (R165 to R169): what a report and a queued NOTICE do to each class, and that every command
keeps the unit and the notice slots in agreement. -/

namespace Sys2Proof.Machine

/-! ### Classes and slots -/

theorem NoticeClass.idx_ne {k j : NoticeClass} (h : k ≠ j) : k.idx ≠ j.idx := by
  cases k <;> cases j <;> first | exact absurd rfl h | decide

/-- The class of an event after its report, where it queues no NOTICE and where it queues one (R166). -/
def ClassState.reported (c : ClassState) (e : NoticeEvent) : ClassState :=
  { c with latest := some e, counter := c.counted }

/-- Whether one more event queues a NOTICE of its class (R166). -/
def ClassState.fires (c : ClassState) : Prop := c.period ≠ 0 ∧ c.counted = c.period ∧ c.flag = false

theorem queueNotice_classOf_self (s : State) (k : NoticeClass) (e : NoticeEvent) :
    (s.queueNotice k e).classOf k = { s.classOf k with flag := true, counter := 0 } :=
  classOf_setClass_self s k _

theorem queueNotice_classOf_ne (s : State) {k j : NoticeClass} (e : NoticeEvent) (h : k ≠ j) :
    (s.queueNotice k e).classOf j = s.classOf j :=
  classOf_setClass_ne s _ h

theorem queueNotice_slot_self (s : State) (k : NoticeClass) (e : NoticeEvent) :
    (s.queueNotice k e).noticeSlots[k.idx] = some { event := e, count := (s.classOf k).period } :=
  Vector.getElem_set_self _

theorem queueNotice_slot_ne (s : State) {k j : NoticeClass} (e : NoticeEvent) (h : k ≠ j) :
    (s.queueNotice k e).noticeSlots[j.idx] = s.noticeSlots[j.idx] :=
  Vector.getElem_set_ne k.idx.isLt j.idx.isLt (Fin.val_ne_of_ne (NoticeClass.idx_ne h))

theorem report_of_quiet (s : State) (d : Detail) (h : ¬(s.classOf d.noticeClass).fires) :
    s.report d = s.setClass d.noticeClass
      ((s.classOf d.noticeClass).reported { time := s.linkTime, detail := d }) :=
  if_neg h

theorem report_of_fires (s : State) (d : Detail) (h : (s.classOf d.noticeClass).fires) :
    s.report d = (s.setClass d.noticeClass
      ((s.classOf d.noticeClass).reported { time := s.linkTime, detail := d })).queueNotice d.noticeClass
        { time := s.linkTime, detail := d } :=
  if_pos h

/-- A report leaves every other class and its slot. -/
theorem report_other (s : State) (d : Detail) {k : NoticeClass} (h : k ≠ d.noticeClass) :
    (s.report d).classOf k = s.classOf k ∧ (s.report d).noticeSlots[k.idx] = s.noticeSlots[k.idx] := by
  by_cases hf : (s.classOf d.noticeClass).fires
  · rw [report_of_fires s d hf]
    exact ⟨(queueNotice_classOf_ne _ _ h.symm).trans (classOf_setClass_ne s _ h.symm), queueNotice_slot_ne _ _ h.symm⟩
  · rw [report_of_quiet s d hf]
    exact ⟨classOf_setClass_ne s _ h.symm, rfl⟩

/-! ### Agreement -/

theorem ClassOk.counted_le {k : NoticeClass} {c : ClassState} {slot : Option Notice} (h : ClassOk k c slot) :
    c.counted ≤ c.period := by
  obtain ⟨_, hle, _⟩ := h
  unfold ClassState.counted
  split
  · exact hle
  · split <;> omega

/-- An event that queues no NOTICE leaves its class in agreement. -/
theorem ClassOk.reported {k : NoticeClass} {c : ClassState} {slot : Option Notice} (h : ClassOk k c slot)
    {e : NoticeEvent} (he : e.detail.noticeClass = k) (hq : ¬c.fires) : ClassOk k (c.reported e) slot := by
  have hle := h.counted_le
  obtain ⟨hp, _, hslot, _, _, _, hn⟩ := h
  refine ⟨hp, hle, hslot, fun hf h0 => ?_, fun _ => rfl, fun e' he' => ?_, hn⟩
  · exact lt_of_le_of_ne hle fun heq => hq ⟨h0, heq, hf⟩
  · exact Option.some.inj he' ▸ he

/-- A queued NOTICE puts its class in agreement with the slot it fills. -/
theorem ClassOk.queued {k : NoticeClass} {c : ClassState} {e : NoticeEvent} (hp : c.period ≤ Config.periodMax)
    (h0 : c.period ≠ 0) (hl : ∀ e, c.latest = some e → e.detail.noticeClass = k) (he : e.detail.noticeClass = k) :
    ClassOk k { c with flag := true, counter := 0 } (some { event := e, count := c.period }) := by
  refine ⟨hp, Nat.zero_le _, fun _ => rfl, nofun, fun h => absurd rfl h, hl, fun n hn => ?_⟩
  cases hn
  exact ⟨he, Nat.one_le_iff_ne_zero.2 h0, hp⟩

/-- A class whose flag is clear and whose slot is empty, with its counter at 0. -/
theorem ClassOk.cleared {k : NoticeClass} {c : ClassState} {slot : Option Notice} (h : ClassOk k c slot) :
    ClassOk k { c with flag := false, counter := 0 } none := by
  obtain ⟨hp, _, _, _, _, hl, _⟩ := h
  exact ⟨hp, Nat.zero_le _, nofun, fun _ h0 => Nat.pos_of_ne_zero h0, fun h => absurd rfl h, hl, nofun⟩

/-- A class whose slot has been emptied. -/
theorem ClassOk.sent {k : NoticeClass} {c : ClassState} {slot : Option Notice} (h : ClassOk k c slot) :
    ClassOk k c none := by
  obtain ⟨hp, hle, _, hlt, hsome, hl, _⟩ := h
  exact ⟨hp, hle, nofun, hlt, hsome, hl, nofun⟩

/-- One class in agreement, and the others as they were. -/
theorem State.NoticesOk.update {s t : State} (hs : s.NoticesOk) (k : NoticeClass)
    (ho : ∀ j, j ≠ k → t.classOf j = s.classOf j ∧ t.noticeSlots[j.idx] = s.noticeSlots[j.idx])
    (hk : ClassOk k (t.classOf k) t.noticeSlots[k.idx]) : t.NoticesOk := by
  intro j
  by_cases hj : j = k
  · exact hj ▸ hk
  · obtain ⟨hc, hn⟩ := ho j hj
    rw [hc, hn]
    exact hs j

theorem State.NoticesOk.report {s : State} (hs : s.NoticesOk) (d : Detail) : (s.report d).NoticesOk := by
  refine hs.update d.noticeClass (fun j hj => report_other s d hj) ?_
  by_cases hf : (s.classOf d.noticeClass).fires
  · rw [report_of_fires s d hf, queueNotice_classOf_self, queueNotice_slot_self, classOf_setClass_self]
    exact ClassOk.queued (hs d.noticeClass).1 hf.1 (fun e he => Option.some.inj he ▸ rfl) rfl
  · rw [report_of_quiet s d hf, classOf_setClass_self]
    exact (hs d.noticeClass).reported rfl hf

/-! ### What leaves the notice unit alone -/

theorem State.SameNotices.noticesOk {s t : State} (h : s.SameNotices t) (hs : s.NoticesOk) : t.NoticesOk := by
  intro k
  rw [State.classOf, h.1, h.2]
  exact hs k

theorem State.SameNotices.trans {s t u : State} (h : s.SameNotices t) (g : t.SameNotices u) : s.SameNotices u :=
  ⟨g.1.trans h.1, g.2.trans h.2⟩

theorem endAs_sameNotices (s : State) (kind : EndKind) (id : CtxId) (status : TransferStatus) :
    s.SameNotices (s.endAs kind id status) := by
  unfold State.endAs
  split
  · exact ⟨rfl, rfl⟩
  · dsimp only
    split <;> exact ⟨rfl, rfl⟩

theorem payReply_sameNotices (s : State) (owed : Option Byte) (code : RequestCode) (status : ReplyStatus)
    (result : Result) : s.SameNotices (s.payReply owed code status result) := by
  cases owed <;> exact ⟨rfl, rfl⟩

theorem dropPending_sameNotices (s : State) (i : BandId) : s.SameNotices (s.dropPending i) := by
  unfold State.dropPending
  split
  · exact ⟨rfl, rfl⟩
  · split
    · exact ⟨rfl, rfl⟩
    · dsimp only
      split <;> exact payReply_sameNotices (s.setBand i _) _ _ _ _

theorem abandonLoad_sameNotices (s : State) (k : SlotId) : s.SameNotices (s.abandonLoad k) := by
  unfold State.abandonLoad
  split
  · exact payReply_sameNotices (s.endLoad k) _ _ _ _
  · exact ⟨rfl, rfl⟩

theorem dropNaming_sameNotices (s : State) (k : SlotId) : s.SameNotices (s.dropNaming k) :=
  inOrder_induct (P := s.SameNotices) _ _ _ (fun i _ t ht => by
    split
    · exact ht
    · split
      · exact ht.trans (dropPending_sameNotices t i)
      · exact ht) ⟨rfl, rfl⟩

/-! ### What every command keeps -/

theorem State.NoticesOk.moveWatermark {s : State} (hs : s.NoticesOk) (i : BandId) (w : Nat) (announce : Bool) :
    (s.moveWatermark i w announce).NoticesOk := by
  have h1 : ∀ d, (if announce then s.report d else s).NoticesOk := by
    intro d
    split
    · exact hs.report d
    · exact hs
  unfold State.moveWatermark
  split
  · exact hs
  · split
    · exact hs
    · dsimp only
      split
      · exact State.NoticesOk.report (s := (State.setBand _ i _)) (h1 _) _
      · exact h1 _

theorem State.NoticesOk.applyBandSet {s : State} (hs : s.NoticesOk) (i : BandId) (new : Option BandFields) :
    (s.applyBandSet i new).NoticesOk := by
  unfold State.applyBandSet
  split
  · exact hs
  · dsimp only
    split
    · unfold State.replaceWatermark
      split
      · exact hs
      · dsimp only
        split
        · exact hs
        · exact State.NoticesOk.moveWatermark (s := s.setBand i _) hs _ _ _
    · exact hs

theorem State.NoticesOk.applyMigrateStart {s : State} (hs : s.NoticesOk) (i : BandId) (target : SlotId)
    (generation : BitVec 16) : (s.applyMigrateStart i target generation).NoticesOk := by
  unfold State.applyMigrateStart
  split
  · exact hs
  · exact State.NoticesOk.moveWatermark (s := s.setBand i _) hs _ _ _

theorem State.NoticesOk.applyPending {s : State} (hs : s.NoticesOk) (i : BandId) : (s.applyPending i).NoticesOk := by
  unfold State.applyPending
  split
  · exact hs
  · split
    · exact hs
    · split
      · split
        · exact (payReply_sameNotices _ _ _ _ _).noticesOk (hs.applyBandSet _ _)
        · exact (payReply_sameNotices _ _ _ _ _).noticesOk (hs.applyMigrateStart _ _ _)
      · exact hs

theorem State.NoticesOk.endPurge {s : State} (hs : s.NoticesOk) (k : SlotId) : (s.endPurge k).NoticesOk := by
  unfold State.endPurge
  split
  · exact ((payReply_sameNotices (s.erase k) _ _ _ _).noticesOk hs).report _
  · exact hs

theorem State.NoticesOk.unbind {s : State} (hs : s.NoticesOk) (k : SlotId) : (s.unbind k).NoticesOk :=
  inOrder_induct (P := State.NoticesOk) _ _ _ (fun i _ t ht => by
    unfold State.reportFailed
    split
    · exact ht
    · exact ht.report _) hs

theorem noticesOk_kept : Kept State.NoticesOk where
  choices _ _ hs := hs
  report _ d hs := hs.report d
  discards _ _ hs := hs
  latched _ _ hs := hs
  setWrap _ _ _ hs := hs
  endAs s kind id status hs := (endAs_sameNotices s kind id status).noticesOk hs
  applyPending _ i hs := hs.applyPending i
  dropPending s i hs := (dropPending_sameNotices s i).noticesOk hs
  abandonLoad s k hs := (abandonLoad_sameNotices s k).noticesOk hs
  endPurge _ k _ hs := hs.endPurge k
  lockBand _ _ hs := hs
  startPurge s k _ _ _ _ hs :=
    State.NoticesOk.unbind ((dropNaming_sameNotices (s.setSlot k _) k).noticesOk hs) k
  zeroGrace _ _ _ _ _ hs := hs
  poisonAndCut _ _ hs := inAnyOrder_induct (P := State.NoticesOk) _ _ _ (fun _ _ ht => ht)
    (fun id _ t ht => (endAs_sameNotices t _ id _).noticesOk ht) hs

theorem State.NoticesOk.acknowledge {s : State} (hs : s.NoticesOk) (k : NoticeClass) :
    (s.acknowledge k).NoticesOk := by
  unfold State.acknowledge
  dsimp only
  split
  · exact hs
  · rename_i hflag
    obtain ⟨hset, hslot⟩ := not_or.1 hflag
    rw [Bool.not_eq_true, Option.isSome_eq_false_iff, Option.isNone_iff_eq_none] at hslot
    obtain ⟨hp, hle, _, _, hsome, hl, _⟩ := hs k
    have hone : ∀ j, j ≠ k → (s.setClass k { s.classOf k with flag := false }).classOf j = s.classOf j ∧
        (s.setClass k { s.classOf k with flag := false }).noticeSlots[j.idx] = s.noticeSlots[j.idx] :=
      fun j hj => ⟨classOf_setClass_ne s _ hj.symm, rfl⟩
    have hquiet : ((s.classOf k).period ≠ 0 → (s.classOf k).counter < (s.classOf k).period) →
        (s.setClass k { s.classOf k with flag := false }).NoticesOk := by
      intro hlt
      refine hs.update k hone ?_
      rw [classOf_setClass_self]
      exact ⟨hp, hle, fun h => absurd h (by simp [State.setClass, hslot]), fun _ => hlt, hsome, hl,
        fun n h => absurd h (by simp [State.setClass, hslot])⟩
    split
    · rename_i hnone
      refine hquiet fun h0 => ?_
      have hz : (s.classOf k).counter = 0 := by
        by_contra hc
        simp [hnone] at hsome
        exact hc hsome
      omega
    · rename_i e he
      split
      · rename_i hfire
        refine hs.update k (fun j hj => ?_) ?_
        · exact ⟨(queueNotice_classOf_ne _ _ hj.symm).trans (hone j hj).1,
            (queueNotice_slot_ne _ _ hj.symm).trans (hone j hj).2⟩
        · rw [queueNotice_classOf_self, queueNotice_slot_self, classOf_setClass_self]
          exact ClassOk.queued hp hfire.1 hl (hl e he)
      · rename_i hno
        exact hquiet fun h0 => lt_of_le_of_ne hle fun heq => hno ⟨h0, heq⟩

theorem State.NoticesOk.setPeriod {s : State} (hs : s.NoticesOk) (k : NoticeClass) {period : Nat}
    (h : period ≤ Config.periodMax) : (s.setPeriod k period).NoticesOk := by
  refine hs.update k (fun j hj => ⟨classOf_setClass_ne s _ hj.symm, rfl⟩) ?_
  obtain ⟨_, _, hslot, _, _, hl, hn⟩ := hs k
  rw [show (s.setPeriod k period).classOf k = _ from classOf_setClass_self s k _]
  exact ⟨h, Nat.zero_le _, hslot, fun _ h0 => Nat.pos_of_ne_zero h0, fun h => absurd rfl h, hl, hn⟩

theorem State.NoticesOk.clearNotices {s : State} (hs : s.NoticesOk) : s.clearNotices.NoticesOk := by
  intro k
  have hc : s.clearNotices.classOf k = { s.classOf k with flag := false, counter := 0 } := by
    simp [State.clearNotices, State.classOf]
  have hn : s.clearNotices.noticeSlots[k.idx] = none := by simp [State.clearNotices]
  rw [hc, hn]
  exact (hs k).cleared

theorem reset_noticesOk : State.reset.NoticesOk := by
  intro k
  cases k <;> exact ⟨by decide, by decide, by decide, by decide, by decide, nofun, nofun⟩

theorem State.NoticesOk.freeFront {s : State} (hs : s.NoticesOk) (source : FrontSource) :
    (s.freeFront source).NoticesOk := by
  cases source with
  | notice k =>
    refine hs.update k (fun j hj => ⟨rfl, ?_⟩) ?_
    · exact Vector.getElem_set_ne k.idx.isLt j.idx.isLt (Fin.val_ne_of_ne (NoticeClass.idx_ne hj.symm))
    · rw [show (s.freeFront (.notice k)).noticeSlots[k.idx] = none from Vector.getElem_set_self _]
      exact (hs k).sent
  | reply => exact hs
  | data =>
    obtain ⟨_, _, h⟩ := popFront_frame s
    rw [State.freeFront, h]
    exact hs

theorem State.NoticesOk.purgeAllSlot {s : State} (hs : s.NoticesOk) (g : SlotId → Nat) (k : SlotId) :
    (State.purgeAllSlot g k s).NoticesOk := by
  unfold State.purgeAllSlot
  split
  · exact State.NoticesOk.report (s := s.erase k) hs _
  · exact State.NoticesOk.report (s := s.erase k) hs _
  · exact ((payReply_sameNotices (s.erase k) _ _ _ _).noticesOk hs).report _
  · exact hs
  · exact hs

theorem State.NoticesOk.resetPorts {s : State} (hs : s.NoticesOk) : s.resetPorts.NoticesOk := by
  intro k
  rw [show s.resetPorts.noticeSlots[k.idx] = none by simp [State.resetPorts]]
  exact (hs k).sent

/-- Only reports, acknowledgements, new periods, sent NOTICEs and the two resets reach the notice unit. -/
theorem noticesOk_served : Served State.NoticesOk State.NoticesOk where
  kept := noticesOk_kept
  keptOwing := noticesOk_kept
  setHead _ lane _ hs := by cases lane <;> exact hs
  reserve _ _ hs := hs
  reply _ _ _ _ _ hs := hs
  refuse _ _ _ _ hs := hs
  accept _ _ _ _ _ _ _ _ _ _ _ hs := hs
  fragment s id c _ bytes _ _ _ _ hs := by
    obtain ⟨_, _, h⟩ := fragmentTaken_frame s id c bytes
    exact h ▸ hs
  complete s id c _ bytes _ _ _ _ _ hs := by
    obtain ⟨_, _, h⟩ := fragmentTaken_frame s id c bytes
    exact noticesOk_kept.completed (fun _ i w ht => ht.moveWatermark i w true) _ _ _ (h ▸ hs)
  startLoad _ _ _ _ _ _ _ hs := hs
  endLoad _ _ l _ hs := by cases l.owed <;> exact hs
  loaded _ _ l _ _ _ hs := by cases l.owed <;> exact hs
  startPurgeOwed s k _ _ _ _ _ hs :=
    State.NoticesOk.unbind ((dropNaming_sameNotices (s.setSlot k _) k).noticesOk hs) k
  purgeAll := noticesOk_kept.purgeAll (fun _ g k _ hs => hs.purgeAllSlot g k) fun _ _ _ hs => hs
  graceSetting _ _ hs := hs
  damage _ location hs := by cases location <;> exact hs
  stageSet _ _ _ _ _ _ _ _ hs := hs
  applySet _ _ i new _ _ _ hs := hs.applyBandSet i new
  lock _ _ _ _ _ _ _ hs := hs
  stageStart _ _ _ _ _ _ _ hs := hs
  applyStart _ i target generation _ _ hs := hs.applyMigrateStart i target generation
  tripClear _ _ _ hs := hs
  setPeriod _ k _ h hs := hs.setPeriod k h
  acknowledge _ k hs := hs.acknowledge k
  goOnline _ hs := hs
  timeSet _ _ hs := hs
  startSending s lane hs := by
    obtain ⟨_, _, h⟩ := startSending_frame s lane
    exact h ▸ hs
  freeFront s source _ hs := State.NoticesOk.freeFront (s := { s with frontSending := none }) hs source
  freeBack s _ hs := by
    obtain ⟨_, _, h⟩ := popBack_frame { s with backSending := false }
    exact h ▸ hs
  setOutHold _ lane _ hs := by cases lane <;> exact hs
  assertPlock := noticesOk_kept.assertPlock fun _ _ _ hs => hs
  deassertPlock _ hs := hs
  assertPfail := noticesOk_kept.assertPfail fun _ _ _ hs => hs
  deassertPfail _ hs := hs
  assertLinkrst := noticesOk_kept.assertLinkrst (fun _ _ hs => hs) (fun _ hs => hs.resetPorts)
    fun _ hs => hs.clearNotices
  releaseLinkrst _ hs := hs
  assertPorst := assertPorst_induct fun _ => reset_noticesOk
  releasePorst := noticesOk_kept.releasePorst fun _ _ _ hs => hs
  tick _ hs := hs

/-- Settles O51. -/
theorem noticesAreKept : Obligations.NoticesAreKept :=
  fun c s t hs he => noticesOk_served.exec c s t hs he

end Sys2Proof.Machine

/-! PROOFS. Open records (R22, R23): what one byte and a fragment do to a record, and that every command keeps every
record well formed. -/

namespace Sys2Proof.Machine

/-! ### A sector in progress -/

/-- What R23 says of a sector in progress at a sector offset, the first included. -/
def SectorOk (f : Format) (m : MetaMode) (offset : Nat) (residue : List Byte) : Progress → Prop
  | .boundary => False
  | .insector _ _ j _ =>
    (offset < 16 * fullBlocks f m ∧ j = offset / 16 ∧ residue.length = offset % 16) ∨
      (cipheredLength f m ≤ offset ∧ tailBytes f m = 0 ∧ j + 1 = fullBlocks f m ∧ residue = [])
  | .tailing _ _ j _ _ =>
    tailBytes f m = 8 ∧ j + 1 = fullBlocks f m ∧ 16 * fullBlocks f m ≤ offset ∧ offset < cipheredLength f m ∧
      residue.length = offset - 16 * fullBlocks f m

/-- A sector with a tail has no clear bytes (R4, R5). -/
theorem sectorBytes_of_tail {f : Format} {m : MetaMode} (h : tailBytes f m = 8) :
    cipheredLength f m = f.sectorBytes := by
  cases m with
  | ciphered => rfl
  | clear => cases f <;> exact absurd h (by decide)

/-- A byte inside a sector leaves the sector in progress as R23 says. -/
theorem placeByte_sectorOk {dir : Direction} {f : Format} {m : MetaMode} {offset : Nat} {residue : List Byte}
    {p : Progress} {b : Byte} (h : SectorOk f m offset residue p) (hin : offset + 1 < f.sectorBytes) :
    SectorOk f m (offset + 1) (placeByte dir f m offset residue p b).residue
      (placeByte dir f m offset residue p b).progress := by
  have hlc := cipheredLength_eq f m
  cases p with
  | boundary => exact h.elim
  | insector slot k1 j mask =>
    obtain ⟨ho, hj, hlen⟩ | ⟨ho, hr, hj, hres⟩ := h
    · have hlt : offset < cipheredLength f m := by omega
      by_cases hfull : residue.length + 1 < 16
      · rw [placeByte_gather (.insector slot k1 j mask) hlt hfull]
        refine .inl ⟨by omega, by omega, ?_⟩
        simp only [List.length_append, List.length_singleton]
        omega
      · have hlen16 : residue.length + 1 = 16 := by omega
        by_cases hlast : j + 1 < fullBlocks f m
        · rw [placeByte_normal hlt hlen16 hlast]
          exact .inl ⟨by omega, by omega, by simp; omega⟩
        · have hjn : j + 1 = fullBlocks f m := by omega
          by_cases hr : tailBytes f m = 0
          · rw [placeByte_last hlt hlen16 hjn hr]
            exact .inr ⟨by omega, hr, hjn, rfl⟩
          · rw [placeByte_hold hlt hlen16 hjn hr]
            have h8 := (tailBytes_eq_zero_or_eight f m).resolve_left hr
            exact ⟨h8, hjn, by omega, by omega, by simp; omega⟩
    · rw [placeByte_clear _ ho]
      exact .inr ⟨by omega, hr, hj, hres⟩
  | tailing slot k1 j mask held =>
    obtain ⟨hr, hj, hge, hlt, hlen⟩ := h
    have hs := sectorBytes_of_tail hr
    rw [placeByte_gather (.tailing slot k1 j mask held) hlt
      (show residue.length + 1 < tailBytes f m by omega)]
    refine ⟨hr, hj, by omega, by omega, ?_⟩
    simp only [List.length_append, List.length_singleton]
    omega

/-! ### A record -/

theorem sectorBytes_pos (f : Format) : 0 < f.sectorBytes := by
  cases f <;> decide

theorem Context.ok.sectorOk {c : Context} (h : c.ok) (hp : c.progress ≠ .boundary) :
    SectorOk c.format c.metaMode c.offset c.residue c.progress := by
  obtain ⟨_, _, h⟩ := h
  revert h hp
  cases c.progress with
  | boundary => exact fun hp => absurd rfl hp
  | insector => exact fun _ h => h.2
  | tailing => exact fun _ h => h

theorem Context.ok_of_sectorOk {c : Context} (hd : c.sectorsDone < c.count) (ho : c.offset < c.format.sectorBytes)
    (hpos : 0 < c.offset) (h : SectorOk c.format c.metaMode c.offset c.residue c.progress) : c.ok := by
  refine ⟨hd, ho, ?_⟩
  revert h
  cases c.progress with
  | boundary => exact False.elim
  | insector => exact fun h => ⟨hpos, h⟩
  | tailing => exact id

/-- A sector start that passes leaves a sector in progress. -/
theorem startSector_ok {s : State} {c c1 : Context} (hc : c.ok) (h : s.startSector c = .ok c1) :
    c1.sectorsDone < c1.count ∧ c1.offset < c1.format.sectorBytes ∧
      SectorOk c1.format c1.metaMode c1.offset c1.residue c1.progress := by
  unfold State.startSector at h
  split at h
  · rename_i hp
    dsimp only at h
    split at h
    · cases h
    · cases h
      obtain ⟨hd, ho, hb⟩ := hc
      rw [hp] at hb
      obtain ⟨hb0, hres⟩ := hb
      refine ⟨hd, ho, .inl ⟨?_, ?_, ?_⟩⟩
      · rw [hb0]
        exact Nat.mul_pos (by decide) (fullBlocks_pos _ _)
      · simp [hb0]
      · simp [hb0, hres]
  · rename_i hp
    cases h
    exact ⟨hc.1, hc.2.1, hc.sectorOk hp⟩

/-- A byte taken leaves the record well formed, unless it ends the last sector. -/
theorem takeByte_ok {c : Context} {b : Byte} (hd : c.sectorsDone < c.count) (ho : c.offset < c.format.sectorBytes)
    (h : SectorOk c.format c.metaMode c.offset c.residue c.progress)
    (hlast : (c.takeByte b).1.sectorsDone ≠ (c.takeByte b).1.count) : (c.takeByte b).1.ok := by
  unfold Context.takeByte at hlast ⊢
  dsimp only at hlast ⊢
  split
  · rename_i he
    rw [if_pos he] at hlast
    exact ⟨lt_of_le_of_ne hd hlast, sectorBytes_pos _, rfl, rfl⟩
  · rename_i he
    have hin : c.offset + 1 < c.format.sectorBytes := lt_of_le_of_ne ho he
    exact Context.ok_of_sectorOk hd hin (Nat.succ_pos _) (placeByte_sectorOk h hin)

/-- A fragment that does not complete its context leaves the record well formed. -/
theorem takeBytes_ok {s : State} {bytes : List Byte} {c : Context} (hc : c.ok)
    (hstop : ∀ o, (s.takeBytes bytes c).stop ≠ .complete o) : (s.takeBytes bytes c).ctx.ok := by
  induction bytes generalizing c with
  | nil => exact hc
  | cons b bs ih =>
    unfold State.takeBytes at hstop ⊢
    cases hstart : s.startSector c with
    | error k => exact hc
    | ok c1 =>
      obtain ⟨hd, ho, hsec⟩ := startSector_ok hc hstart
      rw [hstart] at hstop
      dsimp only at hstop ⊢
      split
      · rename_i hend
        exact absurd (by rw [if_pos hend]) (hstop (!bs.isEmpty))
      · rename_i hend
        rw [if_neg hend] at hstop
        exact ih (takeByte_ok hd ho hsec hend) hstop

/-- A fragment moves through its sectors and leaves what the OPEN gave. -/
theorem takeBytes_frame (s : State) (bytes : List Byte) (c : Context) :
    ∃ n o r p, (s.takeBytes bytes c).ctx = { c with sectorsDone := n, offset := o, residue := r, progress := p } := by
  induction bytes generalizing c with
  | nil => exact ⟨_, _, _, _, rfl⟩
  | cons b bs ih =>
    unfold State.takeBytes
    cases hstart : s.startSector c with
    | error k => exact ⟨_, _, _, _, rfl⟩
    | ok c1 =>
      have hc1 : ∃ p, c1 = { c with progress := p } := by
        unfold State.startSector at hstart
        split at hstart
        · dsimp only at hstart
          split at hstart
          · cases hstart
          · exact ⟨_, (Except.ok.inj hstart).symm⟩
        · exact ⟨_, (Except.ok.inj hstart).symm⟩
      obtain ⟨p, rfl⟩ := hc1
      have hbyte : ∃ n o r q, ({ c with progress := p }.takeByte b).1 =
          { c with sectorsDone := n, offset := o, residue := r, progress := q } := by
        unfold Context.takeByte
        dsimp only
        split <;> exact ⟨_, _, _, _, rfl⟩
      obtain ⟨n, o, r, q, hbyte⟩ := hbyte
      dsimp only
      split
      · exact ⟨n, o, r, q, hbyte⟩
      · obtain ⟨n', o', r', q', hrest⟩ := ih ({ c with progress := p }.takeByte b).1
        rw [hbyte] at hrest
        exact ⟨n', o', r', q', by rw [hbyte]; exact hrest⟩

/-! ### What every command keeps -/

theorem fragmentTaken_contexts_self (s : State) (id : CtxId) (c : Context) (bytes : List Byte) :
    (s.fragmentTaken id c bytes).contexts[id] = some (s.takeBytes bytes c).ctx := by
  obtain ⟨_, _, h⟩ := fragmentTaken_frame s id c bytes
  rw [h]
  exact setContext_get_self s id _

theorem fragmentTaken_contexts_ne (s : State) {id j : CtxId} (c : Context) (bytes : List Byte) (h : id ≠ j) :
    (s.fragmentTaken id c bytes).contexts[j] = s.contexts[j] := by
  obtain ⟨_, _, hf⟩ := fragmentTaken_frame s id c bytes
  rw [hf]
  exact setContext_get_ne s _ h

/-- Records that are each FREE or as they were are well formed where those were. -/
theorem State.RecordsOk.mono {s t : State} (hs : s.RecordsOk)
    (h : ∀ id : CtxId, t.contexts[id] = none ∨ t.contexts[id] = s.contexts[id]) : t.RecordsOk := by
  intro id c hc
  obtain hn | he := h id
  · cases hn.symm.trans hc
  · exact hs id c (he ▸ hc)

theorem State.RecordsOk.of_transfers {s t : State} (hs : s.RecordsOk) (h : t.transfers = s.transfers) :
    t.RecordsOk :=
  hs.mono fun id => .inr (congrArg (fun v : Vector (Option Context) 64 => v[id]) (contexts_of_transfers h))

theorem State.RecordsOk.endAs {s : State} (hs : s.RecordsOk) (kind : EndKind) (id : CtxId)
    (status : TransferStatus) : (s.endAs kind id status).RecordsOk := by
  refine hs.mono fun j => ?_
  rw [endAs_contexts]
  split
  · exact .inl rfl
  · exact .inr rfl

theorem recordsOk_of_free {s : State} (h : ∀ id : CtxId, s.contexts[id] = none) : s.RecordsOk :=
  fun id _ hc => nomatch (h id).symm.trans hc

theorem startPurge_transfers (s : State) (k : SlotId) (m : Material) (account : Account) :
    (s.startPurge k m account).transfers = s.transfers :=
  (unbind_transfers _ _).trans (dropNaming_transfers _ _)

theorem recordsOk_kept : Kept State.RecordsOk where
  choices _ _ hs := hs
  report s d hs := hs.of_transfers (report_transfers s d)
  discards _ _ hs := hs
  latched _ _ hs := hs
  setWrap _ _ _ hs := hs
  endAs _ kind id status hs := hs.endAs kind id status
  applyPending s i hs := hs.of_transfers (applyPending_transfers s i)
  dropPending s i hs := hs.of_transfers (dropPending_transfers s i)
  abandonLoad s k hs := hs.of_transfers (abandonLoad_transfers s k)
  endPurge s k _ hs := hs.of_transfers (endPurge_transfers s k)
  lockBand _ _ hs := hs
  startPurge s k m account _ _ hs := hs.of_transfers (startPurge_transfers s k m account)
  zeroGrace _ _ _ _ _ hs := hs
  poisonAndCut _ _ hs := inAnyOrder_induct (P := State.RecordsOk) _ _ _ (fun _ _ ht => ht)
    (fun id _ _ ht => ht.endAs _ id _) hs

/-- An accepted OPEN stands in BOUNDARY before its first sector (R29). -/
theorem newContext_ok (s : State) (dir : Direction) (migrate : Bool) (ns : Ns) (first : Nat) {count : Nat}
    (h : 0 < count) : (s.newContext dir migrate ns first count).ok :=
  ⟨h, sectorBytes_pos _, rfl, rfl⟩

theorem State.RecordsOk.setContext {s : State} (hs : s.RecordsOk) (id : CtxId) {c : Context} (hc : c.ok) :
    (s.setContext id (some c)).RecordsOk := by
  intro j d hd
  by_cases hj : id = j
  · subst hj
    cases (setContext_get_self s id _).symm.trans hd
    exact hc
  · exact hs j d ((setContext_get_ne s _ hj).symm.trans hd)

theorem State.RecordsOk.complete {s : State} (hs : s.RecordsOk) (id : CtxId) (c : Context) (bytes : List Byte)
    (status : TransferStatus) : ((s.fragmentTaken id c bytes).endContext id status).RecordsOk := by
  refine hs.mono fun j => ?_
  rw [State.endContext, endAs_contexts]
  split
  · exact .inl rfl
  · rename_i hj
    exact .inr (fragmentTaken_contexts_ne s c bytes hj)

theorem State.RecordsOk.fragmentTaken {s : State} (hs : s.RecordsOk) (id : CtxId) (c : Context) (bytes : List Byte)
    (hc : (s.takeBytes bytes c).ctx.ok) : (s.fragmentTaken id c bytes).RecordsOk := by
  obtain ⟨_, _, h⟩ := fragmentTaken_frame s id c bytes
  rw [h]
  exact hs.setContext id hc

/-- The advance of a migrate writer leaves the records. -/
theorem completed_contexts (s : State) (id : CtxId) (c : Context) :
    (s.completed id c).contexts = (s.endContext id .ok).contexts := by
  unfold State.completed State.advance
  split
  · split
    · rfl
    · split
      · rfl
      · exact contexts_of_transfers (moveWatermark_transfers _ _ _ _)
  · rfl

/-- Only OPENs, fragments and ends reach the records; a record that is past its last sector has ended. -/
theorem recordsOk_served : Served State.RecordsOk State.RecordsOk where
  kept := recordsOk_kept
  keptOwing := recordsOk_kept
  setHead _ lane _ hs := by cases lane <;> exact hs
  reserve _ _ hs := hs
  reply _ _ _ _ _ hs := hs
  refuse _ _ _ _ hs := hs
  accept s id _ _ _ _ _ _ _ _ h0 hs := State.RecordsOk.setContext hs id (newContext_ok s _ _ _ _ h0)
  fragment _ id c _ bytes hc _ _ hstop hs := hs.fragmentTaken id c bytes (takeBytes_ok (hs id c hc) hstop)
  complete s id c _ bytes _ _ _ _ _ hs :=
    (hs.complete id c bytes .ok).mono fun j => .inr
      (congrArg (fun v : Vector (Option Context) 64 => v[j]) (completed_contexts _ _ _))
  startLoad _ _ _ _ _ _ _ hs := hs
  endLoad _ _ l _ hs := by cases l.owed <;> exact hs
  loaded _ _ l _ _ _ hs := by cases l.owed <;> exact hs
  startPurgeOwed s k m account _ _ _ hs := hs.of_transfers (startPurge_transfers s k m account)
  purgeAll := recordsOk_kept.purgeAll (fun s g k _ hs => hs.of_transfers (purgeAllSlot_transfers g k s)) fun _ _ _ hs => hs
  graceSetting _ _ hs := hs
  damage _ location hs := by cases location <;> exact hs
  stageSet _ _ _ _ _ _ _ _ hs := hs
  applySet s _ i new _ _ _ hs := hs.of_transfers (applyBandSet_transfers s i new)
  lock _ _ _ _ _ _ _ hs := hs
  stageStart _ _ _ _ _ _ _ hs := hs
  applyStart s i target generation _ _ hs := hs.of_transfers (applyMigrateStart_transfers s i target generation)
  tripClear _ _ _ hs := hs
  setPeriod _ _ _ _ hs := hs
  acknowledge s k hs := by
    unfold State.acknowledge
    dsimp only
    repeat' split
    all_goals exact hs
  goOnline _ hs := hs
  timeSet _ _ hs := hs
  startSending s lane hs := by
    obtain ⟨_, _, h⟩ := startSending_frame s lane
    exact h ▸ hs
  freeFront s source _ hs := by
    cases source with
    | notice => exact hs
    | reply => exact hs
    | data =>
      obtain ⟨_, _, h⟩ := popFront_frame { s with frontSending := none }
      rw [State.freeFront, h]
      exact hs
  freeBack s _ hs := by
    obtain ⟨_, _, h⟩ := popBack_frame { s with backSending := false }
    exact h ▸ hs
  setOutHold _ lane _ hs := by cases lane <;> exact hs
  assertPlock := recordsOk_kept.assertPlock fun _ _ _ hs => hs
  deassertPlock _ hs := hs
  assertPfail := recordsOk_kept.assertPfail fun _ _ _ hs => hs
  deassertPfail _ hs := hs
  assertLinkrst := recordsOk_kept.assertLinkrst (fun _ _ hs => hs)
    (fun _ _ => recordsOk_of_free fun _ => Vector.getElem_replicate _) fun _ hs => hs
  releaseLinkrst _ hs := hs
  assertPorst := assertPorst_induct fun _ => recordsOk_of_free fun _ => Vector.getElem_replicate _
  releasePorst := recordsOk_kept.releasePorst fun _ _ _ hs => hs
  tick _ hs := hs

/-- Settles O55. -/
theorem recordsAreKept : Obligations.RecordsAreKept :=
  fun c s t hs he => recordsOk_served.exec c s t hs he

end Sys2Proof.Machine

/-! PROOFS. The places of the output queues (R148, R149): every command keeps each id's DONE and END place as its
context and the queues say, and at most 16 DATA places of each queue filled. -/

namespace Sys2Proof.Machine

/-! ### One id, and all of them -/

theorem State.PlacesOfOk.congr {s t : State} {id : CtxId} (hs : s.PlacesOfOk id)
    (hc : (t.contexts[id]).map (·.dir) = (s.contexts[id]).map (·.dir)) (hd : t.donePlaces[id] = s.donePlaces[id])
    (he : t.endPlaces[id] = s.endPlaces[id])
    (hf : t.frontQueue.countP (FrontEntry.isDoneOf id) = s.frontQueue.countP (FrontEntry.isDoneOf id))
    (hb : t.backQueue.countP (BackEntry.isEndedOf id) = s.backQueue.countP (BackEntry.isEndedOf id)) :
    t.PlacesOfOk id := by
  obtain ⟨h1, h2, h3, h4⟩ := hs
  have hopen : (t.contexts[id]).isSome = (s.contexts[id]).isSome := by
    rw [← Option.isSome_map (f := (·.dir)), hc, Option.isSome_map]
  have hwrite : (∃ c, t.contexts[id] = some c ∧ c.dir = .write) ↔ ∃ c, s.contexts[id] = some c ∧ c.dir = .write := by
    rw [← Option.map_eq_some_iff, hc, Option.map_eq_some_iff]
  exact ⟨by rw [hd, hopen]; exact h1, by rw [he, hwrite]; exact h2, by rw [hd, hf]; exact h3, by rw [he, hb]; exact h4⟩

theorem State.PlacesOk.of_transfers {s t : State} (hs : s.PlacesOk) (h : t.transfers = s.transfers) : t.PlacesOk := by
  simp only [State.transfers, Prod.mk.injEq] at h
  obtain ⟨hc, hf, hd, hb, he⟩ := h
  unfold State.PlacesOk State.PlacesOfOk
  rw [hc, hf, hd, hb, he]
  exact hs

theorem placesOk_of_idle {s : State} (hf : s.frontQueue = []) (hb : s.backQueue = [])
    (hd : s.donePlaces = Vector.replicate 64 .idle) (he : s.endPlaces = Vector.replicate 64 .idle)
    (hc : s.contexts = Vector.replicate 64 none) : s.PlacesOk := by
  refine ⟨by simp [hf], by simp [hb], fun id => ?_⟩
  simp [State.PlacesOfOk, hf, hb, hd, he, hc]

/-! ### An end -/

@[simp] theorem countP_isDoneOf_done (id j : CtxId) (status : TransferStatus) (n : Nat) (e : BitVec 32)
    (q : List FrontEntry) : (q ++ [FrontEntry.done id status n e]).countP (FrontEntry.isDoneOf j) =
      q.countP (FrontEntry.isDoneOf j) + if id = j then 1 else 0 := by
  simp [List.countP_append, List.countP_singleton, FrontEntry.isDoneOf]

@[simp] theorem countP_isEndedOf_ended (id j : CtxId) (status : TransferStatus) (n : Nat)
    (q : List BackEntry) : (q ++ [BackEntry.ended id status n]).countP (BackEntry.isEndedOf j) =
      q.countP (BackEntry.isEndedOf j) + if id = j then 1 else 0 := by
  simp [List.countP_append, List.countP_singleton, BackEntry.isEndedOf]

/-- What the end of an open context does to the transfer unit and the output queues (R39, R42, R148, R149). -/
theorem endAs_transfers {s : State} {id : CtxId} {c : Context} (h : s.contexts[id] = some c) (kind : EndKind)
    (status : TransferStatus) :
    (s.endAs kind id status).transfers =
      (s.contexts.set id none, s.frontQueue ++ [.done id status c.sectorsDone (s.linkTime - c.openTime)],
        s.donePlaces.set id .filled,
        if c.dir = .write then s.backQueue ++ [.ended id status c.sectorsDone] else s.backQueue,
        if c.dir = .write then s.endPlaces.set id .filled else s.endPlaces) := by
  unfold State.endAs
  rw [h]
  dsimp only
  split <;> rfl

/-- A FREE record has no end (R43). -/
theorem endAs_of_free {s : State} {id : CtxId} (h : s.contexts[id] = none) (kind : EndKind)
    (status : TransferStatus) : s.endAs kind id status = s := by
  unfold State.endAs
  rw [h]

theorem State.PlacesOk.endAs {s : State} (hs : s.PlacesOk) (kind : EndKind) (id : CtxId) (status : TransferStatus) :
    (s.endAs kind id status).PlacesOk := by
  cases hc : s.contexts[id] with
  | none =>
    rw [endAs_of_free hc]
    exact hs
  | some c =>
    obtain ⟨hfront, hback, hids⟩ := hs
    have ht := endAs_transfers hc kind status
    simp only [State.transfers, Prod.mk.injEq] at ht
    obtain ⟨hctx, hf, hd, hb, he⟩ := ht
    refine ⟨?_, ?_, fun j => ?_⟩
    · rw [hf]
      simpa [List.countP_append, FrontEntry.inDataPlace] using hfront
    · rw [hb]
      split
      · simpa [List.countP_append, BackEntry.inDataPlace] using hback
      · exact hback
    · obtain ⟨h1, h2, h3, h4⟩ := hids j
      unfold State.PlacesOfOk
      rw [hctx, hf, hd, hb, he]
      by_cases hj : id = j
      · subst hj
        have hres : s.donePlaces[id] = .reserved := h1.2 (by rw [hc]; rfl)
        rw [hres] at h3
        by_cases hw : c.dir = .write
        · have hend : s.endPlaces[id] = .reserved := h2.2 ⟨c, hc, hw⟩
          rw [hend] at h4
          simp_all [-List.countP_eq_zero, -List.countP_append]
        · have hend : s.endPlaces[id] ≠ .reserved := fun h => by
            obtain ⟨c', hc', hw'⟩ := h2.1 h
            exact hw (Option.some.inj (hc.symm.trans hc') ▸ hw')
          simp_all [-List.countP_eq_zero, -List.countP_append]
      · have hne : id.val ≠ j.val := Fin.val_ne_of_ne hj
        by_cases hw : c.dir = .write <;> simp_all [-List.countP_eq_zero, -List.countP_append]

/-! ### OPENs and fragments -/

theorem State.PlacesOk.accept {s : State} (hs : s.PlacesOk) {id : CtxId} (c : Context) (hc : s.contexts[id] = none)
    (hd : s.donePlaces[id] ≠ .filled) (he : s.endPlaces[id] ≠ .filled) : (s.acceptContext id c).PlacesOk := by
  obtain ⟨hfront, hback, hids⟩ := hs
  refine ⟨hfront, hback, fun j => ?_⟩
  obtain ⟨h1, h2, h3, h4⟩ := hids j
  change ((s.donePlaces.set id .reserved)[j] = .reserved ↔ ((s.contexts.set id (some c))[j]).isSome = true) ∧
    ((if c.dir = .write then s.endPlaces.set id .reserved else s.endPlaces)[j] = .reserved ↔
      ∃ c', (s.contexts.set id (some c))[j] = some c' ∧ c'.dir = .write) ∧
    s.frontQueue.countP (FrontEntry.isDoneOf j) = (if (s.donePlaces.set id .reserved)[j] = .filled then 1 else 0) ∧
    s.backQueue.countP (BackEntry.isEndedOf j) =
      (if (if c.dir = .write then s.endPlaces.set id .reserved else s.endPlaces)[j] = .filled then 1 else 0)
  by_cases hj : id = j
  · subst hj
    have hend : s.endPlaces[id] ≠ .reserved := fun h => by
      obtain ⟨c', hc', _⟩ := h2.1 h
      cases hc.symm.trans hc'
    by_cases hw : c.dir = .write <;> simp_all [-List.countP_eq_zero, -List.countP_append]
  · have hne : id.val ≠ j.val := Fin.val_ne_of_ne hj
    by_cases hw : c.dir = .write <;> simp_all [-List.countP_eq_zero, -List.countP_append]

theorem State.PlacesOk.appendReleased {s : State} (hs : s.PlacesOk) (id : CtxId) (dir : Direction) (bytes : List Byte)
    (hp : ∀ lane, dir = laneDir lane → s.pairedPlaceFree lane = true) : (s.appendReleased id dir bytes).PlacesOk := by
  obtain ⟨hfront, hback, hids⟩ := hs
  unfold State.appendReleased
  split
  · exact ⟨hfront, hback, hids⟩
  · cases dir with
    | write =>
      have hfree := of_decide_eq_true (hp .front rfl)
      refine ⟨hfront, ?_, fun j => (hids j).congr rfl rfl rfl rfl ?_⟩
      · simpa [State.appendBack, List.countP_append, BackEntry.inDataPlace] using hfree
      · simp [State.appendBack, List.countP_append, BackEntry.isEndedOf]
    | read =>
      have hfree := of_decide_eq_true (hp .back rfl)
      refine ⟨?_, hback, fun j => (hids j).congr rfl rfl rfl ?_ rfl⟩
      · simpa [State.appendFront, List.countP_append, FrontEntry.inDataPlace] using hfree
      · simp [State.appendFront, List.countP_append, FrontEntry.isDoneOf]

theorem State.PlacesOk.fragmentTaken {s : State} (hs : s.PlacesOk) {id : CtxId} {c : Context} {lane : InLane}
    (bytes : List Byte) (hc : s.contexts[id] = some c) (hd : c.dir = laneDir lane)
    (hp : s.pairedPlaceFree lane = true) : (s.fragmentTaken id c bytes).PlacesOk := by
  obtain ⟨n, o, r, p, hctx⟩ := takeBytes_frame s bytes c
  obtain ⟨hfront, hback, hids⟩ := hs
  refine State.PlacesOk.appendReleased (s := s.setContext id _) ⟨hfront, hback, fun j => (hids j).congr ?_ rfl rfl rfl rfl⟩ _ _ _ fun l hl => ?_
  · by_cases hj : id = j
    · subst hj
      rw [setContext_get_self, hc, hctx]
      rfl
    · rw [setContext_get_ne s _ hj]
  · cases lane <;> cases l <;> first | exact hp | exact absurd (hd.symm.trans hl) (by decide)

/-! ### Sent frames -/

theorem State.PlacesOk.popFront {s : State} (hs : s.PlacesOk) : s.popFront.PlacesOk := by
  obtain ⟨hfront, hback, hids⟩ := hs
  unfold State.popFront
  split
  · exact ⟨hfront, hback, hids⟩
  · rename_i id status n e rest hq
    refine ⟨by simpa [hq, FrontEntry.inDataPlace] using hfront, hback, fun j => ?_⟩
    obtain ⟨h1, h2, h3, h4⟩ := hids j
    unfold State.PlacesOfOk
    by_cases hj : id = j
    · subst hj
      rw [hq, List.countP_cons_of_pos (by simp [FrontEntry.isDoneOf])] at h3
      have hfill : s.donePlaces[id] = .filled := by
        by_contra hno
        rw [if_neg hno] at h3
        omega
      simp_all [-List.countP_eq_zero, -List.countP_append]
    · have hne : id.val ≠ j.val := Fin.val_ne_of_ne hj
      rw [hq, List.countP_cons_of_neg (by simpa [FrontEntry.isDoneOf] using hj)] at h3
      simp_all [-List.countP_eq_zero, -List.countP_append]
  · rename_i hq
    exact ⟨(List.sublist_cons_self _ _).countP_le.trans (hq ▸ hfront), hback,
      fun j => (hids j).congr rfl rfl rfl (by simp [hq, FrontEntry.isDoneOf]) rfl⟩
  · rename_i hq
    exact ⟨(List.sublist_cons_self _ _).countP_le.trans (hq ▸ hfront), hback,
      fun j => (hids j).congr rfl rfl rfl (by simp [hq, FrontEntry.isDoneOf]) rfl⟩

theorem State.PlacesOk.popBack {s : State} (hs : s.PlacesOk) : s.popBack.PlacesOk := by
  obtain ⟨hfront, hback, hids⟩ := hs
  unfold State.popBack
  split
  · exact ⟨hfront, hback, hids⟩
  · rename_i id status n rest hq
    refine ⟨hfront, by simpa [hq, BackEntry.inDataPlace] using hback, fun j => ?_⟩
    obtain ⟨h1, h2, h3, h4⟩ := hids j
    unfold State.PlacesOfOk
    by_cases hj : id = j
    · subst hj
      rw [hq, List.countP_cons_of_pos (by simp [BackEntry.isEndedOf])] at h4
      have hfill : s.endPlaces[id] = .filled := by
        by_contra hno
        rw [if_neg hno] at h4
        omega
      simp_all [-List.countP_eq_zero, -List.countP_append]
    · have hne : id.val ≠ j.val := Fin.val_ne_of_ne hj
      rw [hq, List.countP_cons_of_neg (by simpa [BackEntry.isEndedOf] using hj)] at h4
      simp_all [-List.countP_eq_zero, -List.countP_append]
  · rename_i hq
    exact ⟨hfront, (List.sublist_cons_self _ _).countP_le.trans (hq ▸ hback),
      fun j => (hids j).congr rfl rfl rfl rfl (by simp [hq, BackEntry.isEndedOf])⟩

/-! ### What every command keeps -/

theorem placesOk_kept : Kept State.PlacesOk where
  choices _ _ hs := hs
  report s d hs := hs.of_transfers (report_transfers s d)
  discards _ _ hs := hs
  latched _ _ hs := hs
  setWrap _ _ _ hs := hs
  endAs _ kind id status hs := hs.endAs kind id status
  applyPending s i hs := hs.of_transfers (applyPending_transfers s i)
  dropPending s i hs := hs.of_transfers (dropPending_transfers s i)
  abandonLoad s k hs := hs.of_transfers (abandonLoad_transfers s k)
  endPurge s k _ hs := hs.of_transfers (endPurge_transfers s k)
  lockBand _ _ hs := hs
  startPurge s k m account _ _ hs := hs.of_transfers (startPurge_transfers s k m account)
  zeroGrace _ _ _ _ _ hs := hs
  poisonAndCut _ _ hs := inAnyOrder_induct (P := State.PlacesOk) _ _ _ (fun _ _ ht => ht)
    (fun id _ _ ht => ht.endAs _ id _) hs

/-- A passed OPEN found its record FREE (R25). -/
theorem contexts_of_openRefusal {s : State} {id : CtxId} {dir : Direction} {migrate : Bool} {ns : Option Ns}
    {first count : Nat} (h : s.openRefusal id dir migrate ns first count = none) : s.contexts[id] = none := by
  unfold State.openRefusal at h
  split at h
  · cases h
  · split at h
    · cases h
    · rename_i hn
      exact Option.not_isSome_iff_eq_none.1 hn

/-- Only OPENs, fragments, ends and sendings reach the places and the entries that fill them. -/
theorem placesOk_served : Served State.PlacesOk State.PlacesOk where
  kept := placesOk_kept
  keptOwing := placesOk_kept
  setHead _ lane _ hs := by cases lane <;> exact hs
  reserve _ _ hs := hs
  reply _ _ _ _ _ hs := hs
  refuse s id status hfree hs := by
    obtain ⟨_, hback, hids⟩ := hs
    refine ⟨?_, hback, fun j => (hids j).congr rfl rfl rfl ?_ rfl⟩
    · simpa [State.appendFront, List.countP_append, FrontEntry.inDataPlace] using of_decide_eq_true hfree
    · simp [State.appendFront, List.countP_append, FrontEntry.isDoneOf]
  accept _ _ _ _ _ _ _ hr hd he _ hs := hs.accept _ (contexts_of_openRefusal hr) hd he
  fragment _ _ _ _ bytes hc hd hp _ hs := hs.fragmentTaken bytes hc hd hp
  complete _ _ _ _ bytes _ hc hd hp _ hs := placesOk_kept.completed
    (fun t i w ht => ht.of_transfers (moveWatermark_transfers t i w true)) _ _ _ (hs.fragmentTaken bytes hc hd hp)
  startLoad _ _ _ _ _ _ _ hs := hs
  endLoad _ _ l _ hs := by cases l.owed <;> exact hs
  loaded _ _ l _ _ _ hs := by cases l.owed <;> exact hs
  startPurgeOwed s k m account _ _ _ hs := hs.of_transfers (startPurge_transfers s k m account)
  purgeAll := placesOk_kept.purgeAll (fun s g k _ hs => hs.of_transfers (purgeAllSlot_transfers g k s)) fun _ _ _ hs => hs
  graceSetting _ _ hs := hs
  damage _ location hs := by cases location <;> exact hs
  stageSet _ _ _ _ _ _ _ _ hs := hs
  applySet s _ i new _ _ _ hs := hs.of_transfers (applyBandSet_transfers s i new)
  lock _ _ _ _ _ _ _ hs := hs
  stageStart _ _ _ _ _ _ _ hs := hs
  applyStart s i target generation _ _ hs := hs.of_transfers (applyMigrateStart_transfers s i target generation)
  tripClear _ _ _ hs := hs
  setPeriod _ _ _ _ hs := hs
  acknowledge s k hs := by
    unfold State.acknowledge
    dsimp only
    repeat' split
    all_goals exact hs
  goOnline _ hs := hs
  timeSet _ _ hs := hs
  startSending s lane hs := by
    obtain ⟨_, _, h⟩ := startSending_frame s lane
    exact h ▸ hs
  freeFront s source _ hs := by
    cases source with
    | notice => exact hs
    | reply => exact hs
    | data => exact State.PlacesOk.popFront (s := { s with frontSending := none }) hs
  freeBack s _ hs := State.PlacesOk.popBack (s := { s with backSending := false }) hs
  setOutHold _ lane _ hs := by cases lane <;> exact hs
  assertPlock := placesOk_kept.assertPlock fun _ _ _ hs => hs
  deassertPlock _ hs := hs
  assertPfail := placesOk_kept.assertPfail fun _ _ _ hs => hs
  deassertPfail _ hs := hs
  assertLinkrst := placesOk_kept.assertLinkrst (fun _ _ hs => hs)
    (fun _ _ => placesOk_of_idle rfl rfl rfl rfl rfl) fun _ hs => hs
  releaseLinkrst _ hs := hs
  assertPorst := assertPorst_induct fun _ => placesOk_of_idle rfl rfl rfl rfl rfl
  releasePorst := placesOk_kept.releasePorst fun _ _ _ hs => hs
  tick _ hs := hs

/-- Settles O53. -/
theorem placesAreKept : Obligations.PlacesAreKept :=
  fun c s t hs he => placesOk_served.exec c s t hs he

end Sys2Proof.Machine

/-! PROOFS. Open counts and holder counts (R58, R90): what an OPEN and an end do to them, that no other work reaches
them, and that every command keeps them equal to the contexts they count. -/

namespace Sys2Proof.Machine

/-! ### Counting open contexts -/

/-- Two properties of a list's elements that differ at one element alone. -/
theorem countP_update {α : Type} {p q : α → Bool} {a : α} {xs : List α} (hn : xs.Nodup) (hm : a ∈ xs)
    (h : ∀ b, b ≠ a → p b = q b) (hp : p a = false) (hq : q a = true) : xs.countP q = xs.countP p + 1 := by
  induction xs with
  | nil => cases hm
  | cons x xs ih =>
    obtain ⟨hx, hn⟩ := List.nodup_cons.1 hn
    obtain rfl | hm := List.mem_cons.1 hm
    · rw [List.countP_cons_of_pos hq, List.countP_cons_of_neg (by simp [hp])]
      congr 1
      exact List.countP_congr fun b hb => by rw [h b fun he => hx (he ▸ hb)]
    · have hne : x ≠ a := fun he => hx (he ▸ hm)
      have := ih hn hm
      cases hb : q x with
      | true => rw [List.countP_cons_of_pos hb, List.countP_cons_of_pos ((h x hne).trans hb), this]
      | false => rw [List.countP_cons_of_neg (by simp [hb]), List.countP_cons_of_neg (by simp [h x hne, hb]), this]

/-- Whether a record is open with a property. -/
def openHas (p : Context → Bool) (c : Option Context) : Bool := c.any p

theorem openWith_length (s : State) (p : Context → Bool) :
    (s.openWith p).length = allContexts.countP fun id => openHas p s.contexts[id] := by
  unfold State.openWith
  rw [← List.countP_eq_length_filter]
  refine List.countP_congr fun id _ => ?_
  cases s.contexts[id] <;> exact Iff.rfl

/-- One context more with a property. -/
theorem openWith_length_succ {s t : State} {id : CtxId} {p : Context → Bool}
    (h : ∀ j, j ≠ id → t.contexts[j] = s.contexts[j]) (hs : openHas p s.contexts[id] = false)
    (ht : openHas p t.contexts[id] = true) : (t.openWith p).length = (s.openWith p).length + 1 := by
  rw [openWith_length, openWith_length]
  exact countP_update (List.nodup_finRange 64) (List.mem_finRange id) (fun j hj => by rw [h j hj]) hs ht

/-- The same contexts with a property. -/
theorem openWith_length_congr {s t : State} {p : Context → Bool}
    (h : ∀ j : CtxId, openHas p t.contexts[j] = openHas p s.contexts[j]) :
    (t.openWith p).length = (s.openWith p).length := by
  rw [openWith_length, openWith_length]
  exact List.countP_congr fun j _ => by rw [h j]

/-! ### The counts of a state -/

/-- The open count of each band, 0 for an UNUSED one. -/
def State.openCounts (s : State) (i : BandId) : Nat := ((s.bands[i]).map (·.openCount)).getD 0

/-- The holder count of each key slot. -/
def State.holderCounts (s : State) (k : SlotId) : Nat := (s.slots[k]).holders

/-- An UNUSED band counts as a band without open contexts. -/
theorem countsOk_iff (s : State) :
    s.CountsOk ↔ (∀ i, s.openCounts i = (s.naming i).length) ∧ ∀ k, s.holderCounts k = (s.holdersOf k).length := by
  constructor
  · rintro ⟨hb, hn, hk⟩
    refine ⟨fun i => ?_, hk⟩
    unfold State.openCounts
    cases h : s.bands[i] with
    | none => rw [hn i h]; rfl
    | some b => exact hb i b h
  · rintro ⟨hi, hk⟩
    refine ⟨fun i b h => ?_, fun i h => ?_, hk⟩
    · rw [← hi i, State.openCounts, h]
      rfl
    · refine List.length_eq_zero_iff.1 ?_
      rw [← hi i, State.openCounts, h]
      rfl

/-- What keeps the records and both kinds of count keeps their agreement. -/
theorem State.CountsOk.of_frame {s t : State} (hs : s.CountsOk) (hc : t.contexts = s.contexts)
    (hb : t.openCounts = s.openCounts) (hk : t.holderCounts = s.holderCounts) : t.CountsOk := by
  rw [countsOk_iff] at hs ⊢
  obtain ⟨h1, h2⟩ := hs
  refine ⟨fun i => ?_, fun k => ?_⟩
  · rw [hb, h1 i, State.naming, State.naming, openWith_congr hc]
  · rw [hk, h2 k, State.holdersOf, State.holdersOf, openWith_congr hc]

theorem State.CountsOk.of_holders {s t : State} (hs : s.CountsOk) (hc : t.contexts = s.contexts)
    (hb : t.bands = s.bands) (hk : ∀ k : SlotId, (t.slots[k]).holders = (s.slots[k]).holders) : t.CountsOk :=
  hs.of_frame hc (by funext i; simp only [State.openCounts, hb]) (funext hk)

theorem State.CountsOk.of_opens {s t : State} (hs : s.CountsOk) (hc : t.contexts = s.contexts)
    (hb : t.openCounts = s.openCounts) (hk : t.slots = s.slots) : t.CountsOk :=
  hs.of_frame hc hb (by funext k; simp only [State.holderCounts, hk])

theorem State.CountsOk.setSlot {s : State} (hs : s.CountsOk) (k : SlotId) {v : KeySlot}
    (hv : v.holders = (s.slots[k]).holders) : (s.setSlot k v).CountsOk := by
  refine hs.of_holders rfl rfl fun j => ?_
  by_cases hj : k = j
  · subst hj
    rw [setSlot_get_self, hv]
  · rw [setSlot_get_ne s _ hj]

theorem setBand_openCounts {s : State} {i : BandId} {b : Option Band} (h : (b.map (·.openCount)).getD 0 = s.openCounts i) :
    (s.setBand i b).openCounts = s.openCounts := by
  funext j
  by_cases hj : i = j
  · subst hj
    rw [State.openCounts, setBand_get_self, h]
  · rw [State.openCounts, setBand_get_ne s _ hj]
    rfl

theorem openCounts_of_some {s : State} {i : BandId} {b : Band} (h : s.bands[i] = some b) :
    s.openCounts i = b.openCount := by
  simp [State.openCounts, h]

/-! ### The band unit's work leaves the counts -/

theorem report_openCounts (s : State) (d : Detail) : (s.report d).openCounts = s.openCounts := by
  funext i
  simp only [State.openCounts, report_bands]

theorem payReply_openCounts (s : State) (owed : Option Byte) (code : RequestCode) (status : ReplyStatus)
    (result : Result) : (s.payReply owed code status result).openCounts = s.openCounts := by
  funext i
  simp only [State.openCounts, payReply_bands]

theorem moveWatermark_openCounts (s : State) (i : BandId) (w : Nat) (announce : Bool) :
    (s.moveWatermark i w announce).openCounts = s.openCounts := by
  unfold State.moveWatermark
  split
  · rfl
  · rename_i b hb
    split
    · rfl
    · have h1 : ∀ d, (if announce then s.report d else s).openCounts = s.openCounts := by
        intro d
        split
        · exact report_openCounts s d
        · rfl
      have hset : ∀ d b', b'.openCount = b.openCount →
          ((if announce then s.report d else s).setBand i (some b')).openCounts = s.openCounts := fun d b' hb' =>
        (setBand_openCounts (by rw [h1, openCounts_of_some hb]; exact hb')).trans (h1 d)
      dsimp only
      split
      · exact (report_openCounts _ _).trans (hset _ _ rfl)
      · exact hset _ _ rfl

theorem replaceWatermark_openCounts (s : State) (ns : Ns) : (s.replaceWatermark ns).openCounts = s.openCounts := by
  unfold State.replaceWatermark
  split
  · rfl
  · dsimp only
    split
    · rfl
    · exact moveWatermark_openCounts _ _ _ _

theorem applyBandSet_openCounts {s : State} {i : BandId} (new : Option BandFields) (h : s.openCounts i = 0) :
    (s.applyBandSet i new).openCounts = s.openCounts := by
  unfold State.applyBandSet
  split
  · exact setBand_openCounts h.symm
  · dsimp only
    have hset : ∀ f : BandFields, (s.setBand i (some ⟨f, s.openCounts i, none, none, none⟩)).openCounts =
        s.openCounts := fun f => setBand_openCounts rfl
    split
    · exact (replaceWatermark_openCounts _ _).trans (hset _)
    · exact hset _

theorem applyMigrateStart_openCounts (s : State) (i : BandId) (target : SlotId) (generation : BitVec 16) :
    (s.applyMigrateStart i target generation).openCounts = s.openCounts := by
  unfold State.applyMigrateStart
  split
  · rfl
  · rename_i b hb
    exact (moveWatermark_openCounts _ _ _ _).trans (setBand_openCounts (openCounts_of_some hb).symm)

theorem applyPending_openCounts (s : State) (i : BandId) : (s.applyPending i).openCounts = s.openCounts := by
  unfold State.applyPending
  split
  · rfl
  · rename_i b hb
    split
    · rfl
    · split
      · rename_i h0
        split
        · exact (payReply_openCounts _ _ _ _ _).trans (applyBandSet_openCounts _ ((openCounts_of_some hb).trans h0))
        · exact (payReply_openCounts _ _ _ _ _).trans (applyMigrateStart_openCounts _ _ _ _)
      · rfl

theorem dropPending_openCounts (s : State) (i : BandId) : (s.dropPending i).openCounts = s.openCounts := by
  unfold State.dropPending
  split
  · rfl
  · rename_i b hb
    split
    · rfl
    · dsimp only
      split <;> exact (payReply_openCounts _ _ _ _ _).trans (setBand_openCounts (openCounts_of_some hb).symm)

theorem dropNaming_openCounts (s : State) (k : SlotId) : (s.dropNaming k).openCounts = s.openCounts :=
  inOrder_induct (P := fun t => t.openCounts = s.openCounts) _ _ _ (fun i _ t ht => by
    split
    · exact ht
    · split
      · exact (dropPending_openCounts t i).trans ht
      · exact ht) rfl

@[simp] theorem unbound_openCount (b : Band) (k : SlotId) : (b.unbound k).openCount = b.openCount := by
  unfold Band.unbound
  dsimp only
  split <;> split <;> rfl

theorem unbind_openCounts (s : State) (k : SlotId) : (s.unbind k).openCounts = s.openCounts := by
  funext i
  simp only [State.openCounts, unbind_get, Option.map_map, Function.comp_def, unbound_openCount]

theorem lockBand_openCounts (s : State) (i : BandId) : (s.lockBand i).openCounts = s.openCounts :=
  setBand_openCounts (by simp only [State.openCounts, Option.map_map, Function.comp_def, Band.locked])

theorem startPurge_openCounts (s : State) (k : SlotId) (m : Material) (account : Account) :
    (s.startPurge k m account).openCounts = s.openCounts :=
  (unbind_openCounts _ _).trans (dropNaming_openCounts _ _)

theorem startPurge_slots (s : State) (k : SlotId) (m : Material) (account : Account) :
    (s.startPurge k m account).slots = (s.setSlot k { s.slots[k] with state := .purging m account }).slots :=
  (unbind_slots _ _).trans (dropNaming_slots _ _)

/-! ### Ends -/

theorem endAs_openCounts {s : State} {id : CtxId} {c : Context} (h : s.contexts[id] = some c) (kind : EndKind)
    (status : TransferStatus) (i : BandId) :
    (s.endAs kind id status).openCounts i = s.openCounts i - if c.names i then 1 else 0 := by
  unfold State.openCounts
  rw [endAs_bands_get h]
  cases s.bands[i] with
  | none => simp
  | some b => cases c.names i <;> simp [Band.closed]

theorem endAs_holderCounts {s : State} {id : CtxId} {c : Context} (h : s.contexts[id] = some c) (kind : EndKind)
    (status : TransferStatus) (k : SlotId) :
    (s.endAs kind id status).holderCounts k = s.holderCounts k - if c.holds k then 1 else 0 := by
  unfold State.holderCounts
  rw [endAs_slots_get h]
  cases c.holds k <;> simp

/-- The end of an open context takes it from each number of contexts it counts in. -/
theorem openWith_endAs {s : State} {id : CtxId} {c : Context} (h : s.contexts[id] = some c) (kind : EndKind)
    (status : TransferStatus) (p : Context → Bool) :
    ((s.endAs kind id status).openWith p).length = (s.openWith p).length - if p c then 1 else 0 := by
  cases hp : p c with
  | true =>
    have := openWith_length_succ (s := s.endAs kind id status) (t := s) (id := id) (p := p)
      (fun j hj => by rw [endAs_contexts, if_neg (Ne.symm hj)])
      (by rw [endAs_contexts, if_pos rfl]; rfl) (by rw [h]; exact hp)
    rw [if_pos rfl]
    omega
  | false =>
    refine openWith_length_congr fun j => ?_
    rw [endAs_contexts]
    split
    · rename_i hj
      subst hj
      rw [h]
      exact hp.symm
    · rfl

theorem State.CountsOk.endAs {s : State} (hs : s.CountsOk) (kind : EndKind) (id : CtxId) (status : TransferStatus) :
    (s.endAs kind id status).CountsOk := by
  cases hc : s.contexts[id] with
  | none =>
    rw [endAs_of_free hc]
    exact hs
  | some c =>
    rw [countsOk_iff] at hs ⊢
    obtain ⟨h1, h2⟩ := hs
    refine ⟨fun i => ?_, fun k => ?_⟩
    · rw [endAs_openCounts hc, h1 i]
      exact (openWith_endAs hc kind status _).symm
    · rw [endAs_holderCounts hc, h2 k]
      exact (openWith_endAs hc kind status _).symm

/-- Without holders, the end of a purge leaves the counts. -/
theorem State.CountsOk.erase {s : State} (hs : s.CountsOk) {k : SlotId}
    (h : (s.slots[k]).holders = 0 ∨ s.holdersOf k = []) : (s.erase k).CountsOk := by
  have h0 : (s.slots[k]).holders = 0 := by
    obtain h | h := h
    · exact h
    · rw [hs.2.2 k, h]
      rfl
  exact hs.setSlot k h0.symm

theorem State.CountsOk.endPurge {s : State} (hs : s.CountsOk) {k : SlotId}
    (h : (s.slots[k]).holders = 0 ∨ s.holdersOf k = []) : (s.endPurge k).CountsOk := by
  unfold State.endPurge
  split
  · refine (hs.erase h).of_frame (contexts_of_transfers ?_) ?_ ?_
    · rw [report_transfers, payReply_transfers]
    · rw [report_openCounts, payReply_openCounts]
    · funext j
      simp only [State.holderCounts, report_slots, payReply_slots]
  · exact hs

theorem State.CountsOk.startPurge {s : State} (hs : s.CountsOk) (k : SlotId) (m : Material) (account : Account) :
    (s.startPurge k m account).CountsOk := by
  refine (hs.setSlot k (v := { s.slots[k] with state := .purging m account }) rfl).of_opens
    (contexts_of_transfers (startPurge_transfers s k m account)) ?_ (startPurge_slots s k m account)
  exact startPurge_openCounts s k m account

theorem State.CountsOk.abandonLoad {s : State} (hs : s.CountsOk) (k : SlotId) : (s.abandonLoad k).CountsOk := by
  unfold State.abandonLoad
  split
  · rename_i l _
    cases l.owed <;> exact hs.setSlot k rfl
  · exact hs

theorem countsOk_kept : Kept State.CountsOk where
  choices _ _ hs := hs
  report s d hs := hs.of_opens (contexts_of_transfers (report_transfers s d)) (report_openCounts s d) (report_slots s d)
  discards _ _ hs := hs
  latched _ _ hs := hs
  setWrap _ _ _ hs := hs
  endAs _ kind id status hs := hs.endAs kind id status
  applyPending s i hs := hs.of_opens (contexts_of_transfers (applyPending_transfers s i))
    (applyPending_openCounts s i) (applyPending_slots s i)
  dropPending s i hs := hs.of_opens (contexts_of_transfers (dropPending_transfers s i))
    (dropPending_openCounts s i) (dropPending_slots s i)
  abandonLoad _ k hs := hs.abandonLoad k
  endPurge _ _ h hs := hs.endPurge h
  lockBand s i hs := hs.of_opens rfl (lockBand_openCounts s i) rfl
  startPurge _ k m account _ _ hs := hs.startPurge k m account
  zeroGrace _ k _ _ _ hs := hs.setSlot k rfl
  poisonAndCut _ k hs := inAnyOrder_induct (P := State.CountsOk) _ _ _ (fun _ _ ht => ht)
    (fun id _ _ ht => ht.endAs _ id _) (hs.setSlot k rfl)

/-! ### OPENs -/

/-- The runs of a range are of ACTIVE bands, where the base band is ACTIVE (R19, R56). -/
theorem spansFrom_active {s : State} {ns : Ns} (hbase : (s.bands[baseBand ns]).isSome = true) (last fuel lba : Nat)
    {g : Span} (hg : g ∈ s.spansFrom ns last fuel lba) : (s.bands[g.band]).isSome = true := by
  induction fuel generalizing lba with
  | zero => cases hg
  | succ fuel ih =>
    unfold State.spansFrom at hg
    split at hg
    · cases hg
    · split at hg
      · rename_i i bandLast hlock
        obtain rfl | hg := List.mem_cons.1 hg
        · obtain ⟨j, _, hj⟩ := List.exists_of_findSome?_eq_some hlock
          cases hb : s.bands[j] with
          | none => simp only [hb, reduceCtorEq] at hj
          | some b =>
            simp only [hb, Option.map_eq_some_iff, Prod.mk.injEq] at hj
            obtain ⟨_, _, rfl, _⟩ := hj
            simp only [hb, Option.isSome_some]
        · exact ih _ hg
      · obtain rfl | hg := List.mem_cons.1 hg
        · exact hbase
        · exact ih _ hg

theorem baseBand_of_openRefusal {s : State} {id : CtxId} {dir : Direction} {migrate : Bool} {ns : Ns}
    {first count : Nat} (h : s.openRefusal id dir migrate (some ns) first count = none) :
    (s.bands[baseBand ns]).isSome = true := by
  cases hb : s.bands[baseBand ns] with
  | some b => rfl
  | none =>
    unfold State.openRefusal at h
    simp only [namespaceSize_of_unused hb] at h
    split at h
    · cases h
    · split at h <;> cases h

/-- A passed OPEN names ACTIVE bands alone. -/
theorem newContext_names_active {s : State} {id : CtxId} {dir : Direction} {migrate : Bool} {ns : Ns}
    {first count : Nat} (h : s.openRefusal id dir migrate (some ns) first count = none) {i : BandId}
    (hi : (s.newContext dir migrate ns first count).names i = true) : (s.bands[i]).isSome = true := by
  simp only [State.newContext, Context.names, List.any_map, List.any_eq_true, Function.comp_apply, State.segmentOf,
    beq_iff_eq] at hi
  obtain ⟨g, hg, rfl⟩ := hi
  exact spansFrom_active (baseBand_of_openRefusal h) _ _ _ hg

theorem acceptContext_bands_get (s : State) (id : CtxId) (c : Context) (i : BandId) :
    (s.acceptContext id c).bands[i] = (s.bands[i]).map fun b =>
      if c.names i then b.opened (if c.migrate ∧ c.dir = .write then some id else none) else b := by
  simp [State.acceptContext]

theorem acceptContext_slots_get (s : State) (id : CtxId) (c : Context) (k : SlotId) :
    (s.acceptContext id c).slots[k] =
      if c.holds k then { s.slots[k] with holders := (s.slots[k]).holders + 1 } else s.slots[k] := by
  simp [State.acceptContext]

/-- An accepted OPEN adds its context to each number of contexts it counts in. -/
theorem openWith_accept {s : State} {id : CtxId} {c : Context} (h : s.contexts[id] = none) (p : Context → Bool) :
    ((s.acceptContext id c).openWith p).length = (s.openWith p).length + if p c then 1 else 0 := by
  have hself : (s.acceptContext id c).contexts[id] = some c := setContext_get_self s id _
  have hne : ∀ j, j ≠ id → (s.acceptContext id c).contexts[j] = s.contexts[j] :=
    fun j hj => setContext_get_ne s _ hj.symm
  cases hp : p c with
  | true => exact openWith_length_succ hne (by rw [h]; rfl) (by rw [hself]; exact hp)
  | false =>
    refine openWith_length_congr fun j => ?_
    by_cases hj : j = id
    · subst hj
      rw [hself, h]
      exact hp
    · rw [hne j hj]

theorem State.CountsOk.accept {s : State} (hs : s.CountsOk) {id : CtxId} {c : Context} (h : s.contexts[id] = none)
    (hactive : ∀ i, c.names i = true → (s.bands[i]).isSome = true) : (s.acceptContext id c).CountsOk := by
  rw [countsOk_iff] at hs ⊢
  obtain ⟨h1, h2⟩ := hs
  refine ⟨fun i => ?_, fun k => ?_⟩
  · refine Eq.trans ?_ (openWith_accept h _).symm
    rw [← State.naming, ← h1 i, State.openCounts, State.openCounts, acceptContext_bands_get]
    cases hn : c.names i with
    | false => simp
    | true =>
      obtain ⟨b, hb⟩ := Option.isSome_iff_exists.1 (hactive i hn)
      simp [hb, Band.opened]
  · refine Eq.trans ?_ (openWith_accept h _).symm
    rw [← State.holdersOf, ← h2 k, State.holderCounts, State.holderCounts, acceptContext_slots_get]
    cases c.holds k <;> simp

/-- A fragment changes nothing that a band or a slot is counted by. -/
theorem openWith_fragmentTaken {s : State} {id : CtxId} {c : Context} (bytes : List Byte)
    (h : s.contexts[id] = some c) (p : Context → Bool) (hp : p (s.takeBytes bytes c).ctx = p c) :
    ((s.fragmentTaken id c bytes).openWith p).length = (s.openWith p).length := by
  refine openWith_length_congr fun j => ?_
  by_cases hj : id = j
  · subst hj
    rw [fragmentTaken_contexts_self, h]
    exact hp
  · rw [fragmentTaken_contexts_ne s c bytes hj]

theorem State.CountsOk.fragmentTaken {s : State} (hs : s.CountsOk) {id : CtxId} {c : Context} (bytes : List Byte)
    (h : s.contexts[id] = some c) : (s.fragmentTaken id c bytes).CountsOk := by
  obtain ⟨n, o, r, p, hctx⟩ := takeBytes_frame s bytes c
  obtain ⟨_, _, hf⟩ := fragmentTaken_frame s id c bytes
  rw [countsOk_iff] at hs ⊢
  obtain ⟨h1, h2⟩ := hs
  refine ⟨fun i => ?_, fun k => ?_⟩
  · rw [State.naming, openWith_fragmentTaken bytes h _ (by rw [hctx]; rfl), hf]
    exact h1 i
  · rw [State.holdersOf, openWith_fragmentTaken bytes h _ (by rw [hctx]; rfl), hf]
    exact h2 k

theorem countsOk_of_free {s : State} (hc : ∀ id : CtxId, s.contexts[id] = none) (hb : ∀ i, s.openCounts i = 0)
    (hk : ∀ k, s.holderCounts k = 0) : s.CountsOk := by
  have h0 : ∀ p, (s.openWith p).length = 0 := fun p =>
    List.length_eq_zero_iff.2 (openWith_eq_nil.2 fun id c h => nomatch (hc id).symm.trans h)
  exact (countsOk_iff s).2 ⟨fun i => (hb i).trans (h0 _).symm, fun k => (hk k).trans (h0 _).symm⟩

theorem openCounts_freeContexts (s : State) (i : BandId) : s.freeContexts.openCounts i = 0 := by
  simp only [State.openCounts, State.freeContexts, Fin.getElem_fin, Vector.getElem_map]
  cases s.bands[i.val] <;> rfl

theorem holderCounts_freeContexts (s : State) (k : SlotId) : s.freeContexts.holderCounts k = 0 := by
  simp [State.holderCounts, State.freeContexts]

theorem countsOk_powerOn (s : State) : s.powerOn.CountsOk :=
  countsOk_of_free (fun _ => Vector.getElem_replicate _) (fun i => by simp [State.openCounts, State.powerOn, State.reset])
    fun k => by simp [State.holderCounts, State.powerOn, State.reset, KeySlot.reset]

theorem openCounts_of_not_bandOpen {s : State} {i : BandId} (h : s.bandOpen i = false) : s.openCounts i = 0 := by
  unfold State.bandOpen at h
  unfold State.openCounts
  cases hb : s.bands[i] with
  | none => rfl
  | some b => simpa [hb] using h

theorem State.CountsOk.purgeAllSlot {s : State} (hs : s.CountsOk) (g : SlotId → Nat) (k : SlotId)
    (hc : ∀ id : CtxId, s.contexts[id] = none) : (State.purgeAllSlot g k s).CountsOk := by
  have he : (s.erase k).CountsOk :=
    hs.erase (.inr (openWith_eq_nil.2 fun id c h => nomatch (hc id).symm.trans h))
  unfold State.purgeAllSlot
  split
  · exact countsOk_kept.report _ _ he
  · exact countsOk_kept.report _ _ he
  · rename_i a _
    refine countsOk_kept.report _ _ ?_
    cases a.owed <;> exact he
  · exact hs
  · exact hs

theorem damage_holders (s : State) (location : BitLocation) (k : SlotId) :
    ((s.damage location).slots[k]).holders = (s.slots[k]).holders := by
  cases location with
  | wrap w i bit => rfl
  | key j i bit =>
    by_cases hj : j = k
    · subst hj
      rw [State.damage, setSlot_get_self]
    · rw [State.damage, setSlot_get_ne s _ hj]

/-- Only OPENs and ends move the counts; a reset and a PURGE-ALL take them to 0 with the contexts. -/
theorem countsOk_served : Served State.CountsOk State.CountsOk where
  kept := countsOk_kept
  keptOwing := countsOk_kept
  setHead _ lane _ hs := by cases lane <;> exact hs
  reserve _ _ hs := hs
  reply _ _ _ _ _ hs := hs
  refuse _ _ _ _ hs := hs
  accept _ _ _ _ _ _ _ hr _ _ _ hs := hs.accept (contexts_of_openRefusal hr) fun _ hi => newContext_names_active hr hi
  fragment _ _ _ _ bytes hc _ _ _ hs := hs.fragmentTaken bytes hc
  complete _ _ _ _ bytes _ hc _ _ _ hs := countsOk_kept.completed
    (fun t i w ht => ht.of_opens (contexts_of_transfers (moveWatermark_transfers t i w true))
      (moveWatermark_openCounts t i w true) (moveWatermark_slots t i w true)) _ _ _ (hs.fragmentTaken bytes hc)
  startLoad _ k _ _ _ _ _ hs := hs.setSlot k rfl
  endLoad _ k l _ hs := by cases l.owed <;> exact hs.setSlot k rfl
  loaded _ k l _ _ _ hs := by cases l.owed <;> exact hs.setSlot k rfl
  startPurgeOwed _ k m account _ _ _ hs := hs.startPurge k m account
  purgeAll := countsOk_kept.purgeAll (fun _ g k hc hs => hs.purgeAllSlot g k hc) fun s hc _ hs => by
    refine hs.of_frame rfl ?_ rfl
    funext i
    rw [((countsOk_iff s).1 hs).1 i, State.naming, openWith_eq_nil.2 fun id c h => nomatch (hc id).symm.trans h]
    simp [State.openCounts]
  graceSetting _ _ hs := hs
  damage s location hs := hs.of_holders (by cases location <;> rfl) (by cases location <;> rfl)
    (damage_holders s location)
  stageSet _ _ _ _ _ _ _ _ hs := hs.of_opens rfl (setBand_openCounts (by simp [State.openCounts, Function.comp_def])) rfl
  applySet s _ i new _ _ ho hs := hs.of_opens (contexts_of_transfers (applyBandSet_transfers s i new))
    (applyBandSet_openCounts new (openCounts_of_not_bandOpen ho)) (applyBandSet_slots s i new)
  lock _ _ _ _ _ _ hb hs := hs.of_opens rfl (setBand_openCounts (openCounts_of_some hb).symm) rfl
  stageStart _ _ _ _ _ _ _ hs := hs.of_opens rfl (setBand_openCounts (by simp [State.openCounts, Function.comp_def])) rfl
  applyStart s i target generation _ _ hs :=
    hs.of_opens (contexts_of_transfers (applyMigrateStart_transfers s i target generation))
      (applyMigrateStart_openCounts s i target generation) (applyMigrateStart_slots s i target generation)
  tripClear _ _ _ hs := hs
  setPeriod _ _ _ _ hs := hs
  acknowledge s k hs := by
    unfold State.acknowledge
    dsimp only
    repeat' split
    all_goals exact hs
  goOnline _ hs := hs
  timeSet _ _ hs := hs
  startSending s lane hs := by
    obtain ⟨_, _, h⟩ := startSending_frame s lane
    exact h ▸ hs
  freeFront s source _ hs := by
    cases source with
    | notice => exact hs
    | reply => exact hs
    | data =>
      obtain ⟨_, _, h⟩ := popFront_frame { s with frontSending := none }
      rw [State.freeFront, h]
      exact hs
  freeBack s _ hs := by
    obtain ⟨_, _, h⟩ := popBack_frame { s with backSending := false }
    exact h ▸ hs
  setOutHold _ lane _ hs := by cases lane <;> exact hs
  assertPlock := countsOk_kept.assertPlock fun _ _ _ hs => hs
  deassertPlock _ hs := hs
  assertPfail := countsOk_kept.assertPfail fun _ _ _ hs => hs
  deassertPfail _ hs := hs
  assertLinkrst := countsOk_kept.assertLinkrst (fun _ _ hs => hs)
    (fun _ _ => countsOk_of_free (fun _ => Vector.getElem_replicate _) (openCounts_freeContexts _)
      (holderCounts_freeContexts _)) fun _ hs => hs
  releaseLinkrst _ hs := hs
  assertPorst := assertPorst_induct countsOk_powerOn
  releasePorst := countsOk_kept.releasePorst fun _ _ _ hs => hs
  tick s hs := hs.of_holders rfl rfl fun k => by simp [State.tick]

/-- Settles O54. -/
theorem countsAreKept : Obligations.CountsAreKept :=
  fun c s t hs he => countsOk_served.exec c s t hs he

end Sys2Proof.Machine

/-! PROOFS. Reply reservations (R155, R158): what is waiting and what is filled, counted together; that the blocks' work
moves reservations from the one to the other alone; and that every command keeps the count. -/

namespace Sys2Proof.Machine

/-! ### Sums over bands and slots -/

/-- Two functions of a list's elements that differ at one element alone. -/
theorem sum_map_update {α : Type} {f g : α → Nat} {a : α} {xs : List α} (hn : xs.Nodup) (hm : a ∈ xs)
    (h : ∀ b, b ≠ a → f b = g b) : (xs.map f).sum + g a = (xs.map g).sum + f a := by
  induction xs with
  | nil => cases hm
  | cons x xs ih =>
    obtain ⟨hx, hn⟩ := List.nodup_cons.1 hn
    simp only [List.map_cons, List.sum_cons]
    obtain rfl | hm := List.mem_cons.1 hm
    · rw [List.map_congr_left fun b hb => h b fun he => hx (he ▸ hb)]
      omega
    · rw [h x fun he => hx (he ▸ hm)]
      have := ih hn hm
      omega

/-! ### Reservations waiting and filled -/

/-- The waiting reservation of each key slot. -/
def State.slotOwing (s : State) (k : SlotId) : Nat := (s.slots[k]).state.owing

/-- The waiting reservation of each band. -/
def State.bandOwings (s : State) (i : BandId) : Nat := bandOwing s.bands[i]

/-- The reservations that are waiting or filled (R158). -/
def State.debt (s : State) : Nat := s.waiting + s.replies.length

theorem debt_eq (s : State) :
    s.debt = (allSlots.map s.slotOwing).sum + (allBands.map s.bandOwings).sum + s.replies.length := rfl

theorem debt_congr {s t : State} (hk : t.slotOwing = s.slotOwing) (hb : t.bandOwings = s.bandOwings)
    (hr : t.replies.length = s.replies.length) : t.debt = s.debt := by
  rw [debt_eq, debt_eq, hk, hb, hr]

/-- One slot's waiting reservation changes. -/
theorem debt_setSlot (s : State) (k : SlotId) (v : KeySlot) :
    (s.setSlot k v).debt + s.slotOwing k = s.debt + v.state.owing := by
  have h := sum_map_update (f := (s.setSlot k v).slotOwing) (g := s.slotOwing) (a := k) (xs := allSlots)
    (List.nodup_finRange 32) (List.mem_finRange k) fun j hj => by rw [State.slotOwing, setSlot_get_ne s _ hj.symm]; rfl
  rw [show (s.setSlot k v).slotOwing k = v.state.owing by rw [State.slotOwing, setSlot_get_self]] at h
  rw [debt_eq, debt_eq, show (s.setSlot k v).bandOwings = s.bandOwings from rfl, setSlot_replies]
  omega

/-- One band's waiting reservation changes. -/
theorem debt_setBand (s : State) (i : BandId) (b : Option Band) :
    (s.setBand i b).debt + s.bandOwings i = s.debt + bandOwing b := by
  have h := sum_map_update (f := (s.setBand i b).bandOwings) (g := s.bandOwings) (a := i) (xs := allBands)
    (List.nodup_finRange 32) (List.mem_finRange i) fun j hj => by rw [State.bandOwings, setBand_get_ne s _ hj.symm]; rfl
  rw [show (s.setBand i b).bandOwings i = bandOwing b by rw [State.bandOwings, setBand_get_self]] at h
  rw [debt_eq, debt_eq, show (s.setBand i b).slotOwing = s.slotOwing from rfl, setBand_replies]
  omega

theorem debt_payReply (s : State) (owed : Option Byte) (code : RequestCode) (status : ReplyStatus)
    (result : Result) : (s.payReply owed code status result).debt = s.debt + owes owed := by
  cases owed with
  | none => exact (Nat.add_zero _).symm
  | some tag =>
    rw [debt_eq, debt_eq, show (s.payReply (some tag) code status result).slotOwing = s.slotOwing from rfl,
      show (s.payReply (some tag) code status result).bandOwings = s.bandOwings from rfl]
    simp only [State.payReply, State.reply, List.length_append, List.length_singleton, owes, Nat.add_assoc]

theorem bandOwing_some {b : Band} {p : Pending} (h : b.pending = some p) : bandOwing (some b) = owes p.owed := by
  simp only [bandOwing, h]

theorem bandOwing_of_none {b : Band} (h : b.pending = none) : bandOwing (some b) = 0 := by
  simp only [bandOwing, h]

theorem bandOwing_congr {b b' : Band} (h : b'.pending = b.pending) : bandOwing (some b') = bandOwing (some b) := by
  simp only [bandOwing, h]

/-- The same staged changes are owed the same replies. -/
theorem bandOwing_map {b : Option Band} {f : Band → Band} (h : ∀ x, bandOwing (some (f x)) = bandOwing (some x)) :
    bandOwing (b.map f) = bandOwing b := by
  cases b with
  | none => rfl
  | some x => exact h x

/-! ### The count, with reservations that are neither waiting nor filled -/

/-- The reservations in use are those waiting, those filled and `n` more; at most 8 are in use, and a REPLY being sent
stands in the queue. `ReservationsOk` is the case of none more. -/
def State.ReservedBut (n : Nat) (s : State) : Prop :=
  s.reservations = s.debt + n ∧ s.reservations ≤ Config.maxReservations ∧
  (s.frontSending = some .reply → s.replies ≠ [])

theorem reservationsOk_iff (s : State) : s.ReservationsOk ↔ s.ReservedBut 0 := by
  rw [State.ReservedBut, Nat.add_zero]
  exact Iff.rfl

/-- Work that pays what it takes from the waiting reservations, and takes no reply away. -/
def State.Pays (s t : State) : Prop :=
  t.debt = s.debt ∧ s.replies.length ≤ t.replies.length ∧ t.reservations = s.reservations ∧
  t.frontSending = s.frontSending

theorem State.Pays.reservedBut {s t : State} (h : s.Pays t) {n : Nat} (hs : s.ReservedBut n) : t.ReservedBut n := by
  obtain ⟨hd, hl, hr, hf⟩ := h
  obtain ⟨h1, h2, h3⟩ := hs
  refine ⟨by rw [hr, hd, h1], by rw [hr]; exact h2, fun h => ?_⟩
  have := List.length_pos_of_ne_nil (h3 (hf ▸ h))
  exact List.ne_nil_of_length_pos (by omega)

theorem State.Pays.refl (s : State) : s.Pays s := ⟨rfl, Nat.le_refl _, rfl, rfl⟩

theorem State.Pays.trans {s t u : State} (h : s.Pays t) (g : t.Pays u) : s.Pays u := by
  obtain ⟨h1, h2, h3, h4⟩ := h
  obtain ⟨g1, g2, g3, g4⟩ := g
  exact ⟨g1.trans h1, h2.trans g2, g3.trans h3, g4.trans h4⟩

/-- Work on bands and slots that leaves what each owes. -/
theorem pays_of_owings {s t : State} (ho : t.outside = s.outside) (hr : t.replies = s.replies)
    (hk : t.slotOwing = s.slotOwing) (hb : t.bandOwings = s.bandOwings) : s.Pays t :=
  ⟨debt_congr hk hb (by rw [hr]), by rw [hr], (congrArg State.reservations ho :), (congrArg State.frontSending ho :)⟩

/-- A slot that stops to owe, with its reply. -/
theorem pays_slot {s : State} {k : SlotId} {v : KeySlot} {owed : Option Byte} (code : RequestCode)
    (status : ReplyStatus) (result : Result) (h : s.slotOwing k = v.state.owing + owes owed) :
    s.Pays ((s.setSlot k v).payReply owed code status result) := by
  refine ⟨?_, ?_, ?_, ?_⟩
  · have := debt_setSlot s k v
    rw [debt_payReply]
    omega
  · cases owed <;> simp [State.payReply, State.reply]
  · cases owed <;> rfl
  · cases owed <;> rfl

/-- A band that stops to owe, and then its reply. -/
theorem pays_payReply {s t : State} {owed : Option Byte} (code : RequestCode) (status : ReplyStatus)
    (result : Result) (hd : t.debt + owes owed = s.debt) (ho : t.outside = s.outside) (hr : t.replies = s.replies) :
    s.Pays (t.payReply owed code status result) := by
  refine ⟨by rw [debt_payReply, hd], ?_, ?_, ?_⟩
  · cases owed <;> simp [State.payReply, State.reply, hr]
  · exact (congrArg State.reservations ((payReply_outside t owed code status result).trans ho) :)
  · exact (congrArg State.frontSending ((payReply_outside t owed code status result).trans ho) :)

/-! ### The blocks' work -/

theorem report_pays (s : State) (d : Detail) : s.Pays (s.report d) :=
  pays_of_owings (report_outside s d) (report_replies s d) (by funext k; simp only [State.slotOwing, report_slots])
    (by funext i; simp only [State.bandOwings, report_bands])

theorem setBand_bandOwings {s : State} {i : BandId} {b : Option Band} (h : bandOwing b = s.bandOwings i) :
    (s.setBand i b).bandOwings = s.bandOwings := by
  funext j
  by_cases hj : i = j
  · subst hj
    rw [State.bandOwings, setBand_get_self, h]
  · rw [State.bandOwings, setBand_get_ne s _ hj]
    rfl

theorem bandOwings_of_some {s : State} {i : BandId} {b : Band} (h : s.bands[i] = some b) :
    s.bandOwings i = bandOwing (some b) := by
  rw [State.bandOwings, h]

/-- Moving a watermark leaves the staged changes. -/
theorem moveWatermark_bandOwings (s : State) (i : BandId) (w : Nat) (announce : Bool) :
    (s.moveWatermark i w announce).bandOwings = s.bandOwings := by
  have hreport : ∀ (t : State) d, (t.report d).bandOwings = t.bandOwings := fun t d => by
    funext j
    simp only [State.bandOwings, report_bands]
  unfold State.moveWatermark
  split
  · rfl
  · rename_i b hb
    split
    · rfl
    · have h1 : ∀ d, (if announce then s.report d else s).bandOwings = s.bandOwings := by
        intro d
        split
        · exact hreport s d
        · rfl
      have hset : ∀ d b', b'.pending = b.pending →
          ((if announce then s.report d else s).setBand i (some b')).bandOwings = s.bandOwings := fun d b' hb' =>
        (setBand_bandOwings (by rw [h1, bandOwings_of_some hb]; exact bandOwing_congr hb')).trans (h1 d)
      dsimp only
      split
      · exact (hreport _ _).trans (hset _ _ rfl)
      · exact hset _ _ rfl

theorem moveWatermark_debt (s : State) (i : BandId) (w : Nat) (announce : Bool) :
    (s.moveWatermark i w announce).debt = s.debt :=
  debt_congr (by funext k; simp only [State.slotOwing, moveWatermark_slots]) (moveWatermark_bandOwings s i w announce)
    (by rw [moveWatermark_replies])

theorem moveWatermark_pays (s : State) (i : BandId) (w : Nat) (announce : Bool) :
    s.Pays (s.moveWatermark i w announce) :=
  pays_of_owings (moveWatermark_outside s i w announce) (moveWatermark_replies s i w announce)
    (by funext k; simp only [State.slotOwing, moveWatermark_slots]) (moveWatermark_bandOwings s i w announce)

theorem replaceWatermark_debt (s : State) (ns : Ns) : (s.replaceWatermark ns).debt = s.debt := by
  unfold State.replaceWatermark
  split
  · rfl
  · dsimp only
    split
    · rfl
    · exact moveWatermark_debt _ _ _ _

@[simp] theorem applyMigrateStart_replies (s : State) (i : BandId) (target : SlotId) (generation : BitVec 16) :
    (s.applyMigrateStart i target generation).replies = s.replies := by
  unfold State.applyMigrateStart
  split <;> simp

/-- An applied BAND-SET leaves its band without a staged change. -/
theorem applyBandSet_debt (s : State) (i : BandId) (new : Option BandFields) :
    (s.applyBandSet i new).debt + s.bandOwings i = s.debt := by
  unfold State.applyBandSet
  split
  · have := debt_setBand s i none
    simpa [bandOwing] using this
  · rename_i f
    have hset := debt_setBand s i (some ⟨s.gatedFields s.bands[i] f, s.openCounts i, none, none, none⟩)
    rw [bandOwing_of_none rfl, Nat.add_zero] at hset
    dsimp only
    split
    · rw [replaceWatermark_debt]
      exact hset
    · exact hset

/-- An applied MIGRATE-START leaves its band without a staged change. -/
theorem applyMigrateStart_debt (s : State) (i : BandId) (target : SlotId) (generation : BitVec 16) :
    (s.applyMigrateStart i target generation).debt + s.bandOwings i = s.debt := by
  unfold State.applyMigrateStart
  split
  · rename_i hb
    rw [State.bandOwings, hb, bandOwing, Nat.add_zero]
  · rename_i b hb
    have hset := debt_setBand s i (some { b with
      migration := some ⟨target, generation, b.fields.extent.firstLba⟩, writer := none, pending := none })
    rw [bandOwing_of_none rfl, Nat.add_zero] at hset
    dsimp only
    rw [moveWatermark_debt]
    exact hset

theorem applyPending_pays (s : State) (i : BandId) : s.Pays (s.applyPending i) := by
  unfold State.applyPending
  split
  · exact .refl s
  · rename_i b hb
    split
    · exact .refl s
    · rename_i p hp
      have ho : s.bandOwings i = owes p.owed := (bandOwings_of_some hb).trans (bandOwing_some hp)
      split
      · split
        · rename_i new _
          refine pays_payReply _ _ _ ?_ (applyBandSet_outside _ _ _) (applyBandSet_replies _ _ _)
          rw [← ho]
          exact applyBandSet_debt s i new
        · rename_i target generation _
          refine pays_payReply _ _ _ ?_ (applyMigrateStart_outside _ _ _ _) (applyMigrateStart_replies _ _ _ _)
          rw [← ho]
          exact applyMigrateStart_debt s i target generation
      · exact .refl s

theorem dropPending_pays (s : State) (i : BandId) : s.Pays (s.dropPending i) := by
  unfold State.dropPending
  split
  · exact .refl s
  · rename_i b hb
    split
    · exact .refl s
    · rename_i p hp
      have hd : (s.setBand i (some { b with pending := none })).debt + owes p.owed = s.debt := by
        have h := debt_setBand s i (some { b with pending := none })
        rwa [bandOwings_of_some hb, bandOwing_some hp, bandOwing_of_none rfl, Nat.add_zero] at h
      dsimp only
      split <;> exact pays_payReply _ _ _ hd rfl rfl

theorem inOrder_pays {α : Type} (f : α → State → State) (xs : List α) (s : State) (h : ∀ a t, State.Pays t (f a t)) :
    s.Pays (inOrder f xs s) :=
  inOrder_induct (P := s.Pays) f xs s (fun a _ t ht => ht.trans (h a t)) (.refl s)

theorem dropNaming_pays (s : State) (k : SlotId) : s.Pays (s.dropNaming k) :=
  inOrder_pays _ _ _ fun i t => by
    split
    · exact .refl t
    · split
      · exact dropPending_pays t i
      · exact .refl t

@[simp] theorem unbound_pending (b : Band) (k : SlotId) : (b.unbound k).pending = b.pending := by
  unfold Band.unbound
  dsimp only
  split <;> split <;> rfl

theorem unbind_replies (s : State) (k : SlotId) : (s.unbind k).replies = s.replies :=
  inOrder_induct (P := fun t => t.replies = s.replies) _ _ _ (fun i _ t ht => by
    unfold State.reportFailed
    split
    · exact ht
    · exact (report_replies _ _).trans ht) rfl

theorem unbind_pays (s : State) (k : SlotId) : s.Pays (s.unbind k) :=
  pays_of_owings (unbind_outside s k) (unbind_replies s k) (by funext j; simp only [State.slotOwing, unbind_slots])
    (by
      funext i
      rw [State.bandOwings, unbind_get]
      exact bandOwing_map fun b => bandOwing_congr (unbound_pending b k))

theorem endAs_pays (s : State) (kind : EndKind) (id : CtxId) (status : TransferStatus) :
    s.Pays (s.endAs kind id status) := by
  cases hc : s.contexts[id] with
  | none =>
    rw [endAs_of_free hc]
    exact .refl s
  | some c =>
    refine pays_of_owings (endAs_outside s kind id status) ?_ ?_ ?_
    · unfold State.endAs
      rw [hc]
      dsimp only
      split <;> rfl
    · funext k
      rw [State.slotOwing, endAs_slots_get hc]
      split
      · unfold State.slotOwing
        cases (s.slots[k]).state <;> cases kind <;> rfl
      · rfl
    · funext i
      rw [State.bandOwings, endAs_bands_get hc]
      refine bandOwing_map fun b => ?_
      split <;> rfl

theorem lockBand_pays (s : State) (i : BandId) : s.Pays (s.lockBand i) := by
  refine pays_of_owings rfl rfl rfl (setBand_bandOwings (bandOwing_map fun b => ?_))
  cases hp : b.pending with
  | none => rw [bandOwing_of_none hp, bandOwing_of_none (by simp [Band.locked, hp])]
  | some p =>
    rw [bandOwing_some hp, bandOwing_some (p := p.locked) (by simp [Band.locked, hp])]
    unfold Pending.locked
    split <;> rfl

theorem slotOwing_of {s : State} {k : SlotId} {state : SlotState} (h : (s.slots[k]).state = state) :
    s.slotOwing k = state.owing := congrArg SlotState.owing h

theorem abandonLoad_pays (s : State) (k : SlotId) : s.Pays (s.abandonLoad k) := by
  unfold State.abandonLoad
  split
  · rename_i l hl
    exact pays_slot _ _ _ (by rw [slotOwing_of hl]; simp [SlotState.owing])
  · exact .refl s

theorem endPurge_pays (s : State) (k : SlotId) : s.Pays (s.endPurge k) := by
  unfold State.endPurge
  split
  · rename_i a ha
    exact (pays_slot _ _ _ (by rw [slotOwing_of ha]; simp [SlotState.owing])).trans (report_pays _ _)
  · exact .refl s

/-- A slot whose new state owes what the old one did. -/
theorem setSlot_pays {s : State} {k : SlotId} {v : KeySlot} (h : v.state.owing = s.slotOwing k) :
    s.Pays (s.setSlot k v) :=
  pays_slot (owed := none) .keyLoad .ok .none (by rw [h]; rfl)

theorem poison_owing (state : SlotState) : state.poison.owing = state.owing := by
  cases state <;> rfl

theorem reservedBut_kept (n : Nat) : Kept (State.ReservedBut n) where
  choices _ _ hs := hs
  report s d hs := (report_pays s d).reservedBut hs
  discards _ _ hs := hs
  latched _ _ hs := hs
  setWrap _ _ _ hs := hs
  endAs s kind id status hs := (endAs_pays s kind id status).reservedBut hs
  applyPending s i hs := (applyPending_pays s i).reservedBut hs
  dropPending s i hs := (dropPending_pays s i).reservedBut hs
  abandonLoad s k hs := (abandonLoad_pays s k).reservedBut hs
  endPurge s k _ hs := (endPurge_pays s k).reservedBut hs
  lockBand s i hs := (lockBand_pays s i).reservedBut hs
  startPurge s k m account howed hm hs := by
    refine (State.Pays.trans (setSlot_pays ?_) ((dropNaming_pays _ k).trans (unbind_pays _ k))).reservedBut hs
    obtain hm | hm := hm <;> simp [slotOwing_of hm, SlotState.owing, howed, owes]
  zeroGrace s k m a hm hs := (setSlot_pays (by rw [slotOwing_of hm]; rfl)).reservedBut hs
  poisonAndCut s k hs := inAnyOrder_induct (P := State.ReservedBut n) _ _ _ (fun _ _ ht => ht)
    (fun id _ t ht => (endAs_pays t _ id _).reservedBut ht) ((setSlot_pays (poison_owing _)).reservedBut hs)

/-! ### Requests and events -/

/-- A slot that begins to owe takes the reservation that was neither waiting nor filled. -/
theorem State.ReservedBut.owe_slot {s : State} (hs : s.ReservedBut 1) {k : SlotId} {v : KeySlot}
    (h0 : s.slotOwing k = 0) (h1 : v.state.owing = 1) : (s.setSlot k v).ReservedBut 0 := by
  obtain ⟨h, hmax, hsend⟩ := hs
  have hd := debt_setSlot s k v
  rw [h0, h1] at hd
  exact ⟨h.trans hd.symm, hmax, hsend⟩

/-- A slot that stops to owe leaves its reservation to be paid. -/
theorem State.ReservedBut.quit_slot {s : State} (hs : s.ReservedBut 0) {k : SlotId} {l : Load} {v : KeySlot}
    (hl : (s.slots[k]).state = .loading l) (h0 : v.state.owing = 0) :
    paying (State.ReservedBut 0) (State.ReservedBut 1) l.owed (s.setSlot k v) := by
  obtain ⟨h, hmax, hsend⟩ := hs
  have hd := debt_setSlot s k v
  rw [slotOwing_of hl, h0] at hd
  cases howed : l.owed with
  | none =>
    simp only [SlotState.owing, howed, owes] at hd
    exact ⟨h.trans hd.symm, hmax, hsend⟩
  | some tag =>
    simp only [SlotState.owing, howed, owes] at hd
    exact ⟨h.trans hd.symm, hmax, hsend⟩

theorem State.ReservedBut.stage {s : State} (hs : s.ReservedBut 1) {i : BandId} (change : Change) (tag : Byte)
    (ho : s.bandOpen i = true) (hp : ((s.bands[i]).bind (·.pending)).isSome = false) :
    (s.stage i change tag).ReservedBut 0 := by
  obtain ⟨h, hmax, hsend⟩ := hs
  cases hb : s.bands[i] with
  | none => simp [State.bandOpen, hb] at ho
  | some b =>
    rw [hb] at hp
    have hd := debt_setBand s i (some { b with pending := some { change := change, owed := some tag } })
    rw [bandOwings_of_some hb, bandOwing_of_none (by simpa using hp)] at hd
    rw [State.stage, hb]
    exact ⟨h.trans hd.symm, hmax, hsend⟩

/-- A table that finds no failure has none. -/
theorem firstFailing_eq_none {σ : Type} {checks : List (Bool × σ)} (h : firstFailing checks = none) :
    ∀ check ∈ checks, check.1 = false := by
  induction checks with
  | nil => simp
  | cons check rest ih =>
    obtain ⟨fails, status⟩ := check
    cases fails with
    | true => cases h
    | false => exact List.forall_mem_cons.2 ⟨rfl, ih h⟩

theorem unstaged_of_bandSetRefusal {s : State} {i : BandId} {new : Option BandFields}
    (h : s.bandSetRefusal i new = none) : ((s.bands[i]).bind (·.pending)).isSome = false :=
  firstFailing_eq_none h _ List.mem_cons_self

theorem unstaged_of_migrateStartRefusal {s : State} {i : BandId} {target : SlotId} {generation : BitVec 16}
    (h : s.migrateStartRefusal i target generation = none) : ((s.bands[i]).bind (·.pending)).isSome = false :=
  firstFailing_eq_none h _ List.mem_cons_self

theorem bandOwings_of_unstaged {s : State} {i : BandId} (h : ((s.bands[i]).bind (·.pending)).isSome = false) :
    s.bandOwings i = 0 := by
  unfold State.bandOwings
  cases hb : s.bands[i] with
  | none => rfl
  | some b =>
    rw [hb] at h
    exact bandOwing_of_none (by simpa using h)

theorem withLocks_owing (b : Band) (gated read write : Bool) :
    bandOwing (some (b.withLocks gated read write)) = bandOwing (some b) := by
  cases hp : b.pending with
  | none => rw [bandOwing_of_none hp, bandOwing_of_none (by simp [Band.withLocks, hp])]
  | some p =>
    rw [bandOwing_some hp, bandOwing_some (p := p.withLocks gated read write) (by simp [Band.withLocks, hp])]
    unfold Pending.withLocks
    split <;> rfl

theorem purgeAllSlot_pays (g : SlotId → Nat) (k : SlotId) (s : State) : s.Pays (State.purgeAllSlot g k s) := by
  unfold State.purgeAllSlot
  split
  · rename_i hm
    exact (setSlot_pays (by rw [slotOwing_of hm]; rfl)).trans (report_pays _ _)
  · rename_i hm
    exact (setSlot_pays (by rw [slotOwing_of hm]; rfl)).trans (report_pays _ _)
  · rename_i a ha
    exact (pays_slot _ _ _ (by rw [slotOwing_of ha]; simp [SlotState.owing])).trans (report_pays _ _)
  · exact .refl s
  · exact .refl s

/-- Where nothing is staged, the bands owe nothing. -/
theorem bandOwings_of_nothingStaged {s : State} (h : s.NothingStaged) (i : BandId) : s.bandOwings i = 0 := by
  unfold State.bandOwings
  cases hb : s.bands[i] with
  | none => rfl
  | some b => exact bandOwing_of_none (h i b hb)

theorem frontChoice_reply {s : State} (h : s.frontChoice = some .reply) : s.replies ≠ [] := by
  unfold State.frontChoice at h
  split at h
  · cases h
  · split at h
    · rename_i hne
      simpa using hne
    · split at h <;> cases h

theorem startSending_reservedBut {s : State} (hs : s.ReservedBut 0) (lane : OutLane) :
    (s.startSending lane).ReservedBut 0 := by
  obtain ⟨h, hmax, hsend⟩ := hs
  unfold State.startSending
  cases lane with
  | front =>
    dsimp only
    split
    · exact ⟨h, hmax, hsend⟩
    · exact ⟨h, hmax, frontChoice_reply⟩
  | back =>
    dsimp only
    split <;> exact ⟨h, hmax, hsend⟩

theorem freeFront_reservedBut {s : State} (hs : s.ReservedBut 0) {source : FrontSource}
    (hsrc : s.frontSending = some source) : ({ s with frontSending := none }.freeFront source).ReservedBut 0 := by
  obtain ⟨h, hmax, hsend⟩ := hs
  cases source with
  | notice => exact ⟨h, hmax, nofun⟩
  | reply =>
    obtain ⟨r, rest, hr⟩ := List.exists_cons_of_ne_nil (hsend hsrc)
    refine ⟨?_, (Nat.sub_le _ _).trans hmax, nofun⟩
    rw [debt_eq] at h ⊢
    simp only [State.freeFront, hr, List.tail_cons, List.length_cons] at h ⊢
    change s.reservations - 1 = (allSlots.map s.slotOwing).sum + (allBands.map s.bandOwings).sum + rest.length + 0
    omega
  | data =>
    obtain ⟨_, _, hp⟩ := popFront_frame { s with frontSending := none }
    rw [State.freeFront, hp]
    exact ⟨h, hmax, nofun⟩

theorem reservedBut_of_clear {s : State} (hk : ∀ k, s.slotOwing k = 0) (hb : ∀ i, s.bandOwings i = 0)
    (hr : s.replies = []) (hn : s.reservations = 0) (hf : s.frontSending = none) : s.ReservedBut 0 := by
  refine ⟨?_, by rw [hn]; exact Nat.zero_le _, by rw [hf]; nofun⟩
  rw [debt_eq, hn, hr, show s.slotOwing = fun _ => 0 from funext hk, show s.bandOwings = fun _ => 0 from funext hb]
  simp

theorem State.ReservedBut.of_owings {n : Nat} {s t : State} (hs : s.ReservedBut n) (ho : t.outside = s.outside)
    (hr : t.replies = s.replies) (hk : t.slotOwing = s.slotOwing) (hb : t.bandOwings = s.bandOwings) :
    t.ReservedBut n :=
  (pays_of_owings ho hr hk hb).reservedBut hs

theorem State.ReservedBut.of_debt {n : Nat} {s t : State} (hs : s.ReservedBut n) (hd : t.debt = s.debt)
    (hr : t.replies = s.replies) (hn : t.reservations = s.reservations) (hf : t.frontSending = s.frontSending) :
    t.ReservedBut n :=
  State.Pays.reservedBut ⟨hd, by rw [hr], hn, hf⟩ hs

/-- Where nothing is staged, an emptied band table owes what it did. -/
theorem State.ReservedBut.clear_bands {n : Nat} {s : State} (hs : s.ReservedBut n) (hn : s.NothingStaged)
    (wraps : Vector WrapSlot 4) (life : Life) :
    State.ReservedBut n { s with wraps := wraps, bands := Vector.replicate 32 none, life := life } := by
  have hb : State.bandOwings { s with wraps := wraps, bands := Vector.replicate 32 none, life := life } =
      s.bandOwings := by
    funext i
    rw [bandOwings_of_nothingStaged hn i]
    simp [State.bandOwings, bandOwing]
  exact State.ReservedBut.of_debt hs (debt_congr rfl hb rfl) rfl rfl rfl

theorem State.ReservedBut.lock {n : Nat} {s : State} (hs : s.ReservedBut n) {i : BandId} {b : Band}
    (hb : s.bands[i] = some b) (gated read write : Bool) :
    (s.setBand i (some (b.withLocks gated read write))).ReservedBut n := by
  have ho : (s.setBand i (some (b.withLocks gated read write))).bandOwings = s.bandOwings :=
    setBand_bandOwings ((withLocks_owing b gated read write).trans (bandOwings_of_some hb).symm)
  exact hs.of_debt (debt_congr rfl ho rfl) rfl rfl rfl

theorem tick_slotOwing (s : State) : s.tick.slotOwing = s.slotOwing := by
  funext k
  simp only [State.slotOwing, State.tick, Fin.getElem_fin, Vector.getElem_map]
  cases (s.slots[k.val]).state <;> rfl

theorem damage_pays (s : State) (location : BitLocation) : s.Pays (s.damage location) := by
  cases location with
  | wrap => exact .refl s
  | key k i bit =>
    refine setSlot_pays ?_
    unfold State.slotOwing
    cases (s.slots[k]).state <;> rfl

/-- A request's reservation is filled by its reply or left waiting; the end of what waits fills it; the completed sending
of a REPLY frees it. -/
theorem reservations_served : Served (State.ReservedBut 0) (State.ReservedBut 1) where
  kept := reservedBut_kept 0
  keptOwing := reservedBut_kept 1
  setHead _ lane _ hs := by cases lane <;> exact hs
  reserve s hfree hs := by
    obtain ⟨h, _, hsend⟩ := hs
    refine ⟨?_, of_decide_eq_true hfree, hsend⟩
    rw [show s.reserve.debt = s.debt from debt_congr rfl rfl rfl]
    exact congrArg Nat.succ (h.trans (Nat.add_zero _))
  reply s tag code status result hs := by
    obtain ⟨h, hmax, _⟩ := hs
    have hd := debt_payReply s (some tag) .keyLoad status result
    refine ⟨?_, hmax, fun _ => by simp [State.reply]⟩
    rw [Nat.add_zero, ← show (s.payReply (some tag) .keyLoad status result).debt = (s.reply tag code status result).debt
      from debt_congr rfl rfl (by simp [State.payReply, State.reply]), hd]
    exact h
  refuse _ _ _ _ hs := hs
  accept s id _ _ _ _ _ _ _ _ _ hs := by
    refine hs.of_owings (acceptContext_outside _ _ _) rfl ?_ ?_
    · funext k
      rw [State.slotOwing, acceptContext_slots_get]
      split <;> rfl
    · funext i
      rw [State.bandOwings, acceptContext_bands_get]
      refine bandOwing_map fun b => ?_
      split <;> rfl
  fragment s id c _ bytes _ _ _ _ hs := by
    obtain ⟨_, _, h⟩ := fragmentTaken_frame s id c bytes
    exact h ▸ hs
  complete s id c _ bytes _ _ _ _ _ hs := by
    obtain ⟨_, _, h⟩ := fragmentTaken_frame s id c bytes
    exact (reservedBut_kept 0).completed (fun t i w ht => (moveWatermark_pays t i w true).reservedBut ht) _ _ _ (h ▸ hs)
  startLoad s k w _ _ tag hr hs := by
    refine hs.owe_slot ?_ rfl
    have hempty := firstFailing_eq_none hr _ List.mem_cons_self
    unfold State.slotOwing
    unfold KeySlot.isEmpty at hempty
    split at hempty
    · rename_i he
      rw [he]
      rfl
    · cases hempty
  endLoad _ _ _ hl hs := hs.quit_slot hl rfl
  loaded _ _ _ _ _ hl hs := hs.quit_slot hl rfl
  startPurgeOwed s k m account tag howed hm hs := by
    refine ((dropNaming_pays _ k).trans (unbind_pays _ k)).reservedBut (hs.owe_slot ?_ ?_)
    · obtain hm | hm := hm <;> rw [slotOwing_of hm] <;> rfl
    · simp [SlotState.owing, howed, owes]
  purgeAll := (reservedBut_kept 1).purgeAll (fun s g k _ hs => (purgeAllSlot_pays g k s).reservedBut hs)
    fun s _ hn hs => hs.clear_bands hn _ _
  graceSetting _ _ hs := hs
  damage s location hs := (damage_pays s location).reservedBut hs
  stageSet _ _ _ _ tag _ hr ho hs := hs.stage _ tag ho (unstaged_of_bandSetRefusal hr)
  applySet s _ i new _ hr _ hs := by
    have hd := applyBandSet_debt s i new
    rw [bandOwings_of_unstaged (unstaged_of_bandSetRefusal hr), Nat.add_zero] at hd
    have ho := applyBandSet_outside s i new
    exact State.Pays.reservedBut ⟨hd, by rw [applyBandSet_replies], (congrArg State.reservations ho :),
      (congrArg State.frontSending ho :)⟩ hs
  lock s i b gated read write hb hs := hs.lock hb gated read write
  stageStart _ _ _ _ tag hr ho hs := hs.stage _ tag ho (unstaged_of_migrateStartRefusal hr)
  applyStart s i target generation hr _ hs := by
    have hd := applyMigrateStart_debt s i target generation
    rw [bandOwings_of_unstaged (unstaged_of_migrateStartRefusal hr), Nat.add_zero] at hd
    have ho := applyMigrateStart_outside s i target generation
    exact State.Pays.reservedBut ⟨hd, by rw [applyMigrateStart_replies], (congrArg State.reservations ho :),
      (congrArg State.frontSending ho :)⟩ hs
  tripClear _ _ _ hs := hs
  setPeriod _ _ _ _ hs := hs
  acknowledge s k hs := by
    unfold State.acknowledge
    dsimp only
    repeat' split
    all_goals exact hs
  goOnline _ hs := hs
  timeSet _ _ hs := hs
  startSending _ lane hs := startSending_reservedBut hs lane
  freeFront _ _ hsrc hs := freeFront_reservedBut hs hsrc
  freeBack s _ hs := by
    obtain ⟨_, _, h⟩ := popBack_frame { s with backSending := false }
    exact h ▸ hs
  setOutHold _ lane _ hs := by cases lane <;> exact hs
  assertPlock := (reservedBut_kept 0).assertPlock fun _ _ _ hs => hs
  deassertPlock _ hs := hs
  assertPfail := (reservedBut_kept 0).assertPfail fun _ _ _ hs => hs
  deassertPfail _ hs := hs
  assertLinkrst := (reservedBut_kept 0).assertLinkrst (fun _ _ hs => hs)
    (fun s _ => reservedBut_of_clear
      (fun k => by
        simp only [State.slotOwing, State.freeContexts, Fin.getElem_fin, Vector.getElem_map]
        cases (s.resetPorts.slots[k.val]).state <;> rfl)
      (fun i => by
        simp only [State.bandOwings, State.freeContexts, Fin.getElem_fin, Vector.getElem_map]
        cases s.resetPorts.bands[i.val] with
        | none => rfl
        | some b => cases hp : b.pending <;> simp [bandOwing, Band.dropOwed, hp, owes]) rfl rfl rfl)
    fun _ hs => hs
  releaseLinkrst _ hs := hs
  assertPorst := assertPorst_induct fun _ => reservedBut_of_clear
    (fun k => by simp [State.slotOwing, State.powerOn, State.reset, KeySlot.reset, SlotState.owing])
    (fun i => by simp [State.bandOwings, State.powerOn, State.reset, bandOwing]) rfl rfl rfl
  releasePorst := (reservedBut_kept 0).releasePorst fun _ _ _ hs => hs
  tick s hs := hs.of_debt (debt_congr (tick_slotOwing s) rfl rfl) rfl rfl rfl

/-- Settles O52. -/
theorem reservationsAreKept : Obligations.ReservationsAreKept :=
  fun c s t hs he => (reservationsOk_iff t).2 (reservations_served.exec c s t ((reservationsOk_iff s).1 hs) he)

end Sys2Proof.Machine

/-! PROOFS. Lines, life state and PORST (R134, R137, R142, R154, R160): what latches PLOCK, when records are open, and
that nothing but the lines moves while PORST is asserted. -/

namespace Sys2Proof.Machine

/-! ### Line states -/

/-- What keeps the lines and their states, and takes no PLOCK away, keeps their agreement. -/
theorem State.LinesOk.of_board {s t : State} (hs : s.LinesOk) (h : t.board = s.board)
    (hl : s.latched.plock = true → t.latched.plock = true) : t.LinesOk := by
  obtain ⟨h1, h2, h3⟩ := hs
  have hporst : t.porstLine = s.porstLine := (congrArg State.porstLine h :)
  have hplock : t.plock = s.plock := (congrArg State.plock h :)
  have hpfail : t.pfail = s.pfail := (congrArg State.pfail h :)
  have hplockLine : t.plockLine = s.plockLine := (congrArg State.plockLine h :)
  have hpfailLine : t.pfailLine = s.pfailLine := (congrArg State.pfailLine h :)
  refine ⟨?_, ?_, fun hp => hl (h3 (hplock ▸ hp))⟩
  · rw [hporst, hplock, hpfail]
    exact h1
  · rw [hporst, hplock, hpfail, hplockLine, hpfailLine]
    exact h2

theorem State.LinesOk.of_outside {s t : State} (hs : s.LinesOk) (h : t.outside = s.outside) : t.LinesOk :=
  hs.of_board (board_of_outside h) fun hp => by rwa [show t.latched = s.latched from (congrArg State.latched h :)]

theorem poisonAndCut_outside (s : State) (k : SlotId) : (s.poisonAndCut k).outside = s.outside :=
  inAnyOrder_outside _ _ _ fun id _ t => endContext_outside t id .keyFault

theorem startPurge_outside (s : State) (k : SlotId) (m : Material) (account : Account) :
    (s.startPurge k m account).outside = s.outside :=
  (unbind_outside _ _).trans (dropNaming_outside _ _)

theorem insert_plock (set : SourceSet) (src : TripSource) (h : set.plock = true) : (set.insert src).plock = true := by
  cases src
  · rfl
  · exact h
  · exact h

theorem linesOk_kept : Kept State.LinesOk where
  choices _ _ hs := hs
  report s d hs := hs.of_outside (report_outside s d)
  discards _ _ hs := hs
  latched s src hs := hs.of_board (t := { s with latched := s.latched.insert src }) rfl (insert_plock s.latched src)
  setWrap _ _ _ hs := hs
  endAs s kind id status hs := hs.of_outside (endAs_outside s kind id status)
  applyPending s i hs := hs.of_outside (applyPending_outside s i)
  dropPending s i hs := hs.of_outside (dropPending_outside s i)
  abandonLoad s k hs := hs.of_outside (abandonLoad_outside s k)
  endPurge s k _ hs := hs.of_outside (endPurge_outside s k)
  lockBand _ _ hs := hs
  startPurge s k m account _ _ hs := hs.of_outside (startPurge_outside s k m account)
  zeroGrace _ _ _ _ _ hs := hs
  poisonAndCut s k hs := hs.of_outside (poisonAndCut_outside s k)

theorem insert_of_has {set : SourceSet} {src : TripSource} (h : set.has src = true) : set.insert src = set := by
  obtain ⟨plock, soft, keyfault⟩ := set
  cases src with
  | plock => exact congrArg (SourceSet.mk · soft keyfault) h.symm
  | soft => exact congrArg (SourceSet.mk plock · keyfault) h.symm
  | keyfault => exact congrArg (SourceSet.mk plock soft ·) h.symm

/-- A latching joins its source to the set. -/
theorem latch_latched (s : State) (src : TripSource) : (s.latch src).latched = s.latched.insert src := by
  cases h : s.latched.has src with
  | true => rw [latch_of_has s src h, insert_of_has h]
  | false => exact (congrArg State.latched (latch_outside s src h) :)

/-- PLOCK is latched where its line state is asserted with its line (R134, R142). -/
theorem linesOk_of_latch_plock {s : State} (hporst : s.porstLine = false) (hp : s.plock = s.plockLine)
    (hf : s.pfail = s.pfailLine) : (s.latch .plock).LinesOk := by
  have h := latch_board s .plock
  have hporst' : (s.latch .plock).porstLine = s.porstLine := (congrArg State.porstLine h :)
  have hplock' : (s.latch .plock).plock = s.plock := (congrArg State.plock h :)
  have hpfail' : (s.latch .plock).pfail = s.pfail := (congrArg State.pfail h :)
  have hplockLine' : (s.latch .plock).plockLine = s.plockLine := (congrArg State.plockLine h :)
  have hpfailLine' : (s.latch .plock).pfailLine = s.pfailLine := (congrArg State.pfailLine h :)
  refine ⟨fun h1 => ?_, fun _ => ?_, fun _ => ?_⟩
  · rw [hporst', hporst] at h1
    cases h1
  · rw [hplock', hplockLine', hpfail', hpfailLine']
    exact ⟨hp, hf⟩
  · rw [latch_latched]
    rfl

theorem State.LinesOk.assertPlock {s : State} (hs : s.LinesOk) : s.assertPlock.LinesOk := by
  obtain ⟨h1, h2, h3⟩ := hs
  unfold State.assertPlock
  split
  · exact ⟨h1, h2, h3⟩
  · split
    · rename_i hp
      exact ⟨h1, fun hn => absurd (hp.symm.trans hn) (by decide), h3⟩
    · rename_i hp
      have hp : s.porstLine = false := Bool.eq_false_iff.2 hp
      exact linesOk_of_latch_plock hp rfl (h2 hp).2

theorem State.LinesOk.assertPfail {s : State} (hs : s.LinesOk) : s.assertPfail.LinesOk := by
  obtain ⟨h1, h2, h3⟩ := hs
  unfold State.assertPfail
  split
  · exact ⟨h1, h2, h3⟩
  · split
    · rename_i hp
      exact ⟨h1, fun hn => absurd (hp.symm.trans hn) (by decide), h3⟩
    · rename_i hp
      exact linesOk_kept.report _ _ ⟨fun hn => absurd hn hp, fun hn => ⟨(h2 hn).1, rfl⟩, h3⟩

theorem State.LinesOk.releasePorst {s : State} (hs : s.LinesOk) : s.releasePorst.LinesOk := by
  unfold State.releasePorst
  split
  · dsimp only
    split
    · exact linesOk_of_latch_plock rfl rfl rfl
    · rename_i hp
      exact ⟨nofun, fun _ => ⟨rfl, rfl⟩, fun h => absurd h hp⟩
  · exact hs

theorem acknowledge_linesOk {s : State} (hs : s.LinesOk) (k : NoticeClass) : (s.acknowledge k).LinesOk :=
  hs.of_outside (acknowledge_outside s k)

theorem purgeAll_latched (s : State) : s.purgeAll.latched = s.latched := by
  have h : (inOrder (State.purgeAllSlot fun k =>
        ((inOrder (fun k t => State.abandonLoad t k) allSlots
          (inOrder (fun i t => State.dropPending t i) allBands s)).slots[k]).holders) allSlots
      ((inOrder (fun k t => State.abandonLoad t k) allSlots
        (inOrder (fun i t => State.dropPending t i) allBands s)).cutAll .keyPurged allContexts)).outside = s.outside :=
    (inOrder_outside _ _ _ fun k _ t => purgeAllSlot_outside _ k t).trans ((cutAll_outside _ _ _).trans
      ((inOrder_outside _ _ _ fun k _ t => abandonLoad_outside t k).trans
        (inOrder_outside _ _ _ fun i _ t => dropPending_outside t i)))
  exact (congrArg State.latched h :)

/-- The lines move with their own events alone; a TRIP-CLEAR of PLOCK needs its line state deasserted (R137). -/
theorem linesOk_served : Served State.LinesOk State.LinesOk where
  kept := linesOk_kept
  keptOwing := linesOk_kept
  setHead _ lane _ hs := by cases lane <;> exact hs
  reserve _ _ hs := hs
  reply _ _ _ _ _ hs := hs
  refuse _ _ _ _ hs := hs
  accept _ _ _ _ _ _ _ _ _ _ _ hs := hs
  fragment s id c _ bytes _ _ _ _ hs := by
    obtain ⟨_, _, h⟩ := fragmentTaken_frame s id c bytes
    exact h ▸ hs
  complete s id c _ bytes _ _ _ _ _ hs := by
    obtain ⟨_, _, h⟩ := fragmentTaken_frame s id c bytes
    exact linesOk_kept.completed (fun t i w ht => ht.of_outside (moveWatermark_outside t i w true)) _ _ _ (h ▸ hs)
  startLoad _ _ _ _ _ _ _ hs := hs
  endLoad _ _ l _ hs := by cases l.owed <;> exact hs
  loaded _ _ l _ _ _ hs := by cases l.owed <;> exact hs
  startPurgeOwed s k m account _ _ _ hs := hs.of_outside (startPurge_outside s k m account)
  purgeAll s hs := hs.of_board (purgeAll_board s) fun h => by rwa [purgeAll_latched]
  graceSetting _ _ hs := hs
  damage _ location hs := by cases location <;> exact hs
  stageSet _ _ _ _ _ _ _ _ hs := hs
  applySet s _ i new _ _ _ hs := hs.of_outside (applyBandSet_outside s i new)
  lock _ _ _ _ _ _ _ hs := hs
  stageStart _ _ _ _ _ _ _ hs := hs
  applyStart s i target generation _ _ hs := hs.of_outside (applyMigrateStart_outside s i target generation)
  tripClear s mask hm hs := by
    obtain ⟨h1, h2, h3⟩ := hs
    refine ⟨h1, h2, fun hp => ?_⟩
    have hp : s.plock = true := hp
    rw [hp, Bool.and_true] at hm
    simp [SourceSet.diff, h3 hp, hm]
  setPeriod _ _ _ _ hs := hs
  acknowledge _ k hs := acknowledge_linesOk hs k
  goOnline _ hs := hs
  timeSet _ _ hs := hs
  startSending s lane hs := by
    obtain ⟨_, _, h⟩ := startSending_frame s lane
    exact h ▸ hs
  freeFront s source _ hs := by
    cases source with
    | notice => exact hs
    | reply => exact hs
    | data =>
      obtain ⟨_, _, h⟩ := popFront_frame { s with frontSending := none }
      rw [State.freeFront, h]
      exact hs
  freeBack s _ hs := by
    obtain ⟨_, _, h⟩ := popBack_frame { s with backSending := false }
    exact h ▸ hs
  setOutHold _ lane _ hs := by cases lane <;> exact hs
  assertPlock _ hs := hs.assertPlock
  deassertPlock s hs := by
    obtain ⟨h1, h2, _⟩ := hs
    exact ⟨fun hp => ⟨rfl, (h1 hp).2⟩, fun hp => ⟨rfl, (h2 hp).2⟩, nofun⟩
  assertPfail _ hs := hs.assertPfail
  deassertPfail s hs := by
    obtain ⟨h1, h2, h3⟩ := hs
    exact ⟨fun hp => ⟨(h1 hp).1, rfl⟩, fun hp => ⟨(h2 hp).1, rfl⟩, h3⟩
  assertLinkrst := linesOk_kept.assertLinkrst (fun _ _ hs => hs) (fun _ hs => hs) fun _ hs => hs
  releaseLinkrst _ hs := hs
  assertPorst := assertPorst_induct fun _ => ⟨fun _ => ⟨rfl, rfl⟩, nofun, nofun⟩
  releasePorst _ hs := hs.releasePorst
  tick _ hs := hs

/-! ### Life state -/

/-- What keeps the life state and opens no record. -/
theorem State.PrepareOk.mono {s t : State} (hs : s.PrepareOk) (hl : t.life = s.life)
    (h : ∀ id : CtxId, s.contexts[id] = none → t.contexts[id] = none) : t.PrepareOk :=
  fun hp id => h id (hs (hl ▸ hp) id)

theorem State.PrepareOk.of_transfers {s t : State} (hs : s.PrepareOk) (ho : t.outside = s.outside)
    (h : t.transfers = s.transfers) : t.PrepareOk :=
  hs.mono (congrArg State.life ho :) fun id hn => by rwa [contexts_of_transfers h]

theorem State.PrepareOk.endAs {s : State} (hs : s.PrepareOk) (kind : EndKind) (id : CtxId)
    (status : TransferStatus) : (s.endAs kind id status).PrepareOk :=
  hs.mono (congrArg State.life (endAs_outside s kind id status) :) fun j hj => by
    rw [endAs_contexts, hj, ite_self]

theorem prepareOk_kept : Kept State.PrepareOk where
  choices _ _ hs := hs
  report s d hs := hs.of_transfers (report_outside s d) (report_transfers s d)
  discards _ _ hs := hs
  latched _ _ hs := hs
  setWrap _ _ _ hs := hs
  endAs _ kind id status hs := hs.endAs kind id status
  applyPending s i hs := hs.of_transfers (applyPending_outside s i) (applyPending_transfers s i)
  dropPending s i hs := hs.of_transfers (dropPending_outside s i) (dropPending_transfers s i)
  abandonLoad s k hs := hs.of_transfers (abandonLoad_outside s k) (abandonLoad_transfers s k)
  endPurge s k _ hs := hs.of_transfers (endPurge_outside s k) (endPurge_transfers s k)
  lockBand _ _ hs := hs
  startPurge s k m account _ _ hs :=
    hs.of_transfers (startPurge_outside s k m account) (startPurge_transfers s k m account)
  zeroGrace _ _ _ _ _ hs := hs
  poisonAndCut _ _ hs := inAnyOrder_induct (P := State.PrepareOk) _ _ _ (fun _ _ ht => ht)
    (fun id _ _ ht => ht.endAs _ id _) hs

/-- A passed OPEN found the part ONLINE (R25). -/
theorem life_of_openRefusal {s : State} {id : CtxId} {dir : Direction} {migrate : Bool} {ns : Option Ns}
    {first count : Nat} (h : s.openRefusal id dir migrate ns first count = none) : s.life ≠ .prepare := by
  unfold State.openRefusal at h
  split at h
  · cases h
  · rename_i hl
    exact hl

theorem State.PrepareOk.fragmentTaken {s : State} (hs : s.PrepareOk) {id : CtxId} {c : Context} (bytes : List Byte)
    (hc : s.contexts[id] = some c) : (s.fragmentTaken id c bytes).PrepareOk := by
  obtain ⟨_, _, h⟩ := fragmentTaken_frame s id c bytes
  intro hp
  rw [h] at hp
  exact nomatch (hs hp id).symm.trans hc

/-- Records open ONLINE alone, and PURGE-ALL frees them before it leaves ONLINE. -/
theorem prepareOk_served : Served State.PrepareOk State.PrepareOk where
  kept := prepareOk_kept
  keptOwing := prepareOk_kept
  setHead _ lane _ hs := by cases lane <;> exact hs
  reserve _ _ hs := hs
  reply _ _ _ _ _ hs := hs
  refuse _ _ _ _ hs := hs
  accept s _ _ _ _ _ _ hr _ _ _ _ hp := absurd (show s.life = .prepare from hp) (life_of_openRefusal hr)
  fragment _ _ _ _ bytes hc _ _ _ hs := hs.fragmentTaken bytes hc
  complete _ _ _ _ bytes _ hc _ _ _ hs := prepareOk_kept.completed
    (fun t i w ht => ht.of_transfers (moveWatermark_outside t i w true) (moveWatermark_transfers t i w true)) _ _ _
    (hs.fragmentTaken bytes hc)
  startLoad _ _ _ _ _ _ _ hs := hs
  endLoad _ _ l _ hs := by cases l.owed <;> exact hs
  loaded _ _ l _ _ _ hs := by cases l.owed <;> exact hs
  startPurgeOwed s k m account _ _ _ hs :=
    hs.of_transfers (startPurge_outside s k m account) (startPurge_transfers s k m account)
  purgeAll := prepareOk_kept.purgeAll
    (fun s g k _ hs => hs.of_transfers (purgeAllSlot_outside g k s) (purgeAllSlot_transfers g k s))
    fun _ hc _ _ _ => hc
  graceSetting _ _ hs := hs
  damage _ location hs := by cases location <;> exact hs
  stageSet _ _ _ _ _ _ _ _ hs := hs
  applySet s _ i new _ _ _ hs := hs.of_transfers (applyBandSet_outside s i new) (applyBandSet_transfers s i new)
  lock _ _ _ _ _ _ _ hs := hs
  stageStart _ _ _ _ _ _ _ hs := hs
  applyStart s i target generation _ _ hs := hs.of_transfers (applyMigrateStart_outside s i target generation)
    (applyMigrateStart_transfers s i target generation)
  tripClear _ _ _ hs := hs
  setPeriod _ _ _ _ hs := hs
  acknowledge s k hs := by
    unfold State.acknowledge
    dsimp only
    repeat' split
    all_goals exact hs
  goOnline _ _ := nofun
  timeSet _ _ hs := hs
  startSending s lane hs := by
    obtain ⟨_, _, h⟩ := startSending_frame s lane
    exact h ▸ hs
  freeFront s source _ hs := by
    cases source with
    | notice => exact hs
    | reply => exact hs
    | data =>
      obtain ⟨_, _, h⟩ := popFront_frame { s with frontSending := none }
      rw [State.freeFront, h]
      exact hs
  freeBack s _ hs := by
    obtain ⟨_, _, h⟩ := popBack_frame { s with backSending := false }
    exact h ▸ hs
  setOutHold _ lane _ hs := by cases lane <;> exact hs
  assertPlock := prepareOk_kept.assertPlock fun _ _ _ hs => hs
  deassertPlock _ hs := hs
  assertPfail := prepareOk_kept.assertPfail fun _ _ _ hs => hs
  deassertPfail _ hs := hs
  assertLinkrst := prepareOk_kept.assertLinkrst (fun _ _ hs => hs)
    (fun _ _ _ _ => Vector.getElem_replicate _) fun _ hs => hs
  releaseLinkrst _ hs := hs
  assertPorst := assertPorst_induct fun _ _ _ => Vector.getElem_replicate _
  releasePorst := prepareOk_kept.releasePorst fun _ _ _ hs => hs
  tick _ hs := hs

/-! ### PORST -/

/-- The lines of a state, with what no frame's taking reaches. -/
theorem settle_porstLine (s : State) : s.settle.porstLine = s.porstLine :=
  settle_induct (P := fun t => t.porstLine = s.porstLine) s (fun _ _ ht => ht)
    (fun t lane _ ht => by cases lane <;> exact ht)
    (fun f t _ ht => (congrArg State.porstLine (takeFrame_board f t) :).trans ht) rfl

theorem present_porstLine (s : State) (frame : Instr) : (s.present frame).porstLine = s.porstLine := by
  unfold State.present
  split
  · rfl
  · split
    · exact (congrArg State.porstLine (takeFrame_board frame s) :)
    · cases frameLane frame <;> rfl

theorem presentAndSettle_porstLine (s : State) (frame : Instr) :
    (s.presentAndSettle frame).porstLine = s.porstLine := by
  unfold State.presentAndSettle
  split
  · rfl
  · split
    · exact (settle_porstLine _).trans (congrArg State.porstLine (takeFrame_board frame s) :)
    · cases frameLane frame <;> rfl

theorem unwrapOutcome_outside (s : State) (k : SlotId) (owed : Option Byte) (result : Option (BitVec 512)) :
    (s.unwrapOutcome k owed result).outside = s.outside := by
  unfold State.unwrapOutcome
  dsimp only
  split
  · exact payReply_outside _ _ _ _ _
  · split <;> exact payReply_outside _ _ _ _ _

theorem wrapFaultReply_board (s : State) (owed : Option Byte) (generation : BitVec 16) :
    (s.wrapFaultReply owed generation).board = s.board := by
  have hpay : ∀ t : State, (t.payReply owed .keyLoad .wrapFault (.keyLoad 0 generation)).board = t.board :=
    fun t => board_of_outside (payReply_outside t _ _ _ _)
  unfold State.wrapFaultReply
  dsimp only
  split
  · exact (hpay _).trans (latch_board s _)
  · refine inAnyOrder_induct (P := fun t => t.board = s.board) _ _ _ (fun _ _ ht => ht) (fun first _ t ht => ?_) rfl
    split
    · exact (hpay t).trans ht
    · exact (latch_board t _).trans ht

theorem completeLoad_board (s : State) (k : SlotId) : (s.completeLoad k).board = s.board := by
  unfold State.completeLoad
  split
  · split
    · exact board_of_outside (unwrapOutcome_outside _ _ _ _)
    · exact (board_of_outside (report_outside _ _)).trans (wrapFaultReply_board _ _ _)
  · rfl

theorem expireSlot_outside (s : State) (k : SlotId) : (s.expireSlot k).outside = s.outside := by
  unfold State.expireSlot
  split
  · exact expire_outside s false k
  · rfl

theorem drainSlot_outside (s : State) (k : SlotId) : (s.drainSlot k).outside = s.outside := by
  unfold State.drainSlot
  split
  · exact endPurge_outside s k
  · rfl

theorem porstLine_of_board {s t : State} (h : t.board = s.board) : t.porstLine = s.porstLine :=
  (congrArg State.porstLine h :)

theorem completeSending_porstLine (s : State) (lane : OutLane) : (s.completeSending lane).porstLine = s.porstLine := by
  unfold State.completeSending
  split
  · split
    · rfl
    · rename_i source _
      rw [settle_porstLine]
      cases source with
      | notice => rfl
      | reply => rfl
      | data =>
        obtain ⟨_, _, h⟩ := popFront_frame { s with frontSending := none }
        rw [State.freeFront, h]
  · split
    · rw [settle_porstLine]
      obtain ⟨_, _, h⟩ := popBack_frame { s with backSending := false }
      rw [h]
    · rfl

theorem microsecond_porstLine (s : State) : s.microsecond.porstLine = s.porstLine := by
  unfold State.microsecond
  split
  · rfl
  · rw [settle_porstLine]
    refine inAnyOrder_induct (P := fun t => t.porstLine = s.porstLine) _ _ _ (fun _ _ ht => ht)
      (fun k _ t ht => (porstLine_of_board (board_of_outside (expireSlot_outside t k))).trans ht) ?_
    exact inAnyOrder_induct (P := fun t => t.porstLine = s.porstLine) _ _ _ (fun _ _ ht => ht)
      (fun k _ t ht => (settle_porstLine _).trans ((porstLine_of_board (completeLoad_board t k)).trans ht)) rfl

theorem assertPlock_porstLine (s : State) : s.assertPlock.porstLine = s.porstLine := by
  unfold State.assertPlock
  split
  · rfl
  · split
    · rfl
    · exact (porstLine_of_board (latch_board _ .plock)).trans rfl

theorem assertPfail_porstLine (s : State) : s.assertPfail.porstLine = s.porstLine := by
  unfold State.assertPfail
  split
  · rfl
  · split
    · rfl
    · exact (porstLine_of_board (board_of_outside (report_outside _ _))).trans rfl

theorem linkReset_porstLine (s : State) : s.linkReset.porstLine = s.porstLine := by
  have h := (drainIdle_outside s.resetPorts.freeContexts.applyIdleChanges none).trans
    (applyIdleChanges_outside s.resetPorts.freeContexts)
  exact (congrArg State.porstLine h :)

theorem assertLinkrst_porstLine (s : State) : s.assertLinkrst.porstLine = s.porstLine := by
  unfold State.assertLinkrst
  split
  · rfl
  · split
    · rfl
    · exact linkReset_porstLine _

/-- No command but its own assertion asserts PORST. -/
theorem exec_porstLine {c : Instr} {s t : State} (he : exec c s = .next t) (hc : c ≠ .porstAssert)
    (hs : s.porstLine = false) : t.porstLine = false := by
  have h : t.porstLine = s.porstLine ∨ t.porstLine = false := by
    cases c <;> cases he
    case porstAssert => exact absurd rfl hc
    case data => exact .inl (presentAndSettle_porstLine s _)
    case abort => exact .inl (presentAndSettle_porstLine s _)
    case keyPurge => exact .inl (presentAndSettle_porstLine s _)
    case purgeAll => exact .inl (presentAndSettle_porstLine s _)
    case bandSet => exact .inl (presentAndSettle_porstLine s _)
    case migrateStart => exact .inl (presentAndSettle_porstLine s _)
    case tripForce => exact .inl (presentAndSettle_porstLine s _)
    case unwrapComplete => exact .inl ((settle_porstLine _).trans (porstLine_of_board (completeLoad_board s _)))
    case purgeDrain => exact .inl (porstLine_of_board (board_of_outside (drainSlot_outside s _)))
    case purgeExpiry =>
      exact .inl ((settle_porstLine _).trans (porstLine_of_board (board_of_outside (expireSlot_outside s _))))
    case pendingChangeApply =>
      exact .inl ((settle_porstLine _).trans (porstLine_of_board (board_of_outside (applyPending_outside s _))))
    case bitDamage location => cases location <;> exact .inl rfl
    case sendStart lane =>
      obtain ⟨_, _, h⟩ := startSending_frame s lane
      exact .inl (by rw [h])
    case frameSent lane => exact .inl (completeSending_porstLine s lane)
    case outboundHold lane level => cases lane <;> exact .inl rfl
    case plockAssert => exact .inl ((settle_porstLine _).trans (assertPlock_porstLine s))
    case plockDeassert => exact .inl rfl
    case pfailAssert => exact .inl (assertPfail_porstLine s)
    case pfailDeassert => exact .inl rfl
    case linkrstAssert => exact .inl (assertLinkrst_porstLine s)
    case linkrstRelease => exact .inl rfl
    case porstRelease =>
      rw [State.releasePorst, if_neg (by rw [hs]; decide)]
      exact .inl rfl
    case microsecondPasses => exact .inl (microsecond_porstLine s)
    all_goals exact .inl (present_porstLine s _)
  obtain h | h := h
  · exact h.trans hs
  · exact h

/-- While PORST is asserted no lane receives a frame (R144, R154). -/
theorem holdLine_of_porst {s : State} (hline : s.porstLine = true) (lane : InLane) : s.holdLine lane = true := by
  cases lane <;> simp [State.holdLine, hline]

theorem present_of_porst {s : State} (hline : s.porstLine = true) (frame : Instr) : s.present frame = s := by
  rw [State.present, holdLine_of_porst hline]
  rfl

theorem presentAndSettle_of_porst {s : State} (hline : s.porstLine = true) (frame : Instr) : s.presentAndSettle frame = s := by
  rw [State.presentAndSettle, holdLine_of_porst hline]
  rfl

section Powered

variable {s : State} (hs : s.powerOn = s)

include hs

theorem slots_of_powerOn (k : SlotId) : s.slots[k] = KeySlot.reset := by
  rw [← hs]
  exact Vector.getElem_replicate _

theorem wraps_of_powerOn (w : WrapId) : s.wraps[w] = .empty := by
  rw [← hs]
  exact Vector.getElem_replicate _

theorem bands_of_powerOn (i : BandId) : s.bands[i] = none := by
  rw [← hs]
  exact Vector.getElem_replicate _

theorem settle_of_powerOn : s.settle = s :=
  settle_of_noHeads s (by rw [← hs]; rfl) (by rw [← hs]; rfl)

/-- What a command does while PORST is asserted: a line moves, or PORST is released. -/
theorem exec_of_porst (hline : s.porstLine = true) {c : Instr} {t : State} (he : exec c s = .next t) : t.porstLine = true → t.powerOn = t := by
  have hself : ∀ k : SlotId, ∀ v : KeySlot, v = s.slots[k] → s.setSlot k v = s := by
    rintro k _ rfl
    simp [State.setSlot]
  have hwrap : ∀ w : WrapId, ∀ v : WrapSlot, v = s.wraps[w] → s.setWrap w v = s := by
    rintro w _ rfl
    simp [State.setWrap]
  cases c <;> cases he
  case data => rw [presentAndSettle_of_porst hline]; exact fun _ => hs
  case abort => rw [presentAndSettle_of_porst hline]; exact fun _ => hs
  case keyPurge => rw [presentAndSettle_of_porst hline]; exact fun _ => hs
  case purgeAll => rw [presentAndSettle_of_porst hline]; exact fun _ => hs
  case bandSet => rw [presentAndSettle_of_porst hline]; exact fun _ => hs
  case migrateStart => rw [presentAndSettle_of_porst hline]; exact fun _ => hs
  case tripForce => rw [presentAndSettle_of_porst hline]; exact fun _ => hs
  case unwrapComplete k =>
    rw [show s.completeLoad k = s by simp only [State.completeLoad, slots_of_powerOn hs, KeySlot.reset],
      settle_of_powerOn hs]
    exact fun _ => hs
  case purgeDrain k =>
    rw [show s.drainSlot k = s by
      simp [State.drainSlot, slots_of_powerOn hs k, KeySlot.reset, KeySlot.isPurging]]
    exact fun _ => hs
  case purgeExpiry k =>
    rw [show s.expireSlot k = s by
      simp only [State.expireSlot, State.expiryDue, slots_of_powerOn hs, KeySlot.reset, Bool.false_eq_true, if_false],
      settle_of_powerOn hs]
    exact fun _ => hs
  case pendingChangeApply i =>
    rw [show s.applyPending i = s by simp only [State.applyPending, bands_of_powerOn hs], settle_of_powerOn hs]
    exact fun _ => hs
  case bitDamage location =>
    cases location with
    | key k i bit =>
      rw [State.damage, hself k _ (by rw [slots_of_powerOn hs]; rfl)]
      exact fun _ => hs
    | wrap w i bit =>
      rw [State.damage, hwrap w _ (by rw [wraps_of_powerOn hs]; rfl)]
      exact fun _ => hs
  case sendStart lane =>
    rw [show s.startSending lane = s by cases lane <;> simp [State.startSending, State.sendStopped, hline]]
    exact fun _ => hs
  case frameSent lane =>
    have hf : s.frontSending = none := by rw [← hs]; rfl
    have hb : s.backSending = false := by rw [← hs]; rfl
    rw [show s.completeSending lane = s by cases lane <;> simp [State.completeSending, hf, hb]]
    exact fun _ => hs
  case outboundHold lane level =>
    intro _
    rw [← hs]
    cases lane <;> rfl
  case plockAssert =>
    intro _
    rw [show s.assertPlock = { s with plockLine := true } from ?_]
    · rw [settle_of_noHeads { s with plockLine := true } (show s.frontHead = none by rw [← hs]; rfl) (show s.backHead = none by rw [← hs]; rfl),
        ← hs]
      rfl
    · unfold State.assertPlock
      rw [if_pos hline]
      split
      · rename_i hp
        rw [← hp]
      · rfl
  case plockDeassert =>
    intro _
    rw [← hs]
    rfl
  case pfailAssert =>
    intro _
    rw [show s.assertPfail = { s with pfailLine := true } from ?_, ← hs]
    · rfl
    · unfold State.assertPfail
      rw [if_pos hline]
      split
      · rename_i hp
        rw [← hp]
      · rfl
  case pfailDeassert =>
    intro _
    rw [← hs]
    rfl
  case linkrstAssert =>
    intro _
    rw [show s.assertLinkrst = { s with linkrstLine := true } from ?_, ← hs]
    · rfl
    · unfold State.assertLinkrst
      rw [if_pos hline]
      split
      · rename_i hp
        rw [← hp]
      · rfl
  case linkrstRelease =>
    intro _
    rw [← hs]
    rfl
  case porstAssert =>
    rw [State.assertPorst, if_pos hline]
    exact fun _ => hs
  case porstRelease =>
    rw [State.releasePorst, if_pos hline]
    dsimp only
    split
    · intro h
      rw [porstLine_of_board (latch_board _ .plock)] at h
      cases h
    · exact nofun
  case microsecondPasses =>
    rw [State.microsecond, if_pos hline]
    exact fun _ => hs
  all_goals rw [present_of_porst hline]; exact fun _ => hs

end Powered

/-- Settles O56. -/
theorem linesLifeAndPowerAreKept : Obligations.LinesLifeAndPowerAreKept := by
  refine ⟨fun c s t he => ⟨fun hs => linesOk_served.exec c s t hs he, fun hs => prepareOk_served.exec c s t hs he⟩,
    fun c s t hs he => ?_⟩
  by_cases hline : s.porstLine = true
  · exact exec_of_porst (hs hline) hline he
  · by_cases hc : c = .porstAssert
    · subst hc
      cases he
      rw [State.assertPorst, if_neg hline]
      exact fun _ => rfl
    · intro ht
      rw [exec_porstLine he hc (Bool.eq_false_iff.2 hline)] at ht
      cases ht

end Sys2Proof.Machine

/-! PROOFS. The layout of the band table (R51 to R53, R60 to R62): it is a fact about the bands' extents, present and
staged, and every change of one entry that keeps its claims, or makes claims the checks of BAND-SET let pass, keeps it. -/

namespace Sys2Proof.Machine

/-! ### Extents, present and staged -/

/-- What the layout reads of an ACTIVE band: its extent, and the extent of its staged BAND-SET, `some none` where that
makes it UNUSED. -/
structure Shape where
  extent : Extent
  staged : Option (Option Extent)

def Band.shape (b : Band) : Shape := ⟨b.fields.extent, b.stagedSet.map (·.map (·.extent))⟩

/-- The LBAs of a namespace that an extent locks. -/
def Extent.lockingIn (x : Extent) (ns : Ns) : Option (Nat × Nat) :=
  match x with
  | .locking n first last => if n = ns then some (first, last) else none
  | .base _ _ _ => none

/-- The LBAs of a namespace that a band locks, or by its staged change would lock. -/
def Shape.claims (x : Shape) (ns : Ns) (e : Nat × Nat) : Prop :=
  x.extent.lockingIn ns = some e ∨ ∃ y, x.staged = some (some y) ∧ y.lockingIn ns = some e

/-- A base band that stays ACTIVE and holds LBAs inside its size, present and staged. -/
def Shape.encloses (x : Shape) (e : Nat × Nat) : Prop :=
  e.2 < x.extent.endLba ∧ x.staged ≠ some none ∧ ∀ y, x.staged = some (some y) → e.2 < y.endLba

/-- Two ranges without a common LBA. -/
def apart (e e' : Nat × Nat) : Prop := e.2 < e'.1 ∨ e'.2 < e.1

/-- `LayoutOk` as a fact about shapes. -/
structure LayoutOf (shapes : BandId → Option Shape) : Prop where
  kind : ∀ i x, shapes i = some x → x.extent.isBaseExtent = isBase i ∧
    ∀ y, x.staged = some (some y) → y.isBaseExtent = isBase i
  inside : ∀ i x ns e, shapes i = some x → x.claims ns e →
    e.1 ≤ e.2 ∧ ∃ y, shapes (baseBand ns) = some y ∧ y.encloses e
  disjoint : ∀ i j x y ns e e', i ≠ j → shapes i = some x → shapes j = some y → x.claims ns e → y.claims ns e' →
    apart e e'

def State.shapes (s : State) (i : BandId) : Option Shape := (s.bands[i]).map Band.shape

theorem shapes_eq_some {s : State} {i : BandId} {x : Shape} :
    s.shapes i = some x ↔ ∃ b, s.bands[i] = some b ∧ b.shape = x := Option.map_eq_some_iff

theorem shapes_of_some {s : State} {i : BandId} {b : Band} (h : s.bands[i] = some b) : s.shapes i = some b.shape :=
  shapes_eq_some.2 ⟨b, h, rfl⟩

theorem shapes_of_none {s : State} {i : BandId} (h : s.bands[i] = none) : s.shapes i = none := by
  rw [State.shapes, h]
  rfl

theorem staged_eq_some {b : Band} {y : Extent} :
    b.shape.staged = some (some y) ↔ ∃ f, b.stagedSet = some (some f) ∧ f.extent = y := by
  unfold Band.shape
  rcases b.stagedSet with _ | _ | f <;> simp

theorem staged_eq_none {b : Band} : b.shape.staged = some none ↔ b.stagedSet = some none := by
  unfold Band.shape
  rcases b.stagedSet with _ | _ | f <;> simp

theorem presentLocking_eq (b : Band) (ns : Ns) : b.presentLocking ns = b.fields.extent.lockingIn ns := by
  unfold Band.presentLocking Extent.lockingIn
  cases b.fields.extent <;> rfl

theorem stagedLocking_eq_some {b : Band} {ns : Ns} {e : Nat × Nat} :
    b.stagedLocking ns = some e ↔ ∃ f, b.stagedSet = some (some f) ∧ f.extent.lockingIn ns = some e := by
  unfold Band.stagedLocking
  rcases b.stagedSet with _ | _ | f
  · simp
  · simp
  · simp only [Option.some.injEq, exists_eq_left']
    unfold Extent.lockingIn
    cases f.extent <;> rfl

theorem claims_iff {b : Band} {ns : Ns} {e : Nat × Nat} : b.claims ns e ↔ b.shape.claims ns e := by
  unfold Band.claims Shape.claims
  rw [presentLocking_eq, stagedLocking_eq_some]
  refine or_congr Iff.rfl ⟨?_, ?_⟩
  · rintro ⟨f, hf, he⟩
    exact ⟨f.extent, staged_eq_some.2 ⟨f, hf, rfl⟩, he⟩
  · rintro ⟨y, hy, he⟩
    obtain ⟨f, hf, rfl⟩ := staged_eq_some.1 hy
    exact ⟨f, hf, he⟩

theorem encloses_iff {b : Band} {e : Nat × Nat} : b.shape.encloses e ↔
    e.2 < b.fields.extent.endLba ∧ b.stagedSet ≠ some none ∧ ∀ f, b.stagedSet = some (some f) → e.2 < f.extent.endLba := by
  unfold Shape.encloses
  rw [ne_eq, ne_eq, staged_eq_none]
  refine and_congr Iff.rfl (and_congr Iff.rfl ⟨fun h f hf => h _ (staged_eq_some.2 ⟨f, hf, rfl⟩), fun h y hy => ?_⟩)
  obtain ⟨f, hf, rfl⟩ := staged_eq_some.1 hy
  exact h f hf

theorem layoutOk_iff (s : State) : s.LayoutOk ↔ LayoutOf s.shapes := by
  constructor
  · rintro ⟨hkind, hin, hdis⟩
    refine ⟨fun i x hx => ?_, fun i x ns e hx he => ?_, fun i j x y ns e e' hij hx hy he he' => ?_⟩
    · obtain ⟨b, hb, rfl⟩ := shapes_eq_some.1 hx
      refine ⟨(hkind i b hb).1, fun y hy => ?_⟩
      obtain ⟨f, hf, rfl⟩ := staged_eq_some.1 hy
      exact (hkind i b hb).2 f hf
    · obtain ⟨b, hb, rfl⟩ := shapes_eq_some.1 hx
      obtain ⟨hle, base, hbase, hend, hn, hf⟩ := hin i b ns e hb (claims_iff.2 he)
      exact ⟨hle, _, shapes_of_some hbase, encloses_iff.2 ⟨hend, hn, hf⟩⟩
    · obtain ⟨b, hb, rfl⟩ := shapes_eq_some.1 hx
      obtain ⟨b', hb', rfl⟩ := shapes_eq_some.1 hy
      exact hdis i j b b' ns e e' hij hb hb' (claims_iff.2 he) (claims_iff.2 he')
  · rintro ⟨hkind, hin, hdis⟩
    refine ⟨fun i b hb => ?_, fun i b ns e hb he => ?_, fun i j b b' ns e e' hij hb hb' he he' => ?_⟩
    · obtain ⟨h1, h2⟩ := hkind i _ (shapes_of_some hb)
      exact ⟨h1, fun f hf => h2 _ (staged_eq_some.2 ⟨f, hf, rfl⟩)⟩
    · obtain ⟨hle, y, hy, hx⟩ := hin i _ ns e (shapes_of_some hb) (claims_iff.1 he)
      obtain ⟨base, hbase, rfl⟩ := shapes_eq_some.1 hy
      exact ⟨hle, base, hbase, encloses_iff.1 hx⟩
    · exact hdis i j _ _ ns e e' hij (shapes_of_some hb) (shapes_of_some hb') (claims_iff.1 he) (claims_iff.1 he')

/-! ### One entry changes -/

theorem isBase_baseBand (ns : Ns) : isBase (baseBand ns) = true := decide_eq_true ns.isLt

/-- A base band locks no LBA. -/
theorem lockingIn_of_base {x : Extent} (h : x.isBaseExtent = true) (ns : Ns) : x.lockingIn ns = none := by
  cases x with
  | base => rfl
  | locking => cases h

theorem LayoutOf.not_claims {shapes : BandId → Option Shape} (h : LayoutOf shapes) {i : BandId} {x : Shape}
    (hx : shapes i = some x) (hi : isBase i = true) (ns : Ns) (e : Nat × Nat) : ¬x.claims ns e := by
  obtain ⟨hk, hs⟩ := h.kind i x hx
  rintro (he | ⟨y, hy, he⟩)
  · rw [lockingIn_of_base (hk.trans hi)] at he
    cases he
  · rw [lockingIn_of_base ((hs y hy).trans hi)] at he
    cases he

/-- What a new entry of the band table may claim: nothing it did not claim before, but for LBAs inside their namespace
and apart from every other band's. -/
def MayClaim (shapes : BandId → Option Shape) (i : BandId) (ns : Ns) (e : Nat × Nat) : Prop :=
  (∃ x, shapes i = some x ∧ x.claims ns e) ∨
    (e.1 ≤ e.2 ∧ (∃ y, shapes (baseBand ns) = some y ∧ y.encloses e) ∧
      ∀ j y e', j ≠ i → shapes j = some y → y.claims ns e' → apart e e')

theorem apart_symm {e e' : Nat × Nat} (h : apart e e') : apart e' e := Or.symm h

/-- A new entry keeps the layout where it is of its index's kind, claims what it may, and, for a base band, still
encloses what the other bands claim in its namespace. -/
theorem LayoutOf.update {shapes : BandId → Option Shape} (h : LayoutOf shapes) {i : BandId} {x : Option Shape}
    (hkind : ∀ y, x = some y → y.extent.isBaseExtent = isBase i ∧
      ∀ z, y.staged = some (some z) → z.isBaseExtent = isBase i)
    (hclaim : ∀ y ns e, x = some y → y.claims ns e → MayClaim shapes i ns e)
    (hbase : ∀ ns, i = baseBand ns → ∀ j y e, j ≠ i → shapes j = some y → y.claims ns e →
      ∃ z, x = some z ∧ z.encloses e) :
    LayoutOf (Function.update shapes i x) := by
  have hself : Function.update shapes i x i = x := Function.update_self i x shapes
  have hother : ∀ j, j ≠ i → Function.update shapes i x j = shapes j := fun j hj => Function.update_of_ne hj x shapes
  have hnobase : ∀ y ns e, x = some y → y.claims ns e → isBase i = false := by
    intro y ns e hy he
    obtain ⟨hk, hs⟩ := hkind y hy
    by_contra hb
    rw [Bool.not_eq_false] at hb
    obtain he | ⟨z, hz, he⟩ := he
    · rw [lockingIn_of_base (hk.trans hb)] at he
      cases he
    · rw [lockingIn_of_base ((hs z hz).trans hb)] at he
      cases he
  have hbaseNe : ∀ y ns e, x = some y → y.claims ns e → baseBand ns ≠ i := by
    rintro y ns e hy he rfl
    have := hnobase y ns e hy he
    rw [isBase_baseBand] at this
    cases this
  have hapart : ∀ y ns e j z e', x = some y → y.claims ns e → j ≠ i → shapes j = some z → z.claims ns e' → apart e e' := by
    intro y ns e j z e' hy he hj hz he'
    obtain ⟨x0, hx0, hc0⟩ | ⟨_, _, hd⟩ := hclaim y ns e hy he
    · exact h.disjoint i j x0 z ns e e' hj.symm hx0 hz hc0 he'
    · exact hd j z e' hj hz he'
  refine ⟨fun j y hy => ?_, fun j y ns e hy he => ?_, fun j k y z ns e e' hjk hy hz he he' => ?_⟩
  · by_cases hj : j = i
    · subst hj
      exact hkind y (hself ▸ hy)
    · exact h.kind j y (hother j hj ▸ hy)
  · by_cases hj : j = i
    · subst hj
      have hy := hself ▸ hy
      rw [hother _ (hbaseNe y ns e hy he)]
      obtain ⟨x0, hx0, hc0⟩ | ⟨hle, hin, _⟩ := hclaim y ns e hy he
      · exact h.inside j x0 ns e hx0 hc0
      · exact ⟨hle, hin⟩
    · have hy := hother j hj ▸ hy
      obtain ⟨hle, hin⟩ := h.inside j y ns e hy he
      refine ⟨hle, ?_⟩
      by_cases hb : baseBand ns = i
      · rw [hb, hself]
        exact hbase ns hb.symm j y e hj hy he
      · rw [hother _ hb]
        exact hin
  · by_cases hj : j = i
    · subst hj
      exact hapart y ns e k z e' (hself ▸ hy) he hjk.symm (hother k hjk.symm ▸ hz) he'
    · by_cases hk : k = i
      · subst hk
        exact apart_symm (hapart z ns e' j y e (hself ▸ hz) he' hj (hother j hj ▸ hy) he)
      · exact h.disjoint j k y z ns e e' hjk (hother j hj ▸ hy) (hother k hk ▸ hz) he he'

/-- A staged BAND-SET that is gone keeps the layout (R66). -/
theorem LayoutOf.unstage {shapes : BandId → Option Shape} (h : LayoutOf shapes) {i : BandId} {x : Shape}
    (hx : shapes i = some x) : LayoutOf (Function.update shapes i (some { x with staged := none })) := by
  refine h.update ?_ ?_ ?_
  · rintro _ ⟨⟩
    exact ⟨(h.kind i x hx).1, nofun⟩
  · rintro _ ns e ⟨⟩ (he | ⟨_, hy, _⟩)
    · exact .inl ⟨x, hx, .inl he⟩
    · cases hy
  · rintro ns rfl j y e _ hy he
    obtain ⟨_, z, hz, hend, _⟩ := h.inside j y ns e hy he
    cases hx.symm.trans hz
    exact ⟨_, rfl, hend, nofun, nofun⟩

/-- A staged BAND-SET that takes the place of its band keeps the layout (R65). -/
theorem LayoutOf.apply {shapes : BandId → Option Shape} (h : LayoutOf shapes) {i : BandId} {x : Shape}
    {new : Option Extent} (hx : shapes i = some x) (hs : x.staged = some new) :
    LayoutOf (Function.update shapes i (new.map fun y => ⟨y, none⟩)) := by
  refine h.update ?_ ?_ ?_
  · intro y hy
    obtain ⟨z, rfl, rfl⟩ := Option.map_eq_some_iff.1 hy
    exact ⟨(h.kind i x hx).2 z hs, nofun⟩
  · intro y ns e hy he
    obtain ⟨z, rfl, rfl⟩ := Option.map_eq_some_iff.1 hy
    obtain he | ⟨_, hy, _⟩ := he
    · exact .inl ⟨x, hx, .inr ⟨z, hs, he⟩⟩
    · cases hy
  · rintro ns rfl j y e _ hy he
    obtain ⟨_, z, hz, _, hn, hf⟩ := h.inside j y ns e hy he
    cases hx.symm.trans hz
    cases new with
    | none => exact absurd hs hn
    | some w => exact ⟨_, rfl, hf w hs, nofun, nofun⟩

/-! ### What the band unit's work does to shapes -/

theorem setBand_shapes (s : State) (i : BandId) (b : Option Band) :
    (s.setBand i b).shapes = Function.update s.shapes i (b.map Band.shape) := by
  funext j
  by_cases hj : j = i
  · subst hj
    rw [Function.update_self, State.shapes, setBand_get_self]
  · rw [Function.update_of_ne hj, State.shapes, setBand_get_ne s _ (Ne.symm hj)]
    rfl

theorem setBand_shapes_of_eq {s : State} {i : BandId} {b : Option Band} (h : b.map Band.shape = s.shapes i) :
    (s.setBand i b).shapes = s.shapes := by
  rw [setBand_shapes, h, Function.update_eq_self]

theorem shapes_of_bands {s t : State} (h : t.bands = s.bands) : t.shapes = s.shapes := by
  funext i
  rw [State.shapes, h]
  rfl

theorem moveWatermark_shapes (s : State) (i : BandId) (w : Nat) (announce : Bool) :
    (s.moveWatermark i w announce).shapes = s.shapes := by
  unfold State.moveWatermark
  split
  · rfl
  · rename_i b hb
    split
    · rfl
    · have h1 : ∀ d, (if announce then s.report d else s).bands = s.bands := by
        intro d
        split
        · exact report_bands s d
        · rfl
      have hset : ∀ d b', b'.shape = b.shape →
          ((if announce then s.report d else s).setBand i (some b')).shapes = s.shapes := fun d b' hb' =>
        (setBand_shapes_of_eq (by rw [shapes_of_bands (h1 d), shapes_of_some hb, Option.map_some, hb'])).trans
          (shapes_of_bands (h1 d))
      dsimp only
      split
      · exact (shapes_of_bands (report_bands _ _)).trans (hset _ _ rfl)
      · exact hset _ _ rfl

theorem replaceWatermark_shapes (s : State) (ns : Ns) : (s.replaceWatermark ns).shapes = s.shapes := by
  unfold State.replaceWatermark
  split
  · rfl
  · dsimp only
    split
    · rfl
    · exact moveWatermark_shapes _ _ _ _

@[simp] theorem gatedFields_extent (s : State) (old : Option Band) (f : BandFields) :
    (s.gatedFields old f).extent = f.extent := by
  unfold State.gatedFields
  split
  · rfl
  · split <;> rfl

theorem applyBandSet_shapes (s : State) (i : BandId) (new : Option BandFields) :
    (s.applyBandSet i new).shapes = Function.update s.shapes i (new.map fun f => ⟨f.extent, none⟩) := by
  cases new with
  | none => exact setBand_shapes s i none
  | some f =>
    have hset : ∀ n, (s.setBand i (some ⟨s.gatedFields s.bands[i] f, n, none, none, none⟩)).shapes =
        Function.update s.shapes i (some ⟨f.extent, none⟩) := by
      intro n
      rw [setBand_shapes, Option.map_some, Band.shape, gatedFields_extent]
      rfl
    unfold State.applyBandSet
    dsimp only
    split
    · exact (replaceWatermark_shapes _ _).trans (hset _)
    · exact hset _

theorem applyMigrateStart_shapes {s : State} {i : BandId} {b : Band} (hb : s.bands[i] = some b) (target : SlotId)
    (generation : BitVec 16) : (s.applyMigrateStart i target generation).shapes =
      Function.update s.shapes i (some { b.shape with staged := none }) := by
  unfold State.applyMigrateStart
  rw [hb]
  dsimp only
  rw [moveWatermark_shapes, setBand_shapes]
  rfl

theorem State.LayoutOk.of_shapes {s t : State} (hs : s.LayoutOk) (h : t.shapes = s.shapes) : t.LayoutOk := by
  rw [layoutOk_iff] at hs ⊢
  rw [h]
  exact hs

theorem State.LayoutOk.of_bands {s t : State} (hs : s.LayoutOk) (h : t.bands = s.bands) : t.LayoutOk :=
  hs.of_shapes (shapes_of_bands h)

theorem stagedSet_of_bandSet {b : Band} {p : Pending} {new : Option BandFields} (hp : b.pending = some p)
    (hc : p.change = .bandSet new) : b.stagedSet = some new := by
  obtain ⟨change, owed⟩ := p
  cases hc
  rw [Band.stagedSet, hp]

theorem stagedSet_of_none {b : Band} (hp : b.pending = none) : b.stagedSet = none := by
  rw [Band.stagedSet, hp]

theorem stagedSet_of_migrateStart {b : Band} {target : SlotId} {generation : BitVec 16} {owed : Option Byte}
    (hp : b.pending = some ⟨.migrateStart target generation, owed⟩) : b.stagedSet = none := by
  rw [Band.stagedSet, hp]

theorem State.LayoutOk.applyPending {s : State} (hs : s.LayoutOk) (i : BandId) : (s.applyPending i).LayoutOk := by
  unfold State.applyPending
  split
  · exact hs
  · rename_i b hb
    split
    · exact hs
    · rename_i p hp
      split
      · rw [layoutOk_iff] at hs
        split
        · rename_i new hc
          rw [layoutOk_iff, shapes_of_bands (payReply_bands _ _ _ _ _), applyBandSet_shapes]
          have h := hs.apply (new := new.map (·.extent)) (shapes_of_some hb)
            (by rw [Band.shape, stagedSet_of_bandSet hp hc]; rfl)
          rwa [Option.map_map] at h
        · rw [layoutOk_iff, shapes_of_bands (payReply_bands _ _ _ _ _), applyMigrateStart_shapes hb]
          exact hs.unstage (shapes_of_some hb)
      · exact hs

theorem State.LayoutOk.dropPending {s : State} (hs : s.LayoutOk) (i : BandId) : (s.dropPending i).LayoutOk := by
  cases hb : s.bands[i] with
  | none =>
    rw [show s.dropPending i = s by simp only [State.dropPending, hb]]
    exact hs
  | some b =>
    rw [layoutOk_iff] at hs ⊢
    have h : (s.dropPending i).shapes = Function.update s.shapes i (some { b.shape with staged := none }) := by
      funext j
      rw [State.shapes, dropPending_bands_get]
      by_cases hj : i = j
      · subst hj
        rw [if_pos rfl, hb, Function.update_self]
        rfl
      · rw [if_neg hj, Function.update_of_ne (Ne.symm hj)]
        rfl
    rw [h]
    exact hs.unstage (shapes_of_some hb)

theorem unbound_shape (b : Band) (k : SlotId) : (b.unbound k).shape = b.shape := by
  unfold Band.unbound
  dsimp only
  split <;> split <;> rfl

theorem State.LayoutOk.mapShapes {s t : State} (hs : s.LayoutOk)
    (h : ∀ i : BandId, ∃ f : Band → Band, t.bands[i] = (s.bands[i]).map f ∧ ∀ b, (f b).shape = b.shape) : t.LayoutOk := by
  refine hs.of_shapes ?_
  funext i
  obtain ⟨f, ht, hf⟩ := h i
  rw [State.shapes, ht, Option.map_map, State.shapes]
  congr 1
  exact funext hf

theorem State.LayoutOk.endAs {s : State} (hs : s.LayoutOk) (kind : EndKind) (id : CtxId) (status : TransferStatus) :
    (s.endAs kind id status).LayoutOk := by
  cases hc : s.contexts[id] with
  | none =>
    rw [endAs_of_free hc]
    exact hs
  | some c =>
    refine hs.mapShapes fun i => ⟨_, endAs_bands_get hc kind status i, fun b => ?_⟩
    split <;> rfl

theorem locked_shape (b : Band) : b.locked.shape = b.shape := by
  unfold Band.shape Band.locked Band.stagedSet
  cases b.pending with
  | none => rfl
  | some p =>
    obtain ⟨change, owed⟩ := p
    rcases change with (_ | f) | _ <;> rfl

theorem withLocks_shape (b : Band) (gated read write : Bool) : (b.withLocks gated read write).shape = b.shape := by
  unfold Band.shape Band.withLocks Band.stagedSet
  cases b.pending with
  | none => rfl
  | some p =>
    obtain ⟨change, owed⟩ := p
    rcases change with (_ | f) | _ <;> rfl

theorem State.LayoutOk.startPurge {s : State} (hs : s.LayoutOk) (k : SlotId) (m : Material) (account : Account) :
    (s.startPurge k m account).LayoutOk := by
  have hdrop : ((s.setSlot k { s.slots[k] with state := .purging m account }).dropNaming k).LayoutOk :=
    inOrder_induct (P := State.LayoutOk) _ _ _ (fun i _ t ht => by
      split
      · exact ht
      · split
        · exact ht.dropPending i
        · exact ht) hs
  exact hdrop.mapShapes fun i => ⟨_, unbind_get _ k i, fun b => unbound_shape b k⟩

theorem layoutOk_kept : Kept State.LayoutOk where
  choices _ _ hs := hs
  report s d hs := hs.of_bands (report_bands s d)
  discards _ _ hs := hs
  latched _ _ hs := hs
  setWrap _ _ _ hs := hs
  endAs _ kind id status hs := hs.endAs kind id status
  applyPending _ i hs := hs.applyPending i
  dropPending _ i hs := hs.dropPending i
  abandonLoad s k hs := hs.of_bands (abandonLoad_bands s k)
  endPurge s k _ hs := hs.of_bands (endPurge_bands s k)
  lockBand s i hs := hs.of_shapes (setBand_shapes_of_eq (by
    rw [Option.map_map, State.shapes]
    congr 1
    exact funext locked_shape))
  startPurge _ k m account _ _ hs := hs.startPurge k m account
  zeroGrace _ _ _ _ _ hs := hs
  poisonAndCut _ _ hs := inAnyOrder_induct (P := State.LayoutOk) _ _ _ (fun _ _ ht => ht)
    (fun id _ _ ht => ht.endAs _ id _) hs

/-! ### The checks of BAND-SET -/

/-- No other entry claims LBAs with the property (R61, R62). -/
theorem claims_of_anyLocking {s : State} {ns : Ns} {except : Option BandId} {p : Nat × Nat → Bool}
    (h : s.anyLocking ns except p = false) {j : BandId} {y : Shape} {e : Nat × Nat} (hj : except ≠ some j)
    (hy : s.shapes j = some y) (he : y.claims ns e) : p e = false := by
  obtain ⟨b, hb, rfl⟩ := shapes_eq_some.1 hy
  have hall := List.any_eq_false.1 h j (List.mem_finRange j)
  have hexc : (except != some j) = true := bne_iff_ne.2 hj
  simp only [hexc, hb, Bool.true_and, Bool.or_eq_true, not_or, Bool.not_eq_true] at hall
  obtain ⟨hp, hs⟩ := hall
  obtain he | he := claims_iff.2 he
  · rw [he] at hp
    exact hp
  · rw [he] at hs
    exact hs

/-- The kind of extent a BAND-SET carries is its band's (R59). -/
theorem isBaseExtent_of_bandSetOf {f : BandSetFields} {i : BandId} {g : BandFields}
    (h : bandSetOf f = some (i, some g)) : g.extent.isBaseExtent = isBase i := by
  unfold bandSetOf at h
  split at h
  · cases h
  · rename_i band _
    split at h
    · cases h
    · obtain ⟨fields, hf, heq⟩ := Option.map_eq_some_iff.1 h
      cases heq
      unfold bandFieldsOf at hf
      split at hf
      · rename_i extent _ _ _ _ _ _ hext _ _ _ _ _ _
        cases hf
        unfold extentOf at hext
        split at hext
        · rename_i hbase
          split at hext
          · split at hext
            · cases hext
            · cases hext
              exact hbase.symm
          · cases hext
        · rename_i hbase
          split at hext
          · split at hext
            · cases hext
            · cases hext
              exact (Bool.eq_false_iff.2 hbase).symm
          · cases hext
      · cases hf
    · cases h

section Checks

variable {s : State} {i : BandId} {new : Option BandFields} (hr : s.bandSetRefusal i new = none)
include hr

/-- A locking extent that the checks let pass may be claimed (R60, R61). -/
theorem mayClaim_of_bandSetRefusal {g : BandFields} {ns : Ns} {e : Nat × Nat} (hg : new = some g)
    (he : g.extent.lockingIn ns = some e) : MayClaim s.shapes i ns e := by
  subst hg
  obtain ⟨first, last, hext, rfl⟩ : ∃ first last, g.extent = .locking ns first last ∧ e = (first, last) := by
    unfold Extent.lockingIn at he
    split at he
    · rename_i n first last hext
      split at he
      · rename_i hn
        cases he
        exact ⟨first, last, hn ▸ hext, rfl⟩
      · cases he
    · cases he
  have hall := firstFailing_eq_none hr
  simp only [hext, List.forall_mem_cons, Option.any_some] at hall
  obtain ⟨_, _, hmissing, hfits, _, hover, _⟩ := hall
  right
  rw [Bool.not_eq_false'] at hfits
  unfold State.extentFits at hfits
  unfold State.baseMissing at hmissing
  cases hb : s.bands[baseBand ns] with
  | none => simp only [hb, Bool.false_eq_true] at hfits
  | some b =>
    simp only [hb, Bool.and_eq_true, decide_eq_true_eq] at hfits
    simp only [hb, beq_eq_false_iff_ne, ne_eq] at hmissing
    obtain ⟨⟨hle, hend⟩, hstaged⟩ := hfits
    refine ⟨hle, ⟨_, shapes_of_some hb, encloses_iff.2 ⟨hend, hmissing, fun f hf => ?_⟩⟩, fun j y e' hj hy he' => ?_⟩
    · simp only [hf, decide_eq_true_eq] at hstaged
      exact hstaged
    · have := of_decide_eq_false (claims_of_anyLocking hover (fun h => hj (Option.some.inj h).symm) hy he')
      unfold apart
      dsimp only
      omega

/-- A base band's new size encloses every claim of its namespace (R62). -/
theorem encloses_of_bandSetRefusal {ns : Ns} (hi : i = baseBand ns) {j : BandId} {y : Shape} {e : Nat × Nat}
    (hy : s.shapes j = some y) (he : y.claims ns e) : ∃ g, new = some g ∧ e.2 < g.extent.endLba := by
  subst hi
  have hstrand : s.strands (baseBand ns) new = false := firstFailing_eq_none hr _
    (List.mem_cons_of_mem _ (List.mem_cons_of_mem _ (List.mem_cons_of_mem _ (List.mem_cons_of_mem _ List.mem_cons_self))))
  unfold State.strands at hstrand
  rw [dif_pos (show (baseBand ns).val < 8 from ns.isLt)] at hstrand
  cases new with
  | none => exact absurd (claims_of_anyLocking hstrand nofun hy he) (by simp)
  | some g =>
    have := of_decide_eq_false (claims_of_anyLocking hstrand nofun hy he)
    exact ⟨g, rfl, by omega⟩

end Checks

/-- An accepted BAND-SET that applies at once (R60 to R63). -/
theorem State.LayoutOk.applyBandSet {s : State} (hs : s.LayoutOk) {f : BandSetFields} {i : BandId}
    {new : Option BandFields} (hf : bandSetOf f = some (i, new)) (hr : s.bandSetRefusal i new = none) :
    (s.applyBandSet i new).LayoutOk := by
  rw [layoutOk_iff] at hs ⊢
  rw [applyBandSet_shapes]
  refine hs.update (fun y hy => ?_) (fun y ns e hy he => ?_) fun ns hi j y e _ hy he => ?_
  · obtain ⟨g, rfl, rfl⟩ := Option.map_eq_some_iff.1 hy
    exact ⟨isBaseExtent_of_bandSetOf hf, nofun⟩
  · obtain ⟨g, rfl, rfl⟩ := Option.map_eq_some_iff.1 hy
    obtain he | ⟨_, hst, _⟩ := he
    · exact mayClaim_of_bandSetRefusal hr rfl he
    · cases hst
  · obtain ⟨g, rfl, hlt⟩ := encloses_of_bandSetRefusal hr hi hy he
    exact ⟨_, rfl, hlt, nofun, nofun⟩

theorem band_of_bandOpen {s : State} {i : BandId} (h : s.bandOpen i = true) : ∃ b, s.bands[i] = some b := by
  unfold State.bandOpen at h
  cases hb : s.bands[i] with
  | none => simp only [hb, Bool.false_eq_true] at h
  | some b => exact ⟨b, rfl⟩

/-- An accepted BAND-SET that is staged (R60 to R63). -/
theorem State.LayoutOk.stageSet {s : State} (hs : s.LayoutOk) {f : BandSetFields} {i : BandId}
    {new : Option BandFields} {b : Band} (tag : Byte) (hf : bandSetOf f = some (i, new))
    (hr : s.bandSetRefusal i new = none) (hb : s.bands[i] = some b) : (s.stage i (.bandSet new) tag).LayoutOk := by
  rw [layoutOk_iff] at hs ⊢
  rw [State.stage, hb, setBand_shapes]
  have hpresent := shapes_of_some hb
  have hstaged : ∀ y, Option.map Band.shape (Option.map (fun b : Band =>
      { b with pending := some { change := .bandSet new, owed := some tag } }) (some b)) = some y →
      y = ⟨b.fields.extent, some (new.map (·.extent))⟩ := by
    intro y hy
    exact (Option.some.inj hy).symm
  refine hs.update (fun y hy => ?_) (fun y ns e hy he => ?_) fun ns hi j y e _ hy he => ?_
  · cases hstaged y hy
    refine ⟨(hs.kind i _ hpresent).1, fun z hz => ?_⟩
    obtain ⟨g, rfl, rfl⟩ := Option.map_eq_some_iff.1 (Option.some.inj hz)
    exact isBaseExtent_of_bandSetOf hf
  · cases hstaged y hy
    obtain he | ⟨z, hz, he⟩ := he
    · exact .inl ⟨_, hpresent, .inl he⟩
    · obtain ⟨g, rfl, rfl⟩ := Option.map_eq_some_iff.1 (Option.some.inj hz)
      exact mayClaim_of_bandSetRefusal hr rfl he
  · obtain ⟨g, rfl, hlt⟩ := encloses_of_bandSetRefusal hr hi hy he
    obtain ⟨_, z, hz, hend, _⟩ := hs.inside j y ns e hy he
    rw [← hi, hpresent] at hz
    cases hz
    refine ⟨_, rfl, hend, nofun, fun z hz => ?_⟩
    cases hz
    exact hlt

theorem layoutOk_of_unused {s : State} (h : ∀ i : BandId, s.bands[i] = none) : s.LayoutOk :=
  ⟨fun i _ hb => (nomatch (h i).symm.trans hb), fun i _ _ _ hb => (nomatch (h i).symm.trans hb),
    fun i _ _ _ _ _ _ _ hb => (nomatch (h i).symm.trans hb)⟩

theorem dropOwed_shape (b : Band) : b.dropOwed.shape = b.shape := by
  unfold Band.shape Band.dropOwed Band.stagedSet
  cases b.pending with
  | none => rfl
  | some p =>
    obtain ⟨change, owed⟩ := p
    cases change <;> rfl

/-- Extents move with BAND-SETs alone, staged and applied. -/
theorem layoutOk_served : Served State.LayoutOk State.LayoutOk where
  kept := layoutOk_kept
  keptOwing := layoutOk_kept
  setHead _ lane _ hs := by cases lane <;> exact hs
  reserve _ _ hs := hs
  reply _ _ _ _ _ hs := hs
  refuse _ _ _ _ hs := hs
  accept s id _ _ _ _ _ _ _ _ _ hs := hs.mapShapes fun i => ⟨_, acceptContext_bands_get s id _ i, fun b => by
    split <;> rfl⟩
  fragment s id c _ bytes _ _ _ _ hs := by
    obtain ⟨_, _, h⟩ := fragmentTaken_frame s id c bytes
    exact h ▸ hs
  complete s id c _ bytes _ _ _ _ _ hs := by
    obtain ⟨_, _, h⟩ := fragmentTaken_frame s id c bytes
    exact layoutOk_kept.completed (fun t i w ht => ht.of_shapes (moveWatermark_shapes t i w true)) _ _ _ (h ▸ hs)
  startLoad _ _ _ _ _ _ _ hs := hs
  endLoad _ _ l _ hs := by cases l.owed <;> exact hs
  loaded _ _ l _ _ _ hs := by cases l.owed <;> exact hs
  startPurgeOwed _ k m account _ _ _ hs := hs.startPurge k m account
  purgeAll := layoutOk_kept.purgeAll (fun s g k _ hs => hs.of_bands (purgeAllSlot_bands g k s))
    fun _ _ _ _ => layoutOk_of_unused fun _ => Vector.getElem_replicate _
  graceSetting _ _ hs := hs
  damage _ location hs := by cases location <;> exact hs
  stageSet _ _ _ _ tag hf hr ho hs := by
    obtain ⟨b, hb⟩ := band_of_bandOpen ho
    exact hs.stageSet tag hf hr hb
  applySet _ _ _ _ hf hr _ hs := hs.applyBandSet hf hr
  lock s i b gated read write hb hs := hs.of_shapes (setBand_shapes_of_eq (by
    rw [shapes_of_some hb, Option.map_some, withLocks_shape]))
  stageStart s i target generation tag hr ho hs := by
    obtain ⟨b, hb⟩ := band_of_bandOpen ho
    have hp := unstaged_of_migrateStartRefusal hr
    rw [hb] at hp
    have hn : b.stagedSet = none := stagedSet_of_none (by simpa using hp)
    refine hs.of_shapes (setBand_shapes_of_eq ?_)
    rw [hb, shapes_of_some hb, Band.shape, hn]
    rfl
  applyStart s i target generation _ _ hs := by
    cases hb : s.bands[i] with
    | none =>
      rw [show s.applyMigrateStart i target generation = s by simp only [State.applyMigrateStart, hb]]
      exact hs
    | some b =>
      rw [layoutOk_iff] at hs ⊢
      rw [applyMigrateStart_shapes hb]
      exact hs.unstage (shapes_of_some hb)
  tripClear _ _ _ hs := hs
  setPeriod _ _ _ _ hs := hs
  acknowledge s k hs := by
    unfold State.acknowledge
    dsimp only
    repeat' split
    all_goals exact hs
  goOnline _ hs := hs
  timeSet _ _ hs := hs
  startSending s lane hs := by
    obtain ⟨_, _, h⟩ := startSending_frame s lane
    exact h ▸ hs
  freeFront s source _ hs := by
    cases source with
    | notice => exact hs
    | reply => exact hs
    | data =>
      obtain ⟨_, _, h⟩ := popFront_frame { s with frontSending := none }
      rw [State.freeFront, h]
      exact hs
  freeBack s _ hs := by
    obtain ⟨_, _, h⟩ := popBack_frame { s with backSending := false }
    exact h ▸ hs
  setOutHold _ lane _ hs := by cases lane <;> exact hs
  assertPlock := layoutOk_kept.assertPlock fun _ _ _ hs => hs
  deassertPlock _ hs := hs
  assertPfail := layoutOk_kept.assertPfail fun _ _ _ hs => hs
  deassertPfail _ hs := hs
  assertLinkrst := layoutOk_kept.assertLinkrst (fun _ _ hs => hs)
    (fun s hs => hs.mapShapes fun i => ⟨fun b => { b.dropOwed with openCount := 0, writer := none },
      by simp [State.freeContexts, State.resetPorts], fun b => dropOwed_shape b⟩) fun _ hs => hs
  releaseLinkrst _ hs := hs
  assertPorst := assertPorst_induct fun _ => layoutOk_of_unused fun _ => Vector.getElem_replicate _
  releasePorst := layoutOk_kept.releasePorst fun _ _ _ hs => hs
  tick _ hs := hs

/-- Settles O57. -/
theorem layoutIsKept : Obligations.LayoutIsKept :=
  fun c s t hs he => layoutOk_served.exec c s t hs he

end Sys2Proof.Machine

/-! PROOFS. Keys in use (R54, R90, R110): which slots a band uses and which a context holds, what each operation does to
them, and that every command keeps them on slots that hold a key. -/

namespace Sys2Proof.Machine

/-! ### The slots a band uses -/

theorem boundTo_iff {b : Band} {k : SlotId} : b.boundTo k = true ↔ ∃ x, b.fields.binding = some x ∧ x.slot = k := by
  unfold Band.boundTo
  cases b.fields.binding <;> simp

theorem migratesTo_iff {b : Band} {k : SlotId} : b.migratesTo k = true ↔ ∃ r, b.migration = some r ∧ r.target = k := by
  unfold Band.migratesTo
  cases b.migration <;> simp

/-- A band uses the slot it is bound to, the target of its migration, and the slots its staged change names. -/
def Band.uses (b : Band) (k : SlotId) : Prop :=
  b.boundTo k = true ∨ b.migratesTo k = true ∨ b.changeNames k = true

/-- Some band of a state uses a slot. -/
def State.uses (s : State) (k : SlotId) : Prop := ∃ (i : BandId) (b : Band), s.bands[i] = some b ∧ b.uses k

/-- Some open context holds a slot. -/
def State.held (s : State) (k : SlotId) : Prop := ∃ (id : CtxId) (c : Context), s.contexts[id] = some c ∧ c.holds k = true

theorem keysOk_iff (s : State) : s.KeysOk ↔
    (∀ k : SlotId, s.uses k → (s.slots[k]).state.bindable = true) ∧
      ∀ k : SlotId, s.held k → (s.slots[k]).state.lendable = true := by
  constructor
  · rintro ⟨hb, hc⟩
    refine ⟨?_, fun k ⟨id, c, h, hk⟩ => hc id c k h hk⟩
    rintro k ⟨i, b, h, hk | hk | hk⟩
    · obtain ⟨x, hx, rfl⟩ := boundTo_iff.1 hk
      exact (hb i b h).1 x hx
    · obtain ⟨r, hr, rfl⟩ := migratesTo_iff.1 hk
      exact (hb i b h).2.1 r hr
    · exact (hb i b h).2.2 k hk
  · rintro ⟨hb, hc⟩
    refine ⟨fun i b h => ⟨fun x hx => ?_, fun r hr => ?_, fun k hk => ?_⟩, fun id c k h hk => hc k ⟨id, c, h, hk⟩⟩
    · exact hb _ ⟨i, b, h, .inl (boundTo_iff.2 ⟨x, hx, rfl⟩)⟩
    · exact hb _ ⟨i, b, h, .inr (.inl (migratesTo_iff.2 ⟨r, hr, rfl⟩))⟩
    · exact hb _ ⟨i, b, h, .inr (.inr hk)⟩

/-- No new use, no new holder, and every slot still good for what it was good for. -/
theorem State.KeysOk.mono {s t : State} (hs : s.KeysOk) (hu : ∀ k, t.uses k → s.uses k)
    (hh : ∀ k, t.held k → s.held k)
    (hb : ∀ k : SlotId, (s.slots[k]).state.bindable = true → (t.slots[k]).state.bindable = true)
    (hl : ∀ k : SlotId, (s.slots[k]).state.lendable = true → (t.slots[k]).state.lendable = true) : t.KeysOk := by
  rw [keysOk_iff] at hs ⊢
  exact ⟨fun k hk => hb k (hs.1 k (hu k hk)), fun k hk => hl k (hs.2 k (hh k hk))⟩

/-- Where the slots and the records stay, only the uses count. -/
theorem State.KeysOk.of_uses {s t : State} (hs : s.KeysOk) (hc : t.contexts = s.contexts) (hk : t.slots = s.slots)
    (hu : ∀ k, t.uses k → s.uses k) : t.KeysOk :=
  hs.mono hu (fun k ⟨id, c, h, hk⟩ => ⟨id, c, by rwa [hc] at h, hk⟩) (fun k h => by rwa [hk]) (fun k h => by rwa [hk])

/-- A band's new entry uses nothing that it did not use. -/
theorem uses_setBand {s : State} {i : BandId} {b' : Option Band}
    (h : ∀ x k, b' = some x → x.uses k → s.uses k) (k : SlotId) (hk : (s.setBand i b').uses k) : s.uses k := by
  obtain ⟨j, b, hb, hu⟩ := hk
  by_cases hj : i = j
  · subst hj
    rw [setBand_get_self] at hb
    exact h b k hb hu
  · rw [setBand_get_ne s _ hj] at hb
    exact ⟨j, b, hb, hu⟩

theorem uses_of_bands {s t : State} (h : t.bands = s.bands) {k : SlotId} : t.uses k → s.uses k :=
  fun ⟨i, b, hb, hu⟩ => ⟨i, b, by rwa [h] at hb, hu⟩

theorem uses_of_map {s t : State} (h : ∀ i : BandId, ∃ f : Band → Band, t.bands[i] = (s.bands[i]).map f ∧
    ∀ b k, (f b).uses k → b.uses k) (k : SlotId) (hk : t.uses k) : s.uses k := by
  obtain ⟨i, b, hb, hu⟩ := hk
  obtain ⟨f, hf, huses⟩ := h i
  rw [hf] at hb
  obtain ⟨b0, hb0, rfl⟩ := Option.map_eq_some_iff.1 hb
  exact ⟨i, b0, hb0, huses b0 k hu⟩

/-- Bands with the same binding, record and staged change use the same slots. -/
theorem uses_congr {b b' : Band} (hb : b'.fields.binding = b.fields.binding) (hm : b'.migration = b.migration)
    (hp : b'.pending = b.pending) (k : SlotId) : b'.uses k ↔ b.uses k := by
  unfold Band.uses Band.migratesTo Band.changeNames Band.boundTo
  rw [hb, hm, hp]

/-- A change that is no longer staged names no slot. -/
theorem uses_of_unstaged {b b' : Band} (hb : b'.fields.binding = b.fields.binding) (hm : b'.migration = b.migration)
    (hp : b'.pending = none) {k : SlotId} (h : b'.uses k) : b.uses k := by
  obtain h | h | h := h
  · rw [Band.boundTo, hb] at h
    exact .inl h
  · rw [Band.migratesTo, hm] at h
    exact .inr (.inl h)
  · rw [Band.changeNames, hp] at h
    cases h

/-! ### What the band unit's work does to the uses -/

theorem moveWatermark_uses {s : State} {i : BandId} {w : Nat} {announce : Bool} (k : SlotId)
    (h : (s.moveWatermark i w announce).uses k) : s.uses k := by
  unfold State.moveWatermark at h
  split at h
  · exact h
  · rename_i b hb
    split at h
    · exact h
    · rename_i r hr
      have h1 : ∀ d, (if announce then s.report d else s).bands = s.bands := by
        intro d
        split
        · exact report_bands s d
        · rfl
      have hset : ∀ d b', (∀ k, b'.uses k → b.uses k) →
          ((if announce then s.report d else s).setBand i (some b')).uses k → s.uses k := fun d b' hb' hk =>
        uses_of_bands (h1 d) (uses_setBand (fun x j hx hu =>
          ⟨i, b, by rw [h1]; exact hb, hb' j (by cases hx; exact hu)⟩) k hk)
      dsimp only at h
      split at h
      · refine hset _ _ (fun j hj => ?_) (uses_of_bands (report_bands _ _) h)
        obtain hj | hj | hj := hj
        · obtain ⟨x, hx, rfl⟩ := boundTo_iff.1 hj
          cases hx
          exact .inr (.inl (migratesTo_iff.2 ⟨r, hr, rfl⟩))
        · cases hj
        · unfold Band.changeNames at hj
          split at hj
          · cases hj
          · rename_i p hp
            split at hj
            · cases hj
            · rename_i f hc
              exact .inr (.inr (by simpa only [Band.changeNames, show b.pending = _ from hp, hc] using hj))
            · rename_i target generation hc
              rw [Bool.or_eq_true] at hj
              obtain hj | hj := hj
              · exact .inr (.inr (by simp only [Band.changeNames, show b.pending = _ from hp, hc, hj, Bool.true_or]))
              · obtain ⟨x, hx, rfl⟩ := boundTo_iff.1 hj
                cases hx
                exact .inr (.inl (migratesTo_iff.2 ⟨r, hr, rfl⟩))
      · refine hset _ _ (fun j hj => ?_) h
        obtain hj | hj | hj := hj
        · exact .inl hj
        · obtain ⟨_, hr', rfl⟩ := migratesTo_iff.1 hj
          cases hr'
          exact .inr (.inl (migratesTo_iff.2 ⟨r, hr, rfl⟩))
        · exact .inr (.inr hj)

theorem replaceWatermark_uses {s : State} {ns : Ns} (k : SlotId) (h : (s.replaceWatermark ns).uses k) : s.uses k := by
  unfold State.replaceWatermark at h
  split at h
  · exact h
  · dsimp only at h
    split at h
    · exact h
    · exact moveWatermark_uses k h

@[simp] theorem gatedFields_binding (s : State) (old : Option Band) (f : BandFields) :
    (s.gatedFields old f).binding = f.binding := by
  unfold State.gatedFields
  split
  · rfl
  · split <;> rfl

/-- An applied BAND-SET uses the slot it binds, where it binds one. -/
theorem applyBandSet_uses {s : State} {i : BandId} {new : Option BandFields} (k : SlotId)
    (h : (s.applyBandSet i new).uses k) : s.uses k ∨ ∃ f x, new = some f ∧ f.binding = some x ∧ x.slot = k := by
  have hset : ∀ b' : Option Band, (∀ b, b' = some b → b.migration = none ∧ b.pending = none ∧
      ∃ f, new = some f ∧ b.fields.binding = f.binding) → (s.setBand i b').uses k →
      s.uses k ∨ ∃ f x, new = some f ∧ f.binding = some x ∧ x.slot = k := by
    rintro b' hb' ⟨j, b, hb, hu⟩
    by_cases hj : i = j
    · subst hj
      rw [setBand_get_self] at hb
      obtain ⟨hm, hp, f, hf, hbind⟩ := hb' b hb
      obtain hu | hu | hu := hu
      · obtain ⟨x, hx, rfl⟩ := boundTo_iff.1 hu
        exact .inr ⟨f, x, hf, hbind ▸ hx, rfl⟩
      · rw [Band.migratesTo, hm] at hu
        cases hu
      · rw [Band.changeNames, hp] at hu
        cases hu
    · rw [setBand_get_ne s _ hj] at hb
      exact .inl ⟨j, b, hb, hu⟩
  unfold State.applyBandSet at h
  split at h
  · exact hset none (fun b hb => by cases hb) h
  · rename_i f
    have hgo : ∀ n, (s.setBand i (some ⟨s.gatedFields s.bands[i] f, n, none, none, none⟩)).uses k →
        s.uses k ∨ ∃ f' x, some f = some f' ∧ f'.binding = some x ∧ x.slot = k := fun n hk =>
      hset _ (by rintro b ⟨⟩; exact ⟨rfl, rfl, f, rfl, gatedFields_binding _ _ _⟩) hk
    dsimp only at h
    split at h
    · exact hgo _ (replaceWatermark_uses k h)
    · exact hgo _ h

/-- An applied MIGRATE-START uses its target. -/
theorem applyMigrateStart_uses {s : State} {i : BandId} {target : SlotId} {generation : BitVec 16} (k : SlotId)
    (h : (s.applyMigrateStart i target generation).uses k) : s.uses k ∨ k = target := by
  unfold State.applyMigrateStart at h
  split at h
  · exact .inl h
  · rename_i b hb
    obtain ⟨j, b', hb', hu⟩ := moveWatermark_uses k h
    by_cases hj : i = j
    · subst hj
      rw [setBand_get_self] at hb'
      cases hb'
      obtain hu | hu | hu := hu
      · exact .inl ⟨i, b, hb, .inl hu⟩
      · obtain ⟨_, ⟨⟩, rfl⟩ := migratesTo_iff.1 hu
        exact .inr rfl
      · cases hu
    · rw [setBand_get_ne s _ hj] at hb'
      exact .inl ⟨j, b', hb', hu⟩

theorem applyPending_uses {s : State} {i : BandId} (k : SlotId) (h : (s.applyPending i).uses k) : s.uses k := by
  unfold State.applyPending at h
  split at h
  · exact h
  · rename_i b hb
    split at h
    · exact h
    · rename_i p hp
      split at h
      · split at h
        · rename_i new hc
          obtain h | ⟨f, x, rfl, hx, rfl⟩ := applyBandSet_uses k (uses_of_bands (payReply_bands _ _ _ _ _) h)
          · exact h
          · exact ⟨i, b, hb, .inr (.inr (by simp only [Band.changeNames, hp, hc, hx, beq_self_eq_true]))⟩
        · rename_i target generation hc
          obtain h | rfl := applyMigrateStart_uses k (uses_of_bands (payReply_bands _ _ _ _ _) h)
          · exact h
          · exact ⟨i, b, hb, .inr (.inr (by simp only [Band.changeNames, hp, hc, beq_self_eq_true, Bool.true_or]))⟩
      · exact h

theorem dropPending_uses {s : State} {i : BandId} (k : SlotId) (h : (s.dropPending i).uses k) : s.uses k := by
  obtain ⟨j, b, hb, hu⟩ := h
  rw [dropPending_bands_get] at hb
  split at hb
  · obtain ⟨b0, hb0, rfl⟩ := Option.map_eq_some_iff.1 hb
    exact ⟨j, b0, hb0, uses_of_unstaged (b := b0) (b' := { b0 with pending := none }) rfl rfl rfl hu⟩
  · exact ⟨j, b, hb, hu⟩

/-- The staged changes that name a slot are dropped, and no other (R98). -/
theorem dropNaming_bands_get (s : State) (k : SlotId) (j : BandId) :
    (s.dropNaming k).bands[j] =
      (s.bands[j]).map fun b => if b.changeNames k then { b with pending := none } else b := by
  have hone : ∀ (t : State) (i : BandId), (match t.bands[i] with
      | none => t
      | some b => if b.changeNames k then t.dropPending i else t).bands[j] =
        if i = j then (t.bands[j]).map fun b => if b.changeNames k then { b with pending := none } else b
        else t.bands[j] := by
    intro t i
    split
    · rename_i hb
      split
      · rename_i hj
        subst hj
        rw [hb]
        rfl
      · rfl
    · rename_i b hb
      by_cases hj : i = j
      · subst hj
        rw [if_pos rfl, hb, Option.map_some]
        split
        · rw [dropPending_bands_get, if_pos rfl, hb, Option.map_some]
        · exact hb
      · rw [if_neg hj]
        split
        · rw [dropPending_bands_get, if_neg hj]
        · rfl
  have hlist : ∀ (xs : List BandId) (t : State), xs.Nodup →
      (inOrder (fun i t => match t.bands[i] with
        | none => t
        | some b => if b.changeNames k then t.dropPending i else t) xs t).bands[j] =
        if j ∈ xs then (t.bands[j]).map fun b => if b.changeNames k then { b with pending := none } else b
        else t.bands[j] := by
    intro xs
    induction xs with
    | nil => exact fun t _ => (if_neg (by simp)).symm
    | cons x xs ih =>
      intro t hn
      obtain ⟨hx, hn⟩ := List.nodup_cons.1 hn
      rw [inOrder_cons, ih _ hn, hone]
      by_cases hj : x = j
      · subst hj
        rw [if_neg hx, if_pos rfl, if_pos List.mem_cons_self]
      · rw [if_neg hj]
        simp only [List.mem_cons, Ne.symm hj, false_or]
  exact (hlist allBands s (List.nodup_finRange 32)).trans (if_pos (List.mem_finRange j))

theorem unbound_boundTo {b : Band} {k j : SlotId} (h : (b.unbound k).boundTo j = true) :
    b.boundTo j = true ∧ j ≠ k := by
  unfold Band.unbound at h
  dsimp only at h
  split at h
  · cases h
  · rename_i hk
    have hb : b.boundTo j = true := by
      split at h <;> exact h
    refine ⟨hb, ?_⟩
    rintro rfl
    exact hk hb

theorem unbound_migratesTo {b : Band} {k j : SlotId} (h : (b.unbound k).migratesTo j = true) :
    b.migratesTo j = true ∧ j ≠ k := by
  have hm : (if b.failsWith k then { b with migration := none, writer := none } else b).migratesTo j = true := by
    unfold Band.unbound at h
    dsimp only at h
    split at h <;> exact h
  split at hm
  · cases hm
  · rename_i hf
    refine ⟨hm, ?_⟩
    rintro rfl
    refine hf ?_
    obtain ⟨r, hr, _⟩ := migratesTo_iff.1 hm
    rw [Band.failsWith, hr, hm]
    rfl

theorem unbound_changeNames {b : Band} {k j : SlotId} (h : (b.unbound k).changeNames j = true) :
    b.changeNames j = true := by
  unfold Band.changeNames at h ⊢
  rw [unbound_pending] at h
  split at h
  · cases h
  · rename_i p hp
    split at h
    · cases h
    · rename_i f hc
      simpa only [hc] using h
    · rename_i hc
      rw [Bool.or_eq_true] at h
      simp only [Bool.or_eq_true]
      exact h.imp_right fun hb => (unbound_boundTo hb).1

theorem changeNames_unstaged {b : Band} (h : b.pending = none) (k : SlotId) : b.changeNames k = false := by
  rw [Band.changeNames, h]

/-! ### Slots and holders -/

theorem enter_bindable (kind : EndKind) (state : SlotState) : (state.enter kind).bindable = state.bindable := by
  cases state <;> cases kind <;> rfl

theorem enter_lendable (kind : EndKind) (state : SlotState) : (state.enter kind).lendable = state.lendable := by
  cases state <;> cases kind <;> rfl

theorem endAs_state {s : State} {id : CtxId} (kind : EndKind) (status : TransferStatus) (k : SlotId) :
    ((s.endAs kind id status).slots[k]).state.bindable = (s.slots[k]).state.bindable ∧
      ((s.endAs kind id status).slots[k]).state.lendable = (s.slots[k]).state.lendable := by
  cases hc : s.contexts[id] with
  | none =>
    rw [endAs_of_free hc]
    exact ⟨rfl, rfl⟩
  | some c =>
    rw [endAs_slots_get hc]
    split
    · exact ⟨enter_bindable _ _, enter_lendable _ _⟩
    · exact ⟨rfl, rfl⟩

theorem endAs_uses {s : State} {id : CtxId} {kind : EndKind} {status : TransferStatus} (k : SlotId)
    (h : (s.endAs kind id status).uses k) : s.uses k := by
  cases hc : s.contexts[id] with
  | none => rwa [endAs_of_free hc] at h
  | some c =>
    refine uses_of_map (fun i => ⟨_, endAs_bands_get hc kind status i, fun b j hj => ?_⟩) k h
    split at hj <;> exact hj

theorem endAs_held {s : State} {id : CtxId} {kind : EndKind} {status : TransferStatus} (k : SlotId)
    (h : (s.endAs kind id status).held k) : s.held k := by
  obtain ⟨j, c, hc, hk⟩ := h
  rw [endAs_contexts] at hc
  split at hc
  · cases hc
  · exact ⟨j, c, hc, hk⟩

theorem State.KeysOk.endAs {s : State} (hs : s.KeysOk) (kind : EndKind) (id : CtxId) (status : TransferStatus) :
    (s.endAs kind id status).KeysOk :=
  hs.mono endAs_uses endAs_held (fun k h => (endAs_state kind status k).1.trans h)
    fun k h => (endAs_state kind status k).2.trans h

/-- A slot that is good for what it was good for. -/
theorem State.KeysOk.setSlot {s : State} (hs : s.KeysOk) (k : SlotId) {v : KeySlot}
    (hb : (s.slots[k]).state.bindable = true → v.state.bindable = true)
    (hl : (s.slots[k]).state.lendable = true → v.state.lendable = true) : (s.setSlot k v).KeysOk := by
  refine hs.mono (fun _ h => h) (fun _ h => h) (fun j h => ?_) fun j h => ?_
  · by_cases hj : k = j
    · subst hj
      rw [setSlot_get_self]
      exact hb h
    · rwa [setSlot_get_ne s _ hj]
  · by_cases hj : k = j
    · subst hj
      rw [setSlot_get_self]
      exact hl h
    · rwa [setSlot_get_ne s _ hj]

/-- A slot that was good for no use may take any state. -/
theorem State.KeysOk.setSlot_of_idle {s : State} (hs : s.KeysOk) (k : SlotId) {v : KeySlot}
    (hb : (s.slots[k]).state.bindable = false) (hl : (s.slots[k]).state.lendable = false) : (s.setSlot k v).KeysOk :=
  hs.setSlot k (fun h => absurd (hb.symm.trans h) (by decide)) fun h => absurd (hl.symm.trans h) (by decide)

theorem not_held_of_noHolders {s : State} (hc : s.CountsOk) {k : SlotId}
    (h : (s.slots[k]).holders = 0 ∨ s.holdersOf k = []) : ¬s.held k := by
  have hnil : s.holdersOf k = [] := by
    obtain h | h := h
    · exact List.length_eq_zero_iff.1 ((hc.2.2 k).symm.trans h)
    · exact h
  rintro ⟨id, c, hid, hk⟩
  rw [openWith_eq_nil.1 hnil id c hid] at hk
  cases hk

/-- A PURGING slot without holders may be erased: no band may be bound to it (R54, R104). -/
theorem State.KeysOk.endPurge {s : State} (hs : s.KeysOk) (hc : s.CountsOk) {k : SlotId}
    (h : (s.slots[k]).holders = 0 ∨ s.holdersOf k = []) : (s.endPurge k).KeysOk := by
  unfold State.endPurge
  split
  · rename_i hm
    have he : (s.erase k).KeysOk := by
      rw [keysOk_iff] at hs ⊢
      refine ⟨fun j hj => ?_, fun j hj => ?_⟩
      · by_cases hjk : k = j
        · subst hjk
          have := hs.1 k hj
          rw [hm] at this
          cases this
        · rw [State.erase, setSlot_get_ne s _ hjk]
          exact hs.1 j hj
      · by_cases hjk : k = j
        · subst hjk
          exact absurd hj (not_held_of_noHolders hc h)
        · rw [State.erase, setSlot_get_ne s _ hjk]
          exact hs.2 j hj
    exact he.of_uses (contexts_of_transfers (by rw [report_transfers, payReply_transfers]))
      (by rw [report_slots, payReply_slots])
      fun j hj => uses_of_bands (payReply_bands _ _ _ _ _) (uses_of_bands (report_bands _ _) hj)
  · exact hs

/-- The beginning of a purge leaves no band with the slot (R97, R98). -/
theorem State.KeysOk.startPurge {s : State} (hs : s.KeysOk) (k : SlotId) (m : Material) (account : Account) :
    (s.startPurge k m account).KeysOk := by
  have hslots := startPurge_slots s k m account
  have hctx := contexts_of_transfers (startPurge_transfers s k m account)
  rw [keysOk_iff] at hs ⊢
  refine ⟨fun j hj => ?_, fun j hj => ?_⟩
  · obtain ⟨i, b', hb', hu⟩ := hj
    rw [State.startPurge, unbind_get, dropNaming_bands_get, Option.map_map, Option.map_eq_some_iff] at hb'
    obtain ⟨b, hb, rfl⟩ := hb'
    rw [Function.comp_apply] at hu
    have hdrop : ∀ b : Band, ∀ j, (if b.changeNames k then { b with pending := none } else b).uses j → b.uses j := by
      intro b j hj
      split at hj
      · exact uses_of_unstaged (b := b) (b' := { b with pending := none }) rfl rfl rfl hj
      · exact hj
    have hnames : (if b.changeNames k then { b with pending := none } else b).changeNames k = false := by
      split
      · exact changeNames_unstaged rfl k
      · rename_i h
        exact Bool.eq_false_iff.2 h
    have hgo : b.uses j ∧ j ≠ k := by
      obtain hu | hu | hu := hu
      · exact ⟨hdrop b j (.inl (unbound_boundTo hu).1), (unbound_boundTo hu).2⟩
      · exact ⟨hdrop b j (.inr (.inl (unbound_migratesTo hu).1)), (unbound_migratesTo hu).2⟩
      · have hu := unbound_changeNames hu
        refine ⟨hdrop b j (.inr (.inr hu)), ?_⟩
        rintro rfl
        rw [hnames] at hu
        cases hu
    rw [hslots, setSlot_get_ne s _ hgo.2.symm]
    exact hs.1 j ⟨i, b, hb, hgo.1⟩
  · obtain ⟨id, c, hc, hk⟩ := hj
    rw [hslots]
    by_cases hjk : k = j
    · subst hjk
      rw [setSlot_get_self]
      rfl
    · rw [setSlot_get_ne s _ hjk]
      exact hs.2 j ⟨id, c, by rwa [hctx] at hc, hk⟩

/-- A failed parity check cuts the holders of the slot it poisons (R86, R87). -/
theorem State.KeysOk.poisonAndCut {s : State} (hs : s.KeysOk) (k : SlotId) : (s.poisonAndCut k).KeysOk := by
  have hkeep : ∀ j : SlotId, ((s.poisonAndCut k).slots[j]).state.bindable =
      ((s.setSlot k { s.slots[k] with state := (s.slots[k]).state.poison }).slots[j]).state.bindable ∧
      ((s.poisonAndCut k).slots[j]).state.lendable =
      ((s.setSlot k { s.slots[k] with state := (s.slots[k]).state.poison }).slots[j]).state.lendable := fun j =>
    inAnyOrder_induct (P := fun t => (t.slots[j]).state.bindable = _ ∧ (t.slots[j]).state.lendable = _) _ _ _
      (fun _ _ ht => ht) (fun id _ t ht => ⟨(endAs_state (s := t) _ _ j).1.trans ht.1,
        (endAs_state (s := t) _ _ j).2.trans ht.2⟩) ⟨rfl, rfl⟩
  have huses : ∀ j, (s.poisonAndCut k).uses j → s.uses j := fun j =>
    inAnyOrder_induct (P := fun t => t.uses j → s.uses j) _ _ _ (fun _ _ ht => ht)
      (fun id _ t ht hu => ht (endAs_uses j hu)) (fun h => h)
  have hctx : ∀ id : CtxId, (s.poisonAndCut k).contexts[id] =
      if id ∈ s.openWith (fun c => c.holds k) then none else s.contexts[id] :=
    fun id => inAnyOrder_endAs_contexts _ .keyFault _ _ id
  rw [keysOk_iff] at hs ⊢
  refine ⟨fun j hj => ?_, fun j hj => ?_⟩
  · rw [(hkeep j).1]
    have hb := hs.1 j (huses j hj)
    by_cases hjk : k = j
    · subst hjk
      rw [setSlot_get_self]
      revert hb
      cases (s.slots[k]).state <;> exact id
    · rwa [setSlot_get_ne s _ hjk]
  · obtain ⟨id, c, hc, hk⟩ := hj
    have hne : k ≠ j := by
      rintro rfl
      have hnil := openWith_cut hctx
      rw [openWith_eq_nil.1 hnil id c hc] at hk
      cases hk
    rw [(hkeep j).2, setSlot_get_ne s _ hne]
    rw [hctx] at hc
    split at hc
    · cases hc
    · exact hs.2 j ⟨id, c, hc, hk⟩

theorem locked_uses (b : Band) (k : SlotId) : b.locked.uses k ↔ b.uses k := by
  have hn : b.locked.changeNames k = b.changeNames k := by
    unfold Band.changeNames Band.locked
    cases b.pending with
    | none => rfl
    | some p =>
      obtain ⟨change, owed⟩ := p
      rcases change with (_ | f) | _ <;> rfl
  unfold Band.uses
  rw [hn]
  exact Iff.rfl

theorem withLocks_uses (b : Band) (gated read write : Bool) (k : SlotId) :
    (b.withLocks gated read write).uses k ↔ b.uses k := by
  have hn : (b.withLocks gated read write).changeNames k = b.changeNames k := by
    unfold Band.changeNames Band.withLocks
    cases b.pending with
    | none => rfl
    | some p =>
      obtain ⟨change, owed⟩ := p
      rcases change with (_ | f) | _ <;> rfl
  unfold Band.uses
  rw [hn]
  exact Iff.rfl

/-- Counts and keys together: an erased slot has no holder because the counts are right. -/
def State.CountedKeysOk (s : State) : Prop := s.CountsOk ∧ s.KeysOk

theorem keysOk_kept : Kept State.CountedKeysOk where
  choices s n hs := ⟨countsOk_kept.choices s n hs.1, hs.2⟩
  report s d hs := ⟨countsOk_kept.report s d hs.1, hs.2.of_uses (contexts_of_transfers (report_transfers s d))
    (report_slots s d) fun _ h => uses_of_bands (report_bands s d) h⟩
  discards s n hs := ⟨countsOk_kept.discards s n hs.1, hs.2⟩
  latched s src hs := ⟨countsOk_kept.latched s src hs.1, hs.2⟩
  setWrap s w v hs := ⟨countsOk_kept.setWrap s w v hs.1, hs.2⟩
  endAs s kind id status hs := ⟨hs.1.endAs kind id status, hs.2.endAs kind id status⟩
  applyPending s i hs := ⟨countsOk_kept.applyPending s i hs.1,
    hs.2.of_uses (contexts_of_transfers (applyPending_transfers s i)) (applyPending_slots s i) applyPending_uses⟩
  dropPending s i hs := ⟨countsOk_kept.dropPending s i hs.1,
    hs.2.of_uses (contexts_of_transfers (dropPending_transfers s i)) (dropPending_slots s i) dropPending_uses⟩
  abandonLoad s k hs := by
    refine ⟨hs.1.abandonLoad k, ?_⟩
    unfold State.abandonLoad
    split
    · rename_i l hl
      have := hs.2.setSlot_of_idle k (v := { s.slots[k] with state := .empty }) (by rw [hl]; rfl) (by rw [hl]; rfl)
      cases l.owed <;> exact this
    · exact hs.2
  endPurge _ _ h hs := ⟨hs.1.endPurge h, hs.2.endPurge hs.1 h⟩
  lockBand s i hs := ⟨countsOk_kept.lockBand s i hs.1, hs.2.of_uses rfl rfl fun k hk => by
    refine uses_setBand (fun x j hx hu => ?_) k hk
    obtain ⟨b, hb, rfl⟩ := Option.map_eq_some_iff.1 hx
    exact ⟨i, b, hb, (locked_uses b j).1 hu⟩⟩
  startPurge _ k m account _ _ hs := ⟨hs.1.startPurge k m account, hs.2.startPurge k m account⟩
  zeroGrace s k m a hm hs := ⟨hs.1.setSlot k rfl, hs.2.setSlot k (by rw [hm]; exact id) (by rw [hm]; exact id)⟩
  poisonAndCut s k hs := ⟨countsOk_kept.poisonAndCut s k hs.1, hs.2.poisonAndCut k⟩

/-! ### OPENs and requests -/

/-- A band that passes the fifth check is bound to a slot, and neither it nor its target is POISONED (R27). -/
theorem bandRefusal_none {s : State} {dir : Direction} {b : Band} (h : s.bandRefusal dir b = none) :
    (∃ x, b.fields.binding = some x ∧ (s.slots[x.slot]).isPoisoned = false) ∧
      ∀ r, b.migration = some r → (s.slots[r.target]).isPoisoned = false := by
  have hall := firstFailing_eq_none h
  simp only [List.forall_mem_cons] at hall
  obtain ⟨_, hbound, hpoison, _⟩ := hall
  unfold State.bandPoisoned at hpoison
  rw [Bool.or_eq_false_iff] at hpoison
  obtain ⟨x, hx⟩ := Option.isSome_iff_exists.1 (by simpa using hbound)
  refine ⟨⟨x, hx, ?_⟩, fun r hr => ?_⟩
  · simpa [hx] using hpoison.1
  · simpa [hr] using hpoison.2

theorem spansRefusal_of_openRefusal {s : State} {id : CtxId} {dir : Direction} {migrate : Bool} {ns : Ns}
    {first count : Nat} (h : s.openRefusal id dir migrate (some ns) first count = none) :
    s.spansRefusal dir (s.spans ns first count) = none := by
  unfold State.openRefusal at h
  split at h
  · cases h
  · split at h
    · cases h
    · dsimp only at h
      split at h
      · cases h
      · split at h
        · cases h
        · split at h
          · cases h
          · rename_i hn
            exact hn

/-- Each band of a passed OPEN passes the fifth check. -/
theorem bandRefusal_of_openRefusal {s : State} {id : CtxId} {dir : Direction} {migrate : Bool} {ns : Ns}
    {first count : Nat} (h : s.openRefusal id dir migrate (some ns) first count = none) {g : Span}
    (hg : g ∈ s.spans ns first count) : ∃ b, s.bands[g.band] = some b ∧ s.bandRefusal dir b = none := by
  obtain ⟨b, hb⟩ := Option.isSome_iff_exists.1 (spansFrom_active (baseBand_of_openRefusal h) _ _ _ hg)
  have := List.findSome?_eq_none_iff.1 (spansRefusal_of_openRefusal h) g hg
  exact ⟨b, hb, by simpa only [hb, Option.bind_some] using this⟩

theorem lendable_of_bindable {v : KeySlot} (hb : v.state.bindable = true) (hp : v.isPoisoned = false) :
    v.state.lendable = true := by
  unfold KeySlot.isPoisoned at hp
  cases hs : v.state <;> simp_all [SlotState.bindable, SlotState.lendable]

/-- The slots a new context holds are READY: bound, and not POISONED (R27, R29). -/
theorem lendable_of_newContext {s : State} (hs : s.KeysOk) {id : CtxId} {dir : Direction} {migrate : Bool} {ns : Ns}
    {first count : Nat} (h : s.openRefusal id dir migrate (some ns) first count = none) {k : SlotId}
    (hk : (s.newContext dir migrate ns first count).holds k = true) : (s.slots[k]).state.lendable = true := by
  simp only [State.newContext, Context.holds, List.any_map, List.any_eq_true, Function.comp_apply, State.segmentOf,
    Bool.or_eq_true, beq_iff_eq] at hk
  obtain ⟨g, hg, hk⟩ := hk
  obtain ⟨b, hb, hr⟩ := bandRefusal_of_openRefusal h hg
  obtain ⟨⟨x, hx, hpx⟩, hpr⟩ := bandRefusal_none hr
  rw [hb] at hk
  obtain hk | hk := hk
  · simp only [Option.bind_some, hx, Option.map_some, Option.getD_some] at hk
    subst hk
    exact lendable_of_bindable ((hs.1 g.band b hb).1 x hx) hpx
  · obtain ⟨r, hr, rfl⟩ := Option.map_eq_some_iff.1 hk
    exact lendable_of_bindable ((hs.1 g.band b hb).2.1 r hr) (hpr r hr)

theorem State.KeysOk.accept {s : State} (hs : s.KeysOk) {id : CtxId} {c : Context}
    (hc : ∀ k, c.holds k = true → (s.slots[k]).state.lendable = true) : (s.acceptContext id c).KeysOk := by
  have hstate : ∀ k : SlotId, ((s.acceptContext id c).slots[k]).state = (s.slots[k]).state := fun k => by
    rw [acceptContext_slots_get]
    split <;> rfl
  rw [keysOk_iff] at hs ⊢
  refine ⟨fun k hk => ?_, fun k hk => ?_⟩
  · rw [hstate]
    refine hs.1 k (uses_of_map (fun i => ⟨_, acceptContext_bands_get s id c i, fun b j hj => ?_⟩) k hk)
    split at hj <;> exact hj
  · rw [hstate]
    obtain ⟨j, c', hc', hh⟩ := hk
    by_cases hj : id = j
    · subst hj
      cases (setContext_get_self s id _).symm.trans hc'
      exact hc k hh
    · exact hs.2 k ⟨j, c', (setContext_get_ne s _ hj).symm.trans hc', hh⟩

theorem State.KeysOk.fragmentTaken {s : State} (hs : s.KeysOk) {id : CtxId} {c : Context} (bytes : List Byte)
    (hc : s.contexts[id] = some c) : (s.fragmentTaken id c bytes).KeysOk := by
  obtain ⟨n, o, r, p, hctx⟩ := takeBytes_frame s bytes c
  obtain ⟨_, _, hf⟩ := fragmentTaken_frame s id c bytes
  refine hs.mono (fun k hk => ?_) (fun k hk => ?_) (fun k hk => ?_) fun k hk => ?_
  · rw [hf] at hk
    exact hk
  · obtain ⟨j, c', hc', hh⟩ := hk
    by_cases hj : id = j
    · subst hj
      rw [fragmentTaken_contexts_self] at hc'
      cases hc'
      rw [hctx] at hh
      exact ⟨id, c, hc, hh⟩
    · rw [fragmentTaken_contexts_ne s c bytes hj] at hc'
      exact ⟨j, c', hc', hh⟩
  · rw [hf]
    exact hk
  · rw [hf]
    exact hk

theorem bindable_of_isReady {v : KeySlot} (h : v.isReady = true) : v.state.bindable = true := by
  unfold KeySlot.isReady at h
  cases hs : v.state <;> simp_all [SlotState.bindable]

/-- The slot that an accepted BAND-SET binds is READY (R60). -/
theorem ready_of_bandSetRefusal {s : State} {i : BandId} {f : BandFields} {x : Binding}
    (hr : s.bandSetRefusal i (some f) = none) (hx : f.binding = some x) : (s.slots[x.slot]).isReady = true := by
  have hall := firstFailing_eq_none hr
  simp only [List.forall_mem_cons, Option.bind_some, hx, Option.any_some, Bool.not_eq_false'] at hall
  obtain ⟨_, _, _, _, _, _, hready, _⟩ := hall
  exact hready

/-- The target of an accepted MIGRATE-START is READY, and its band is bound (R111). -/
theorem ready_of_migrateStartRefusal {s : State} {i : BandId} {target : SlotId} {generation : BitVec 16}
    (hr : s.migrateStartRefusal i target generation = none) : (s.slots[target]).isReady = true := by
  have hall := firstFailing_eq_none hr
  simp only [List.forall_mem_cons, Bool.not_eq_false'] at hall
  obtain ⟨_, _, _, _, hready, _⟩ := hall
  exact hready

/-- New uses of slots that may be bound. -/
theorem State.KeysOk.of_newUses {s t : State} (hs : s.KeysOk) (hc : t.contexts = s.contexts) (hk : t.slots = s.slots)
    (hu : ∀ k : SlotId, t.uses k → s.uses k ∨ (s.slots[k]).state.bindable = true) : t.KeysOk := by
  rw [keysOk_iff] at hs ⊢
  refine ⟨fun k h => ?_, fun k ⟨id, c, h, hk'⟩ => ?_⟩
  · rw [hk]
    exact (hu k h).elim (hs.1 k) id
  · rw [hk]
    exact hs.2 k ⟨id, c, by rwa [hc] at h, hk'⟩

/-- A staged change uses, beside what its band does, the slots it names. -/
theorem stage_uses {s : State} {i : BandId} {change : Change} {tag : Byte} (k : SlotId)
    (h : (s.stage i change tag).uses k) : s.uses k ∨ ∃ b, s.bands[i] = some b ∧
      Band.changeNames { b with pending := some { change := change, owed := some tag } } k = true := by
  obtain ⟨j, b', hb', hu⟩ := h
  rw [State.stage] at hb'
  by_cases hj : i = j
  · subst hj
    rw [setBand_get_self] at hb'
    obtain ⟨b, hb, rfl⟩ := Option.map_eq_some_iff.1 hb'
    obtain hu | hu | hu := hu
    · exact .inl ⟨i, b, hb, .inl hu⟩
    · exact .inl ⟨i, b, hb, .inr (.inl hu)⟩
    · exact .inr ⟨b, hb, hu⟩
  · rw [setBand_get_ne s _ hj] at hb'
    exact .inl ⟨j, b', hb', hu⟩

theorem keysOk_of_clear {s : State} (hb : ∀ i : BandId, s.bands[i] = none) (hc : ∀ id : CtxId, s.contexts[id] = none) :
    s.KeysOk :=
  ⟨fun i _ h => (nomatch (hb i).symm.trans h), fun id _ _ h => (nomatch (hc id).symm.trans h)⟩

theorem purgeAll_bands (s : State) : s.purgeAll.bands = Vector.replicate 32 none := by
  unfold State.purgeAll
  rfl

theorem purgeAll_free (s : State) (id : CtxId) : s.purgeAll.contexts[id] = none := by
  have h := purgeAll_contexts s id
  unfold State.purgeAll
  dsimp only
  exact h

theorem purgeAll_keysOk (s : State) : s.purgeAll.KeysOk :=
  keysOk_of_clear (fun i => by rw [purgeAll_bands]; exact Vector.getElem_replicate _) (purgeAll_free s)

theorem damage_state (s : State) (location : BitLocation) (k : SlotId) :
    ((s.damage location).slots[k]).state.bindable = (s.slots[k]).state.bindable ∧
      ((s.damage location).slots[k]).state.lendable = (s.slots[k]).state.lendable := by
  cases location with
  | wrap => exact ⟨rfl, rfl⟩
  | key j i bit =>
    by_cases hj : j = k
    · subst hj
      rw [State.damage, setSlot_get_self]
      cases (s.slots[j]).state <;> exact ⟨rfl, rfl⟩
    · rw [State.damage, setSlot_get_ne s _ hj]
      exact ⟨rfl, rfl⟩

theorem dropOwed_changeNames (b : Band) (k : SlotId) : b.dropOwed.changeNames k = b.changeNames k := by
  unfold Band.changeNames Band.dropOwed
  cases b.pending with
  | none => rfl
  | some p =>
    obtain ⟨change, owed⟩ := p
    rcases change with (_ | f) | _ <;> rfl

theorem State.KeysOk.freeContexts {s : State} (hs : s.KeysOk) : s.freeContexts.KeysOk := by
  refine hs.mono (fun k hk => ?_) (fun k ⟨id, c, hc, _⟩ => ?_) (fun k hk => ?_) fun k hk => ?_
  · refine uses_of_map (fun i => ⟨fun b => { b.dropOwed with openCount := 0, writer := none },
      by simp [State.freeContexts], fun b j hj => ?_⟩) k hk
    obtain hj | hj | hj := hj
    · exact .inl hj
    · exact .inr (.inl hj)
    · exact .inr (.inr ((dropOwed_changeNames b j).symm.trans hj))
  · simp [State.freeContexts] at hc
  · simp only [State.freeContexts, Fin.getElem_fin, Vector.getElem_map] at hk ⊢
    revert hk
    cases (s.slots[k.val]).state <;> exact id
  · simp only [State.freeContexts, Fin.getElem_fin, Vector.getElem_map] at hk ⊢
    revert hk
    cases (s.slots[k.val]).state <;> exact id

/-- Slots become used by accepted requests that find them READY; they stop to hold a key only when nothing uses or
holds them. -/
theorem keysOk_served : Served State.CountedKeysOk State.CountedKeysOk where
  kept := keysOk_kept
  keptOwing := keysOk_kept
  setHead s lane frame hs := ⟨countsOk_served.setHead s lane frame hs.1, by cases lane <;> exact hs.2⟩
  reserve s h hs := ⟨countsOk_served.reserve s h hs.1, hs.2⟩
  reply s tag code status result hs := ⟨countsOk_served.reply s tag code status result hs.1, hs.2⟩
  refuse s id status h hs := ⟨countsOk_served.refuse s id status h hs.1, hs.2⟩
  accept s id _ _ _ _ _ hr hd he h0 hs := ⟨countsOk_served.accept s id _ _ _ _ _ hr hd he h0 hs.1,
    hs.2.accept fun _ hk => lendable_of_newContext hs.2 hr hk⟩
  fragment _ _ _ _ bytes hc _ _ _ hs := ⟨hs.1.fragmentTaken bytes hc, hs.2.fragmentTaken bytes hc⟩
  complete _ _ _ _ bytes _ hc _ _ _ hs := keysOk_kept.completed
    (fun t i w ht => ⟨ht.1.of_opens (contexts_of_transfers (moveWatermark_transfers t i w true))
        (moveWatermark_openCounts t i w true) (moveWatermark_slots t i w true),
      ht.2.of_uses (contexts_of_transfers (moveWatermark_transfers t i w true)) (moveWatermark_slots t i w true)
        moveWatermark_uses⟩) _ _ _ ⟨hs.1.fragmentTaken bytes hc, hs.2.fragmentTaken bytes hc⟩
  startLoad s k _ _ _ _ hr hs := by
    have hempty := firstFailing_eq_none hr _ List.mem_cons_self
    have hidle : (s.slots[k]).state = .empty := by
      rw [Bool.not_eq_false'] at hempty
      unfold KeySlot.isEmpty at hempty
      split at hempty
      · assumption
      · cases hempty
    exact ⟨hs.1.setSlot k rfl, hs.2.setSlot_of_idle k (by rw [hidle]; rfl) (by rw [hidle]; rfl)⟩
  endLoad s k l hl hs := by
    have h : (s.endLoad k).CountedKeysOk :=
      ⟨hs.1.setSlot k rfl, hs.2.setSlot_of_idle k (by rw [hl]; rfl) (by rw [hl]; rfl)⟩
    cases l.owed <;> exact h
  loaded s k l g m hl hs := by
    have h : (s.setSlot k { s.slots[k] with generation := g, state := .ready m }).CountedKeysOk :=
      ⟨hs.1.setSlot k rfl, hs.2.setSlot_of_idle k (by rw [hl]; rfl) (by rw [hl]; rfl)⟩
    cases l.owed <;> exact h
  startPurgeOwed _ k m account _ _ _ hs := ⟨hs.1.startPurge k m account, hs.2.startPurge k m account⟩
  purgeAll s hs := ⟨countsOk_served.purgeAll s hs.1, purgeAll_keysOk s⟩
  graceSetting s n hs := ⟨countsOk_served.graceSetting s n hs.1, hs.2⟩
  damage s location hs := ⟨countsOk_served.damage s location hs.1, hs.2.mono
    (fun _ h => by cases location <;> exact h) (fun _ h => by cases location <;> exact h)
    (fun k h => (damage_state s location k).1.trans h) fun k h => (damage_state s location k).2.trans h⟩
  stageSet s f i new tag hf hr ho hs := by
    refine ⟨countsOk_served.stageSet s f i new tag hf hr ho hs.1, hs.2.of_newUses rfl rfl fun k hk => ?_⟩
    refine (stage_uses k hk).imp_right fun ⟨b, _, hn⟩ => ?_
    cases new with
    | none => cases hn
    | some g =>
      cases hx : g.binding with
      | none => simp only [Band.changeNames, hx, Bool.false_eq_true] at hn
      | some x =>
        simp only [Band.changeNames, hx, beq_iff_eq] at hn
        subst hn
        exact bindable_of_isReady (ready_of_bandSetRefusal hr hx)
  applySet s f i new hf hr ho hs := by
    refine ⟨countsOk_served.applySet s f i new hf hr ho hs.1, hs.2.of_newUses
      (contexts_of_transfers (applyBandSet_transfers s i new)) (applyBandSet_slots s i new) fun k hk => ?_⟩
    obtain h | ⟨g, x, rfl, hx, rfl⟩ := applyBandSet_uses k hk
    · exact .inl h
    · exact .inr (bindable_of_isReady (ready_of_bandSetRefusal hr hx))
  lock s i b gated read write hb hs := ⟨countsOk_served.lock s i b gated read write hb hs.1,
    hs.2.of_uses rfl rfl fun k hk => uses_setBand (fun x j hx hu =>
      ⟨i, b, hb, (withLocks_uses b gated read write j).1 (by cases hx; exact hu)⟩) k hk⟩
  stageStart s i target generation tag hr ho hs := by
    refine ⟨countsOk_served.stageStart s i target generation tag hr ho hs.1, hs.2.of_newUses rfl rfl fun k hk => ?_⟩
    obtain h | ⟨b, hb, hn⟩ := stage_uses k hk
    · exact .inl h
    · simp only [Band.changeNames, Bool.or_eq_true, beq_iff_eq] at hn
      obtain rfl | hn := hn
      · exact .inr (bindable_of_isReady (ready_of_migrateStartRefusal hr))
      · exact .inl ⟨i, b, hb, .inl hn⟩
  applyStart s i target generation hr ho hs := by
    refine ⟨countsOk_served.applyStart s i target generation hr ho hs.1, hs.2.of_newUses
      (contexts_of_transfers (applyMigrateStart_transfers s i target generation))
      (applyMigrateStart_slots s i target generation) fun k hk => (applyMigrateStart_uses k hk).imp_right ?_⟩
    rintro rfl
    exact bindable_of_isReady (ready_of_migrateStartRefusal hr)
  tripClear s mask h hs := ⟨countsOk_served.tripClear s mask h hs.1, hs.2⟩
  setPeriod s k p h hs := ⟨countsOk_served.setPeriod s k p h hs.1, hs.2⟩
  acknowledge s k hs := ⟨countsOk_served.acknowledge s k hs.1, by
    unfold State.acknowledge
    dsimp only
    repeat' split
    all_goals exact hs.2⟩
  goOnline s hs := ⟨countsOk_served.goOnline s hs.1, hs.2⟩
  timeSet s v hs := ⟨countsOk_served.timeSet s v hs.1, hs.2⟩
  startSending s lane hs := by
    obtain ⟨_, _, h⟩ := startSending_frame s lane
    exact h ▸ hs
  freeFront s source hsrc hs := ⟨countsOk_served.freeFront s source hsrc hs.1, by
    cases source with
    | notice => exact hs.2
    | reply => exact hs.2
    | data =>
      obtain ⟨_, _, h⟩ := popFront_frame { s with frontSending := none }
      rw [State.freeFront, h]
      exact hs.2⟩
  freeBack s _ hs := by
    obtain ⟨_, _, h⟩ := popBack_frame { s with backSending := false }
    exact h ▸ hs
  setOutHold s lane level hs := ⟨countsOk_served.setOutHold s lane level hs.1, by cases lane <;> exact hs.2⟩
  assertPlock := keysOk_kept.assertPlock fun _ _ _ hs => hs
  deassertPlock _ hs := hs
  assertPfail := keysOk_kept.assertPfail fun _ _ _ hs => hs
  deassertPfail _ hs := hs
  assertLinkrst := keysOk_kept.assertLinkrst (fun _ _ hs => hs)
    (fun s hs => ⟨countsOk_of_free (fun _ => Vector.getElem_replicate _) (openCounts_freeContexts _)
      (holderCounts_freeContexts _), State.KeysOk.freeContexts (s := s.resetPorts) hs.2⟩) fun _ hs => hs
  releaseLinkrst _ hs := hs
  assertPorst := assertPorst_induct fun s => ⟨countsOk_powerOn s,
    keysOk_of_clear (fun _ => Vector.getElem_replicate _) fun _ => Vector.getElem_replicate _⟩
  releasePorst := keysOk_kept.releasePorst fun _ _ _ hs => hs
  tick s hs := ⟨countsOk_served.tick s hs.1, hs.2.mono (fun _ h => h) (fun _ h => h)
    (fun k h => by
      simp only [State.tick, Fin.getElem_fin, Vector.getElem_map] at h ⊢
      revert h
      cases (s.slots[k.val]).state <;> exact id)
    fun k h => by
      simp only [State.tick, Fin.getElem_fin, Vector.getElem_map] at h ⊢
      revert h
      cases (s.slots[k.val]).state <;> exact id⟩

/-- Settles O58. -/
theorem keysAreKept : Obligations.KeysAreKept :=
  fun c s t hc hs he => (keysOk_served.exec c s t ⟨hc, hs⟩ he).2

end Sys2Proof.Machine

/-! PROOFS. The watermarks (R110, R114, R120): the placement past locking bands, what each operation does to the marks
of a band and to the range of a migrate writer, and that every command keeps both right. -/

namespace Sys2Proof.Machine

/-! ### The LBAs that locking bands contain -/

/-- Some ACTIVE locking band of a namespace contains an LBA (R56). -/
def State.locks (s : State) (ns : Ns) (w : Nat) : Prop :=
  ∃ (j : BandId) (b : Band) (e : Nat × Nat), s.bands[j] = some b ∧ b.fields.extent.lockingIn ns = some e ∧
    e.1 ≤ w ∧ w ≤ e.2

theorem lockingOver_eq_some {b : Band} {ns : Ns} {w last : Nat} : b.lockingOver ns w = some last ↔
    ∃ e, b.fields.extent.lockingIn ns = some e ∧ e.1 ≤ w ∧ w ≤ e.2 ∧ e.2 = last := by
  unfold Band.lockingOver Extent.lockingIn
  cases b.fields.extent with
  | base => simp
  | locking n first final =>
    dsimp only
    constructor
    · intro h
      split at h
      · rename_i hc
        obtain ⟨hn, hf, hl⟩ := hc
        cases h
        exact ⟨(first, last), if_pos hn, hf, hl, rfl⟩
      · cases h
    · rintro ⟨e, he, hf, hl, rfl⟩
      split at he
      · rename_i hn
        cases he
        exact if_pos ⟨hn, hf, hl⟩
      · cases he

theorem lockingAt_of_some {s : State} {ns : Ns} {w : Nat} {j : BandId} {last : Nat}
    (h : s.lockingAt ns w = some (j, last)) : ∃ b e, s.bands[j] = some b ∧
      b.fields.extent.lockingIn ns = some e ∧ e.1 ≤ w ∧ w ≤ e.2 ∧ e.2 = last := by
  obtain ⟨i, _, hi⟩ := List.exists_of_findSome?_eq_some h
  cases hb : s.bands[i] with
  | none => simp only [hb, reduceCtorEq] at hi
  | some b =>
    simp only [hb, Option.map_eq_some_iff, Prod.mk.injEq] at hi
    obtain ⟨l, hl, rfl, rfl⟩ := hi
    obtain ⟨e, he⟩ := lockingOver_eq_some.1 hl
    exact ⟨b, e, hb, he⟩

theorem lockingAt_eq_none {s : State} {ns : Ns} {w : Nat} : s.lockingAt ns w = none ↔ ¬s.locks ns w := by
  constructor
  · rintro h ⟨j, b, e, hb, he, hle, hge⟩
    have := List.findSome?_eq_none_iff.1 h j (List.mem_finRange j)
    rw [hb] at this
    simp only [Option.map_eq_none_iff, lockingOver_eq_some.2 ⟨e, he, hle, hge, rfl⟩, reduceCtorEq] at this
  · intro h
    cases hl : s.lockingAt ns w with
    | none => rfl
    | some x =>
      obtain ⟨b, e, hb, he, hle, hge, _⟩ := lockingAt_of_some (j := x.1) (last := x.2) hl
      exact absurd ⟨x.1, b, e, hb, he, hle, hge⟩ h

/-! ### The placement -/

/-- The bands that lock LBAs at or above one: each move of the placement leaves one behind. -/
def State.locksAhead (s : State) (ns : Ns) (w : Nat) (j : BandId) : Bool :=
  ((s.bands[j]).bind fun b => b.fields.extent.lockingIn ns).any fun e => decide (w ≤ e.2)

theorem locksAhead_iff {s : State} {ns : Ns} {w : Nat} {j : BandId} : s.locksAhead ns w j = true ↔
    ∃ b e, s.bands[j] = some b ∧ b.fields.extent.lockingIn ns = some e ∧ w ≤ e.2 := by
  simp only [State.locksAhead, Option.any_eq_true, Option.bind_eq_some_iff, decide_eq_true_eq]
  exact ⟨fun ⟨e, ⟨b, hb, he⟩, h⟩ => ⟨b, e, hb, he, h⟩, fun ⟨b, e, hb, he, h⟩ => ⟨e, ⟨b, hb, he⟩, h⟩⟩

theorem placed_ge (s : State) (ns : Ns) (fuel w : Nat) : w ≤ s.placed ns fuel w := by
  induction fuel generalizing w with
  | zero => exact Nat.le_refl w
  | succ fuel ih =>
    rw [State.placed]
    split
    · rename_i j last hl
      obtain ⟨_, e, _, _, _, hge, rfl⟩ := lockingAt_of_some hl
      exact Nat.le_trans (by omega) (ih _)
    · exact Nat.le_refl w

/-- With a move for each band that is still ahead, the placement ends outside every locking band (R114). -/
theorem not_locks_placed (s : State) (ns : Ns) (fuel w : Nat) (h : allBands.countP (s.locksAhead ns w) ≤ fuel) :
    ¬s.locks ns (s.placed ns fuel w) := by
  induction fuel generalizing w with
  | zero =>
    rintro ⟨j, b, e, hb, he, _, hge⟩
    have := List.countP_eq_zero.1 (Nat.le_zero.1 h) j (List.mem_finRange j)
    exact this (locksAhead_iff.2 ⟨b, e, hb, he, hge⟩)
  | succ fuel ih =>
    rw [State.placed]
    split
    · rename_i j last hl
      obtain ⟨b, e, hb, he, hle, hge, rfl⟩ := lockingAt_of_some hl
      refine ih _ (Nat.le_of_lt_succ (Nat.lt_of_lt_of_le ?_ h))
      have hahead := locksAhead_iff.2 ⟨b, e, hb, he, hge⟩
      have hsub : ∀ i, s.locksAhead ns (e.2 + 1) i = true → (s.locksAhead ns w i && i != j) = true := by
        intro i hi
        obtain ⟨b', e', hb', he', hlt⟩ := locksAhead_iff.1 hi
        rw [Bool.and_eq_true, bne_iff_ne]
        refine ⟨locksAhead_iff.2 ⟨b', e', hb', he', by omega⟩, ?_⟩
        rintro rfl
        cases hb.symm.trans hb'
        cases he.symm.trans he'
        omega
      rw [countP_update (p := fun i => s.locksAhead ns w i && i != j) (List.nodup_finRange 32) (List.mem_finRange j)
        (fun i hi => by simp [hi]) (by simp) hahead]
      exact Nat.lt_succ_of_le (List.countP_mono_left fun i _ => hsub i)
    · rename_i hl
      exact lockingAt_eq_none.1 hl

theorem not_locks_placed_32 (s : State) (ns : Ns) (w : Nat) : ¬s.locks ns (s.placed ns 32 w) :=
  not_locks_placed s ns 32 w (Nat.le_trans List.countP_le_length (by simp [allBands]))

/-- The placement leaves no namespace: each locking band ends before its base band does (R61). -/
theorem placed_le {s : State} {ns : Ns} {size : Nat}
    (h : ∀ (j : BandId) (b : Band) (e : Nat × Nat), s.bands[j] = some b → b.fields.extent.lockingIn ns = some e → e.2 < size) (fuel w : Nat)
    (hw : w ≤ size) : s.placed ns fuel w ≤ size := by
  induction fuel generalizing w with
  | zero => exact hw
  | succ fuel ih =>
    rw [State.placed]
    split
    · rename_i j last hl
      obtain ⟨b, e, hb, he, _, _, rfl⟩ := lockingAt_of_some hl
      exact ih _ (h j b e hb he)
    · exact hw

/-! ### The marks of a band and the range of a migrate writer -/

/-- A MIGRATE-START is staged for a band. -/
def Band.stagesStart (b : Band) : Prop :=
  ∃ target generation owed, b.pending = some ⟨.migrateStart target generation, owed⟩

/-- A place a band's watermark may take: from its first LBA, and for a base band in no locking band (R110, R114). -/
def Band.mayMark (b : Band) (i : BandId) (locks : Ns → Nat → Prop) (w : Nat) : Prop :=
  b.fields.extent.firstLba ≤ w ∧ (isBase i = true → ¬locks (b.nsAt i) w)

/-- What `WatermarksOk` says of one band. -/
structure Band.MarksOk (b : Band) (i : BandId) (locks : Ns → Nat → Prop) : Prop where
  record : ∀ r, b.migration = some r →
    b.fields.binding.isSome = true ∧ b.mayMark i locks r.w ∧ r.w < b.fields.extent.endLba
  start : b.stagesStart → b.fields.binding.isSome = true

def State.MarksOk (s : State) : Prop := ∀ (i : BandId) (b : Band), s.bands[i] = some b → b.MarksOk i s.locks

def State.extents (s : State) (i : BandId) : Option Extent := (s.bands[i]).map (·.fields.extent)

/-- What `WatermarksOk` says of one open context: a migrate writer's range ends inside its one band. -/
def Context.WriterOk (c : Context) (extents : BandId → Option Extent) : Prop :=
  c.migrate = true → c.dir = .write → ∃ g x, c.segments = [g] ∧ extents g.band = some x ∧ c.first + c.count ≤ x.endLba

def State.WritersOk (s : State) : Prop :=
  ∀ (id : CtxId) (c : Context), s.contexts[id] = some c → c.WriterOk s.extents

theorem extents_eq_some {s : State} {i : BandId} {x : Extent} :
    s.extents i = some x ↔ ∃ b, s.bands[i] = some b ∧ b.fields.extent = x := Option.map_eq_some_iff

theorem watermarksOk_iff (s : State) : s.WatermarksOk ↔ s.MarksOk ∧ s.WritersOk := by
  constructor
  · rintro ⟨hr, hs, hw⟩
    refine ⟨fun i b hb => ⟨fun r h => ?_, fun ⟨target, generation, owed, h⟩ => hs i b target generation owed hb h⟩,
      fun id c hc hm hd => ?_⟩
    · obtain ⟨hbind, hfirst, hend, hbase⟩ := hr i b r hb h
      exact ⟨hbind, ⟨hfirst, fun hi => lockingAt_eq_none.1 (hbase hi)⟩, hend⟩
    · obtain ⟨g, b, hg, hb, he⟩ := hw id c hc hm hd
      exact ⟨g, _, hg, extents_eq_some.2 ⟨b, hb, rfl⟩, he⟩
  · rintro ⟨hm, hw⟩
    refine ⟨fun i b r hb h => ?_, fun i b target generation owed hb h => (hm i b hb).start ⟨_, _, _, h⟩,
      fun id c hc hmig hd => ?_⟩
    · obtain ⟨hbind, ⟨hfirst, hbase⟩, hend⟩ := (hm i b hb).record r h
      exact ⟨hbind, hfirst, hend, fun hi => lockingAt_eq_none.2 (hbase hi)⟩
    · obtain ⟨g, x, hg, hx, he⟩ := hw id c hc hmig hd
      obtain ⟨b, hb, rfl⟩ := extents_eq_some.1 hx
      exact ⟨g, b, hg, hb, he⟩

theorem locks_iff {s : State} {ns : Ns} {w : Nat} : s.locks ns w ↔
    ∃ j x e, s.extents j = some x ∧ x.lockingIn ns = some e ∧ e.1 ≤ w ∧ w ≤ e.2 := by
  constructor
  · rintro ⟨j, b, e, hb, h⟩
    exact ⟨j, _, e, extents_eq_some.2 ⟨b, hb, rfl⟩, h⟩
  · rintro ⟨j, x, e, hx, h⟩
    obtain ⟨b, hb, rfl⟩ := extents_eq_some.1 hx
    exact ⟨j, b, e, hb, h⟩

theorem locks_of_extents {s t : State} (h : t.extents = s.extents) : t.locks = s.locks := by
  funext ns w
  exact propext (by rw [locks_iff, locks_iff, h])

theorem extents_of_shapes {s t : State} (h : t.shapes = s.shapes) : t.extents = s.extents := by
  have he : ∀ u : State, u.extents = fun i => (u.shapes i).map Shape.extent := by
    intro u
    funext i
    rw [State.shapes, Option.map_map]
    rfl
  rw [he t, he s, h]

theorem nsAt_congr {b b' : Band} (h : b'.fields.extent = b.fields.extent) (i : BandId) : b'.nsAt i = b.nsAt i := by
  rw [Band.nsAt, Band.nsAt, h]

/-- A band's changed entry is right where its extent stays, its binding stays while it is needed, and it has a
watermark or a staged start only where it had it before. -/
theorem Band.MarksOk.of_le {b b' : Band} {i : BandId} {locks : Ns → Nat → Prop} (h : b.MarksOk i locks)
    (hx : b'.fields.extent = b.fields.extent) (hm : ∀ r, b'.migration = some r → b.migration = some r)
    (hp : b'.stagesStart → b.stagesStart)
    (hb : b'.migration.isSome = true ∨ b'.stagesStart → b'.fields.binding = b.fields.binding) : b'.MarksOk i locks := by
  refine ⟨fun r hr => ?_, fun hst => ?_⟩
  · rw [hb (.inl (by rw [hr]; rfl)), Band.mayMark, nsAt_congr hx, hx]
    exact h.record r (hm r hr)
  · rw [hb (.inr hst)]
    exact h.start (hp hst)

/-- Every band changes for itself and keeps its extent. -/
theorem State.MarksOk.map {s t : State} (hs : s.MarksOk) (h : ∀ i : BandId, ∃ f : Band → Band,
    t.bands[i] = (s.bands[i]).map f ∧ ∀ b, (f b).fields.extent = b.fields.extent ∧
      (b.MarksOk i s.locks → (f b).MarksOk i s.locks)) : t.MarksOk := by
  have he : t.extents = s.extents := by
    funext i
    obtain ⟨f, hf, hall⟩ := h i
    rw [State.extents, hf, Option.map_map, State.extents]
    congr 1
    exact funext fun b => (hall b).1
  intro i b hb
  obtain ⟨f, hf, hall⟩ := h i
  rw [hf] at hb
  obtain ⟨b0, hb0, rfl⟩ := Option.map_eq_some_iff.1 hb
  rw [locks_of_extents he]
  exact (hall b0).2 (hs i b0 hb0)

theorem State.MarksOk.of_bands {s t : State} (hs : s.MarksOk) (h : t.bands = s.bands) : t.MarksOk :=
  hs.map fun i => ⟨id, by rw [h, Option.map_id]; rfl, fun _ => ⟨rfl, fun hb => hb⟩⟩

/-- No record opens and no extent moves. -/
theorem State.WritersOk.of_extents {s t : State} (hs : s.WritersOk) (he : t.extents = s.extents)
    (hc : ∀ (id : CtxId) (c : Context), t.contexts[id] = some c → s.contexts[id] = some c) : t.WritersOk := by
  intro id c h
  rw [he]
  exact hs id c (hc id c h)

/-- A state whose watermarks are right, with the two invariants they rest on. -/
structure State.Marked (s : State) : Prop where
  counts : s.CountsOk
  layout : s.LayoutOk
  marks : s.MarksOk
  writers : s.WritersOk

/-! ### Moving a watermark -/

/-- The bands are right but for the watermark of one, which only has a binding. -/
structure State.MarksBut (s : State) (i : BandId) : Prop where
  others : ∀ (j : BandId) (b : Band), j ≠ i → s.bands[j] = some b → b.MarksOk j s.locks
  bound : ∀ b, s.bands[i] = some b → b.migration.isSome = true ∨ b.stagesStart → b.fields.binding.isSome = true

theorem State.MarksOk.but {s : State} (hs : s.MarksOk) (i : BandId) : s.MarksBut i := by
  refine ⟨fun j b _ hb => hs j b hb, fun b hb h => h.elim (fun hm => ?_) (hs i b hb).start⟩
  obtain ⟨r, hr⟩ := Option.isSome_iff_exists.1 hm
  exact ((hs i b hb).record r hr).1

/-- A migrating band after its watermark is moved (R120, R121). -/
def Band.moved (b : Band) (r : Migration) (w : Nat) : Band :=
  if w = b.fields.extent.endLba then
    { b with fields := { b.fields with binding := some { slot := r.target, generation := r.targetGeneration } },
             migration := none, writer := none }
  else { b with migration := some { r with w := w } }

theorem moveWatermark_of_idle {s : State} {i : BandId} (h : (s.bands[i]).bind (·.migration) = none) (w : Nat)
    (announce : Bool) : s.moveWatermark i w announce = s := by
  unfold State.moveWatermark
  cases hb : s.bands[i] with
  | none => rfl
  | some b =>
    rw [hb, Option.bind_some] at h
    dsimp only
    rw [h]

theorem moveWatermark_bands_get {s : State} {i : BandId} {b : Band} {r : Migration} (hb : s.bands[i] = some b)
    (hr : b.migration = some r) (w : Nat) (announce : Bool) (j : BandId) :
    (s.moveWatermark i w announce).bands[j] = if i = j then some (b.moved r w) else s.bands[j] := by
  have h1 : ∀ d, (if announce then s.report d else s).bands = s.bands := by
    intro d
    split
    · exact report_bands s d
    · rfl
  have hset : ∀ d b', ((if announce then s.report d else s).setBand i (some b')).bands[j] =
      if i = j then some b' else s.bands[j] := by
    intro d b'
    by_cases hj : i = j
    · subst hj
      rw [if_pos rfl]
      exact setBand_get_self _ _ _
    · rw [if_neg hj, setBand_get_ne _ _ hj, h1]
  unfold State.moveWatermark Band.moved
  rw [hb]
  dsimp only
  rw [hr]
  dsimp only
  by_cases hw : w = b.fields.extent.endLba
  · simp only [if_pos hw, report_bands]
    exact hset _ _
  · simp only [if_neg hw]
    exact hset _ _

theorem State.MarksBut.of_idle {s : State} {i : BandId} (hs : s.MarksBut i)
    (h : (s.bands[i]).bind (·.migration) = none) : s.MarksOk := by
  intro j b hb
  by_cases hj : j = i
  · subst hj
    rw [hb, Option.bind_some] at h
    exact ⟨fun r hr => (nomatch h.symm.trans hr), fun hst => hs.bound b hb (.inr hst)⟩
  · exact hs.others j b hj hb

/-- A watermark put on a place its band may mark, up to the band's end, where the migration completes (R121). -/
theorem State.MarksBut.moveWatermark {s : State} {i : BandId} (hs : s.MarksBut i) {w : Nat} (announce : Bool)
    (hw : ∀ b, s.bands[i] = some b → b.mayMark i s.locks w ∧ w ≤ b.fields.extent.endLba) :
    (s.moveWatermark i w announce).MarksOk := by
  have hlocks := locks_of_extents (extents_of_shapes (moveWatermark_shapes s i w announce))
  cases hr : (s.bands[i]).bind (·.migration) with
  | none =>
    rw [moveWatermark_of_idle hr]
    exact hs.of_idle hr
  | some r =>
    obtain ⟨b, hb, hr⟩ := Option.bind_eq_some_iff.1 hr
    intro j b' hb'
    rw [hlocks]
    rw [moveWatermark_bands_get hb hr] at hb'
    split at hb'
    · rename_i hj
      subst hj
      cases hb'
      obtain ⟨hmay, hle⟩ := hw b hb
      have hbound := hs.bound b hb (.inl (by rw [hr]; rfl))
      unfold Band.moved
      split
      · exact ⟨nofun, fun _ => rfl⟩
      · rename_i hne
        exact ⟨fun _ hr' => by cases hr'; exact ⟨hbound, hmay, Nat.lt_of_le_of_ne hle hne⟩, fun _ => hbound⟩
    · rename_i hj
      exact hs.others j b' (Ne.symm hj) hb'

/-- Where a band's watermark is placed, it may stand (R114). -/
theorem placeFor_mayMark {s : State} (hl : s.LayoutOk) {i : BandId} {b : Band} (hb : s.bands[i] = some b) {w : Nat}
    (hfirst : b.fields.extent.firstLba ≤ w) (hend : w ≤ b.fields.extent.endLba) :
    b.mayMark i s.locks (s.placeFor i w) ∧ s.placeFor i w ≤ b.fields.extent.endLba := by
  unfold State.placeFor
  split
  · rename_i hi
    obtain ⟨hkind, hin, _⟩ := hl
    have hns : b.nsAt i = ⟨i.val, hi⟩ := by
      have := (hkind i b hb).1
      unfold Band.nsAt
      cases hx : b.fields.extent with
      | base => exact Fin.ext (Nat.mod_eq_of_lt hi)
      | locking =>
        rw [hx, show isBase i = true from decide_eq_true hi] at this
        cases this
    refine ⟨⟨Nat.le_trans hfirst (placed_ge s _ _ _), fun _ => ?_⟩, placed_le (fun j b' e hb' he => ?_) 32 w hend⟩
    · rw [hns]
      exact not_locks_placed_32 s _ w
    · obtain ⟨_, base, hbase, hlt, _⟩ := hin j b' _ e hb' (claims_iff.2 (.inl he))
      cases hb.symm.trans hbase
      exact hlt
  · rename_i hi
    exact ⟨⟨hfirst, fun h => absurd (of_decide_eq_true h) hi⟩, hend⟩

/-! ### Applied changes -/

/-- A band that an open context names is not idle. -/
theorem naming_of_openCounts {s : State} (hs : s.CountsOk) {i : BandId} (h : s.openCounts i = 0) {id : CtxId}
    {c : Context} (hc : s.contexts[id] = some c) : c.names i = false :=
  openWith_eq_nil.1 (List.length_eq_zero_iff.1 (((countsOk_iff s).1 hs).1 i ▸ h)) id c hc

/-- No migrate writer is open on an idle band, so that its extent may change. -/
theorem State.WritersOk.update {s t : State} (hs : s.WritersOk) (hcount : s.CountsOk) {i : BandId}
    (hi : s.openCounts i = 0) (hc : t.contexts = s.contexts) (he : ∀ j, j ≠ i → t.extents j = s.extents j) :
    t.WritersOk := by
  intro id c h hm hd
  rw [hc] at h
  obtain ⟨g, x, hg, hx, hle⟩ := hs id c h hm hd
  refine ⟨g, x, hg, ?_, hle⟩
  rw [he g.band ?_]
  · exact hx
  · rintro rfl
    have := naming_of_openCounts hcount hi h
    rw [Context.names, hg] at this
    simp at this

theorem lockingIn_ns {x : Extent} {ns ns' : Ns} {e e' : Nat × Nat} (h : x.lockingIn ns = some e)
    (h' : x.lockingIn ns' = some e') : ns = ns' := by
  unfold Extent.lockingIn at h h'
  cases x with
  | base => cases h
  | locking n first last =>
    dsimp only at h h'
    split at h
    · split at h'
      · rename_i h1 h2
        exact h1.symm.trans h2
      · cases h'
    · cases h

theorem extents_of_bands {s t : State} {i : BandId} (h : t.bands[i] = s.bands[i]) : t.extents i = s.extents i := by
  rw [State.extents, h]
  rfl

/-- A new entry without a watermark locks at most the LBAs of its extent anew. -/
theorem locks_setBand {s : State} {i : BandId} {b : Option Band} {ns : Ns} {w : Nat}
    (h : (s.setBand i b).locks ns w) : s.locks ns w ∨
      ∃ b' e, b = some b' ∧ b'.fields.extent.lockingIn ns = some e ∧ e.1 ≤ w ∧ w ≤ e.2 := by
  obtain ⟨j, b', e, hb, he, hle⟩ := h
  by_cases hj : i = j
  · subst hj
    rw [setBand_get_self] at hb
    exact .inr ⟨b', e, hb, he, hle⟩
  · rw [setBand_get_ne s _ hj] at hb
    exact .inl ⟨j, b', e, hb, he, hle⟩

/-- A band's marks stay right where its namespace locks no further LBA. -/
theorem Band.MarksOk.of_locks {b : Band} {i : BandId} {locks locks' : Ns → Nat → Prop} (h : b.MarksOk i locks)
    (hl : ∀ w, isBase i = true → locks' (b.nsAt i) w → locks (b.nsAt i) w) : b.MarksOk i locks' :=
  ⟨fun r hr => by
    obtain ⟨hbind, ⟨hfirst, hbase⟩, hend⟩ := h.record r hr
    exact ⟨hbind, ⟨hfirst, fun hi hw => hbase hi (hl _ hi hw)⟩, hend⟩, h.start⟩

/-- A new entry without a watermark and without a staged change leaves the other bands right, but for the base band
of the namespace it locks LBAs of. -/
theorem State.MarksOk.setBand {s : State} (hs : s.MarksOk) {i : BandId} {b : Option Band}
    (hb : ∀ b', b = some b' → b'.migration = none ∧ b'.pending = none) {j : BandId} {b0 : Band}
    (hj : (s.setBand i b).bands[j] = some b0)
    (hns : ∀ b' e, b = some b' → isBase j = true → b'.fields.extent.lockingIn (b0.nsAt j) ≠ some e) :
    b0.MarksOk j (s.setBand i b).locks := by
  by_cases hij : i = j
  · subst hij
    rw [setBand_get_self] at hj
    obtain ⟨hm, hp⟩ := hb b0 hj
    exact ⟨fun r hr => (nomatch hm.symm.trans hr), fun ⟨_, _, _, h⟩ => (nomatch hp.symm.trans h)⟩
  · rw [setBand_get_ne s _ hij] at hj
    refine (hs j b0 hj).of_locks fun w hi hw => ?_
    obtain hw | ⟨b', e, hb', he, _⟩ := locks_setBand hw
    · exact hw
    · exact absurd he (hns b' e hb' hi)

theorem nsAt_baseBand {s : State} (hl : s.LayoutOk) {i : BandId} {b : Band} (hb : s.bands[i] = some b)
    (hi : isBase i = true) : i = baseBand (b.nsAt i) := by
  have := (hl.1 i b hb).1
  unfold Band.nsAt
  cases hx : b.fields.extent with
  | base => exact Fin.ext (Nat.mod_eq_of_lt (of_decide_eq_true hi)).symm
  | locking =>
    rw [hx, hi] at this
    cases this

/-- A base band's watermark that a new extent contains is put where it may stand (R114). -/
theorem State.MarksBut.replaceWatermark {s : State} {ns : Ns} (hs : s.MarksBut (baseBand ns)) (hl : s.LayoutOk)
    (hrec : ∀ b r, s.bands[baseBand ns] = some b → b.migration = some r →
      b.fields.extent.firstLba ≤ r.w ∧ r.w < b.fields.extent.endLba) : (s.replaceWatermark ns).MarksOk := by
  unfold State.replaceWatermark
  cases hr : (s.bands[baseBand ns]).bind (·.migration) with
  | none =>
    exact hs.of_idle hr
  | some r =>
    obtain ⟨b, hb, hr⟩ := Option.bind_eq_some_iff.1 hr
    obtain ⟨hfirst, hend⟩ := hrec b r hb hr
    have hplace := placeFor_mayMark hl hb hfirst (Nat.le_of_lt hend)
    dsimp only
    split
    · rename_i heq
      rw [heq] at hplace
      intro j b' hb'
      by_cases hj : j = baseBand ns
      · subst hj
        cases hb.symm.trans hb'
        refine ⟨fun r' hr' => ?_, fun hst => hs.bound b hb (.inr hst)⟩
        cases hr.symm.trans hr'
        exact ⟨hs.bound b hb (.inl (by rw [hr]; rfl)), hplace.1, hend⟩
      · exact hs.others j b' hj hb'
    · refine hs.moveWatermark true fun b' hb' => ?_
      cases hb.symm.trans hb'
      exact hplace

/-- The new entry of a band with BAND-SET fields (R65). -/
def State.entered (s : State) (i : BandId) (f : BandFields) : Band :=
  ⟨s.gatedFields s.bands[i] f, ((s.bands[i]).map (·.openCount)).getD 0, none, none, none⟩

theorem applyBandSet_some (s : State) (i : BandId) (f : BandFields) : s.applyBandSet i (some f) =
    match f.extent with
    | .locking ns _ _ => (s.setBand i (some (s.entered i f))).replaceWatermark ns
    | .base _ _ _ => s.setBand i (some (s.entered i f)) := rfl

/-- An applied BAND-SET, in a layout that has room for it: a base band whose watermark its new extent would contain
gets a new one (R65, R114). -/
theorem State.MarksOk.applyBandSet {s : State} (hs : s.MarksOk) {i : BandId} {new : Option BandFields}
    (hl : (s.applyBandSet i new).LayoutOk) : (s.applyBandSet i new).MarksOk := by
  cases new with
  | none => exact fun j b hb => hs.setBand (fun b' h => by cases h) hb (fun b' e h => by cases h)
  | some f =>
    have hkey : ∀ j b, (s.setBand i (some (s.entered i f))).bands[j] = some b →
        (isBase j = true → ∀ e, f.extent.lockingIn (b.nsAt j) ≠ some e) →
        b.MarksOk j (s.setBand i (some (s.entered i f))).locks := by
      intro j b hb hns
      refine hs.setBand (fun b' h => by cases h; exact ⟨rfl, rfl⟩) hb fun b' e h hi => ?_
      cases h
      rw [State.entered, gatedFields_extent]
      exact hns hi e
    rw [applyBandSet_some] at hl ⊢
    cases hx : f.extent with
    | base => exact fun j b hb => hkey j b hb fun _ e h => by rw [hx] at h; cases h
    | locking ns first last =>
      rw [hx] at hl
      dsimp only at hl ⊢
      replace hl := hl.of_shapes (t := s.setBand i (some (s.entered i f))) (replaceWatermark_shapes _ ns).symm
      have hbase : ∀ b, (s.setBand i (some (s.entered i f))).bands[baseBand ns] = some b →
          s.bands[baseBand ns] = some b ∨ b.migration = none ∧ b.pending = none := by
        intro b hb
        by_cases hi : i = baseBand ns
        · subst hi
          rw [setBand_get_self] at hb
          cases hb
          exact .inr ⟨rfl, rfl⟩
        · rw [setBand_get_ne s _ hi] at hb
          exact .inl hb
      refine State.MarksBut.replaceWatermark ⟨fun j b hj hb => hkey j b hb fun hi e he => hj ?_, fun b hb h => ?_⟩ hl
        fun b r hb hr => ?_
      · rw [nsAt_baseBand hl hb hi]
        congr 1
        unfold Extent.lockingIn at he
        rw [hx] at he
        dsimp only at he
        split at he
        · rename_i hn
          exact hn.symm
        · cases he
      · obtain hb | ⟨hm, hp⟩ := hbase b hb
        · exact (hs.but (baseBand ns)).bound b hb h
        · obtain h | ⟨_, _, _, h⟩ := h
          · rw [hm] at h
            cases h
          · cases hp.symm.trans h
      · obtain hb | ⟨hm, _⟩ := hbase b hb
        · obtain ⟨_, ⟨hfirst, _⟩, hend⟩ := (hs _ b hb).record r hr
          exact ⟨hfirst, hend⟩
        · cases hm.symm.trans hr

/-- No band ends before its first LBA. -/
theorem firstLba_le_endLba {s : State} (hl : s.LayoutOk) {i : BandId} {b : Band} (hb : s.bands[i] = some b) :
    b.fields.extent.firstLba ≤ b.fields.extent.endLba := by
  cases hx : b.fields.extent with
  | base => exact Nat.zero_le _
  | locking ns first last =>
    have he : b.fields.extent.lockingIn ns = some (first, last) := by rw [hx]; exact if_pos rfl
    exact Nat.le_succ_of_le (hl.2.1 i b ns _ hb (claims_iff.2 (.inl he))).1

/-- An applied MIGRATE-START of a bound band puts its watermark at the first place it may stand on (R113, R114). -/
theorem State.MarksOk.applyMigrateStart {s : State} (hs : s.MarksOk) (hl : s.LayoutOk) {i : BandId} {b : Band}
    (hb : s.bands[i] = some b) (hbound : b.fields.binding.isSome = true)
    (target : SlotId) (generation : BitVec 16) : (s.applyMigrateStart i target generation).MarksOk := by
  unfold State.applyMigrateStart
  rw [hb]
  dsimp only
  have hext : ∀ b', b'.fields.extent = b.fields.extent → (s.setBand i (some b')).extents = s.extents := by
    intro b' hb'
    funext j
    by_cases hj : i = j
    · subst hj
      rw [State.extents, setBand_get_self, Option.map_some, hb', State.extents, hb]
      rfl
    · exact extents_of_bands (setBand_get_ne s _ hj)
  have hlocks := locks_of_extents (hext { b with
    migration := some { target := target, targetGeneration := generation, w := b.fields.extent.firstLba },
    writer := none, pending := none } rfl)
  refine State.MarksBut.moveWatermark ⟨fun j b' hj hb' => ?_, fun b' hb' _ => ?_⟩ false fun b' hb' => ?_
  · rw [hlocks]
    rw [setBand_get_ne s _ (Ne.symm hj)] at hb'
    exact hs j b' hb'
  · rw [setBand_get_self] at hb'
    cases hb'
    exact hbound
  · rw [setBand_get_self] at hb'
    cases hb'
    rw [hlocks, State.startWatermark, hb]
    exact placeFor_mayMark hl hb (Nat.le_refl _) (firstLba_le_endLba hl hb)

/-! ### The events of `Kept` -/

theorem applyPending_elim {P : State → Prop} {s : State} {i : BandId} (hsame : P s)
    (hset : ∀ b new owed, s.bands[i] = some b → b.pending = some ⟨.bandSet new, owed⟩ → b.openCount = 0 →
      P ((s.applyBandSet i new).payReply owed .bandSet .ok (.band (bandByte i))))
    (hstart : ∀ b target generation owed, s.bands[i] = some b →
      b.pending = some ⟨.migrateStart target generation, owed⟩ → b.openCount = 0 →
      P ((s.applyMigrateStart i target generation).payReply owed .migrateStart .ok
        (.migrateStart (bandByte i) (BitVec.ofNat 64 (s.startWatermark i))))) : P (s.applyPending i) := by
  unfold State.applyPending
  split
  · exact hsame
  · rename_i b hb
    split
    · exact hsame
    · rename_i p hp
      obtain ⟨change, owed⟩ := p
      split
      · rename_i h0
        cases change with
        | bandSet new => exact hset b new owed hb hp h0
        | migrateStart target generation => exact hstart b target generation owed hb hp h0
      · exact hsame

/-- Neither the bands nor the records change. -/
theorem State.Marked.of_bands {s t : State} (hs : s.Marked) (ht : t.CountsOk) (hb : t.bands = s.bands)
    (hc : t.contexts = s.contexts) : t.Marked :=
  ⟨ht, hs.layout.of_bands hb, hs.marks.of_bands hb,
    hs.writers.of_extents (extents_of_shapes (shapes_of_bands hb)) fun _ _ h => by rwa [hc] at h⟩

theorem extents_of_update {s t : State} {i j : BandId} {x : Option Shape}
    (h : t.shapes = Function.update s.shapes i x) (hj : j ≠ i) : t.extents j = s.extents j := by
  have he : ∀ u : State, u.extents j = (u.shapes j).map Shape.extent := fun u => by
    rw [State.shapes, Option.map_map]
    rfl
  rw [he t, he s, h, Function.update_of_ne hj]

/-- A BAND-SET applied to an idle band, in a layout that has room for it. -/
theorem State.Marked.applyBandSet {s : State} (hs : s.Marked) {i : BandId} {new : Option BandFields}
    (h0 : s.openCounts i = 0) (hl : (s.applyBandSet i new).LayoutOk) : (s.applyBandSet i new).Marked :=
  have hc := contexts_of_transfers (applyBandSet_transfers s i new)
  ⟨hs.counts.of_opens hc (applyBandSet_openCounts new h0) (applyBandSet_slots s i new), hl,
    hs.marks.applyBandSet hl,
    hs.writers.update hs.counts h0 hc fun _ hj => extents_of_update (applyBandSet_shapes s i new) hj⟩

/-- A MIGRATE-START applied to an idle, bound band. -/
theorem State.Marked.applyMigrateStart {s : State} (hs : s.Marked) {i : BandId} {b : Band} (hb : s.bands[i] = some b)
    (h0 : b.openCount = 0) (hbound : b.fields.binding.isSome = true) (target : SlotId) (generation : BitVec 16) :
    (s.applyMigrateStart i target generation).Marked := by
  have hc := contexts_of_transfers (applyMigrateStart_transfers s i target generation)
  have hshape := applyMigrateStart_shapes hb target generation
  refine ⟨hs.counts.of_opens hc (applyMigrateStart_openCounts s i target generation)
    (applyMigrateStart_slots s i target generation), ?_, hs.marks.applyMigrateStart hs.layout hb hbound _ _,
    hs.writers.update hs.counts ((openCounts_of_some hb).trans h0) hc fun _ hj => extents_of_update hshape hj⟩
  have hl := hs.layout
  rw [layoutOk_iff] at hl ⊢
  rw [hshape]
  exact hl.unstage (shapes_of_some hb)

theorem State.Marked.payReply {s : State} (hs : s.Marked) (owed : Option Byte) (code : RequestCode)
    (status : ReplyStatus) (result : Result) : (s.payReply owed code status result).Marked :=
  have hc := contexts_of_transfers (payReply_transfers s owed code status result)
  hs.of_bands (hs.counts.of_opens hc (payReply_openCounts s owed code status result) (payReply_slots s owed code status result))
    (payReply_bands s owed code status result) hc

theorem State.Marked.applyPending {s : State} (hs : s.Marked) (i : BandId) : (s.applyPending i).Marked := by
  refine applyPending_elim hs (fun b new owed hb hp h0 => ?_) fun b target generation owed hb hp h0 => ?_
  · refine (hs.applyBandSet ((openCounts_of_some hb).trans h0) ?_).payReply _ _ _ _
    have h := ((layoutOk_iff s).1 hs.layout).apply (new := new.map (·.extent)) (shapes_of_some hb)
      (by rw [Band.shape, stagedSet_of_bandSet hp rfl]; rfl)
    rw [Option.map_map] at h
    rw [layoutOk_iff, applyBandSet_shapes]
    exact h
  · exact (hs.applyMigrateStart hb h0 ((hs.marks i b hb).start ⟨_, _, _, hp⟩) target generation).payReply _ _ _ _

/-- Every band changes for itself, keeps its extent and keeps right; no record opens. -/
theorem State.Marked.map {s t : State} (hs : s.Marked) (ht : t.CountsOk) (hl : t.LayoutOk)
    (hc : ∀ (id : CtxId) (c : Context), t.contexts[id] = some c → s.contexts[id] = some c)
    (h : ∀ i : BandId, ∃ f : Band → Band, t.bands[i] = (s.bands[i]).map f ∧ ∀ b, (f b).fields.extent = b.fields.extent ∧
      (b.MarksOk i s.locks → (f b).MarksOk i s.locks)) : t.Marked := by
  refine ⟨ht, hl, hs.marks.map h, hs.writers.of_extents ?_ hc⟩
  funext i
  obtain ⟨f, hf, hall⟩ := h i
  rw [State.extents, hf, Option.map_map, State.extents]
  congr 1
  exact funext fun b => (hall b).1

theorem dropPending_marksOk {b : Band} {i : BandId} {locks : Ns → Nat → Prop} (h : b.MarksOk i locks) :
    ({ b with pending := none } : Band).MarksOk i locks :=
  h.of_le rfl (fun _ hr => hr) (fun ⟨_, _, _, hp⟩ => nomatch hp) fun _ => rfl

theorem State.Marked.dropPending {s : State} (hs : s.Marked) (i : BandId) : (s.dropPending i).Marked := by
  refine hs.map (countsOk_kept.dropPending s i hs.counts) (hs.layout.dropPending i)
    (fun id c h => by rwa [contexts_of_transfers (dropPending_transfers s i)] at h)
    fun j => ⟨if i = j then fun b => { b with pending := none } else id, ?_, fun b => ?_⟩
  · rw [dropPending_bands_get]
    split
    · rfl
    · rw [Option.map_id]
      rfl
  · split
    · exact ⟨rfl, dropPending_marksOk⟩
    · exact ⟨rfl, fun h => h⟩

theorem State.Marked.endAs {s : State} (hs : s.Marked) (kind : EndKind) (id : CtxId) (status : TransferStatus) :
    (s.endAs kind id status).Marked := by
  cases hc : s.contexts[id] with
  | none =>
    rw [endAs_of_free hc]
    exact hs
  | some c =>
    refine hs.map (hs.counts.endAs kind id status) (hs.layout.endAs kind id status) (fun j c' h => ?_)
      fun i => ⟨_, endAs_bands_get hc kind status i, fun b => ?_⟩
    · rw [endAs_contexts] at h
      split at h
      · cases h
      · exact h
    · split
      · exact ⟨rfl, fun h => h.of_le rfl (fun _ hr => hr) (fun hp => hp) fun _ => rfl⟩
      · exact ⟨rfl, fun h => h⟩

theorem unbound_migration (b : Band) (k : SlotId) :
    (b.unbound k).migration = if b.failsWith k then none else b.migration := by
  unfold Band.unbound
  dsimp only
  split <;> split <;> rfl

theorem unbound_binding (b : Band) (k : SlotId) :
    (b.unbound k).fields.binding = if b.boundTo k then none else b.fields.binding := by
  unfold Band.unbound
  dsimp only
  split
  · rfl
  · split <;> rfl

/-- The unbinding of a slot takes a binding away only where no watermark and no staged start needs it (R97, R98). -/
theorem Band.MarksOk.unbound {b : Band} {i : BandId} {locks : Ns → Nat → Prop} (h : b.MarksOk i locks) {k : SlotId}
    (hn : b.changeNames k = false) : (b.unbound k).MarksOk i locks := by
  refine h.of_le (congrArg Shape.extent (unbound_shape b k)) (fun r hr => ?_)
    (fun ⟨t, g, o, hp⟩ => ⟨t, g, o, (unbound_pending b k).symm.trans hp⟩) fun hu => ?_
  · rw [unbound_migration] at hr
    split at hr
    · cases hr
    · exact hr
  · rw [unbound_binding, if_neg]
    intro hb
    obtain hm | ⟨t, g, o, hp⟩ := hu
    · rw [unbound_migration] at hm
      split at hm
      · cases hm
      · rename_i hf
        exact hf (by rw [Band.failsWith, hm, hb, Bool.or_true]; rfl)
    · rw [unbound_pending] at hp
      rw [Band.changeNames, hp] at hn
      simp only [hb, Bool.or_true, Bool.true_eq_false] at hn

theorem State.Marked.startPurge {s : State} (hs : s.Marked) (k : SlotId) (m : Material) (account : Account) :
    (s.startPurge k m account).Marked := by
  refine hs.map (hs.counts.startPurge k m account) (hs.layout.startPurge k m account)
    (fun id c h => by rwa [contexts_of_transfers (startPurge_transfers s k m account)] at h) fun i =>
    ⟨fun b => (if b.changeNames k then { b with pending := none } else b).unbound k, ?_, fun b => ⟨?_, fun h => ?_⟩⟩
  · rw [State.startPurge, unbind_get, dropNaming_bands_get, Option.map_map]
    rfl
  · refine (congrArg Shape.extent (unbound_shape _ k)).trans ?_
    split <;> rfl
  · dsimp only
    split
    · exact (dropPending_marksOk h).unbound (changeNames_unstaged rfl k)
    · rename_i hn
      exact h.unbound (Bool.eq_false_iff.2 hn)

theorem locked_marksOk {b : Band} {i : BandId} {locks : Ns → Nat → Prop} (h : b.MarksOk i locks) :
    b.locked.MarksOk i locks := by
  refine h.of_le rfl (fun _ hr => hr) (fun ⟨t, g, o, hp⟩ => ?_) fun _ => rfl
  unfold Band.locked at hp
  cases hb : b.pending with
  | none =>
    rw [hb] at hp
    cases hp
  | some p =>
    obtain ⟨change, owed⟩ := p
    rw [hb] at hp
    rcases change with (_ | f) | ⟨t', g'⟩
    · cases hp
    · cases hp
    · exact ⟨t', g', owed, hb⟩

theorem withLocks_marksOk {b : Band} {i : BandId} {locks : Ns → Nat → Prop} (gated read write : Bool)
    (h : b.MarksOk i locks) : (b.withLocks gated read write).MarksOk i locks := by
  refine h.of_le rfl (fun _ hr => hr) (fun ⟨t, g, o, hp⟩ => ?_) fun _ => rfl
  unfold Band.withLocks at hp
  cases hb : b.pending with
  | none =>
    rw [hb] at hp
    cases hp
  | some p =>
    obtain ⟨change, owed⟩ := p
    rw [hb] at hp
    rcases change with (_ | f) | ⟨t', g'⟩
    · cases hp
    · cases hp
    · exact ⟨t', g', owed, hb⟩

/-- One entry changes, keeps its extent and keeps right. -/
theorem State.Marked.setBand {s : State} (hs : s.Marked) {i : BandId} {b b' : Band} (hb : s.bands[i] = some b)
    (hcount : b'.openCount = b.openCount) (hl : (s.setBand i (some b')).LayoutOk)
    (hext : b'.fields.extent = b.fields.extent) (h : b.MarksOk i s.locks → b'.MarksOk i s.locks) :
    (s.setBand i (some b')).Marked := by
  have he : (s.setBand i (some b')).extents = s.extents := by
    funext j
    by_cases hj : i = j
    · subst hj
      rw [State.extents, setBand_get_self, Option.map_some, hext, State.extents, hb]
      rfl
    · exact extents_of_bands (setBand_get_ne s _ hj)
  refine ⟨hs.counts.of_opens rfl (setBand_openCounts (by rw [openCounts_of_some hb]; exact hcount)) rfl, hl, ?_,
    hs.writers.of_extents he fun _ _ h => h⟩
  intro j b0 hj
  rw [locks_of_extents he]
  by_cases hij : i = j
  · subst hij
    rw [setBand_get_self] at hj
    cases hj
    exact h (hs.marks i b hb)
  · rw [setBand_get_ne s _ hij] at hj
    exact hs.marks j b0 hj

theorem marked_kept : Kept State.Marked where
  choices s n hs := hs.of_bands (countsOk_kept.choices s n hs.counts) rfl rfl
  report s d hs := hs.of_bands (countsOk_kept.report s d hs.counts) (report_bands s d)
    (contexts_of_transfers (report_transfers s d))
  discards s n hs := hs.of_bands (countsOk_kept.discards s n hs.counts) rfl rfl
  latched s src hs := hs.of_bands (countsOk_kept.latched s src hs.counts) rfl rfl
  setWrap s w v hs := hs.of_bands (countsOk_kept.setWrap s w v hs.counts) rfl rfl
  endAs _ kind id status hs := hs.endAs kind id status
  applyPending _ i hs := hs.applyPending i
  dropPending _ i hs := hs.dropPending i
  abandonLoad s k hs := hs.of_bands (hs.counts.abandonLoad k) (abandonLoad_bands s k)
    (contexts_of_transfers (abandonLoad_transfers s k))
  endPurge s k h hs := hs.of_bands (hs.counts.endPurge h) (endPurge_bands s k)
    (contexts_of_transfers (endPurge_transfers s k))
  lockBand s i hs := hs.map (countsOk_kept.lockBand s i hs.counts) (layoutOk_kept.lockBand s i hs.layout)
    (fun _ _ h => h) fun j => by
      by_cases hj : i = j
      · subst hj
        exact ⟨Band.locked, setBand_get_self _ _ _, fun _ => ⟨rfl, locked_marksOk⟩⟩
      · exact ⟨id, by rw [Option.map_id]; exact setBand_get_ne s _ hj, fun _ => ⟨rfl, fun h => h⟩⟩
  startPurge _ k m account _ _ hs := hs.startPurge k m account
  zeroGrace s k m a hm hs := hs.of_bands (countsOk_kept.zeroGrace s k m a hm hs.counts) rfl rfl
  poisonAndCut s k hs := inAnyOrder_induct (P := State.Marked) _ _ _
    (fun t n ht => ht.of_bands (countsOk_kept.choices t n ht.counts) rfl rfl) (fun id _ _ ht => ht.endAs _ id _)
    (hs.of_bands (hs.counts.setSlot k rfl) rfl rfl)

end Sys2Proof.Machine

/-! PROOFS. Every command keeps the watermarks right (R110, R114, R120): the accepted OPEN of a migrate writer, its
advance at its completion, and the commands. -/

namespace Sys2Proof.Machine

/-! ### The range of an accepted migrate writer -/

/-- A range of one run ends inside the run's band (R19, R56). -/
theorem endLba_of_single_span {s : State} {ns : Ns} {first count size : Nat} {g : Span}
    (h : s.spans ns first count = [g]) (hcount : 0 < count) (hsize : s.namespaceSize ns = some size)
    (hin : first + count ≤ size) : ∃ x, s.extents g.band = some x ∧ first + count ≤ x.endLba := by
  obtain ⟨n, rfl⟩ := Nat.exists_eq_succ_of_ne_zero (Nat.ne_of_gt hcount)
  unfold State.spans at h
  rw [State.spansFrom, if_neg (by omega)] at h
  split at h
  · rename_i i bandLast hl
    obtain ⟨rfl, hrest⟩ := List.cons.inj h
    obtain ⟨b, e, hb, he, hle, hge, rfl⟩ := lockingAt_of_some hl
    refine ⟨_, extents_eq_some.2 ⟨b, hb, rfl⟩, ?_⟩
    have hend : b.fields.extent.endLba = e.2 + 1 := by
      unfold Extent.lockingIn at he
      cases hx : b.fields.extent with
      | base =>
        rw [hx] at he
        cases he
      | locking k f l =>
        rw [hx] at he
        dsimp only at he
        split at he
        · cases he
          rfl
        · cases he
    rw [hend]
    cases n with
    | zero => omega
    | succ n =>
      rw [State.spansFrom] at hrest
      split at hrest
      · omega
      · split at hrest <;> cases hrest
  · obtain ⟨rfl, _⟩ := List.cons.inj h
    unfold State.namespaceSize at hsize
    split at hsize
    · cases hsize
    · rename_i b hb
      split at hsize
      · rename_i hx
        cases hsize
        exact ⟨_, extents_eq_some.2 ⟨b, hb, rfl⟩, by rw [hx]; exact hin⟩
      · cases hsize

/-- The size and the sixth check of a passed OPEN (R26, R28). -/
theorem inRange_of_openRefusal {s : State} {id : CtxId} {dir : Direction} {migrate : Bool} {ns : Ns}
    {first count : Nat} (h : s.openRefusal id dir migrate (some ns) first count = none) :
    (∃ size, s.namespaceSize ns = some size ∧ first + count ≤ size) ∧
      (migrate = true → s.migrateAllowed dir first (s.spans ns first count) = true) := by
  unfold State.openRefusal at h
  split at h
  · cases h
  · split at h
    · cases h
    · dsimp only at h
      split at h
      · cases h
      · rename_i size hsize
        split at h
        · cases h
        · rename_i hin
          split at h
          · cases h
          · split at h
            · cases h
            · rename_i hm
              refine ⟨⟨size, hsize, Nat.le_of_not_lt hin⟩, fun hmig => ?_⟩
              rw [hmig, Bool.true_and, Bool.not_eq_true', Bool.not_eq_false] at hm
              exact hm

theorem single_of_migrateAllowed {s : State} {dir : Direction} {first : Nat} {spans : List Span}
    (h : s.migrateAllowed dir first spans = true) : ∃ g, spans = [g] := by
  unfold State.migrateAllowed at h
  split at h
  · exact ⟨_, rfl⟩
  · cases h

theorem newContext_writerOk {s : State} {id : CtxId} {dir : Direction} {migrate : Bool} {ns : Ns} {first count : Nat}
    (h : s.openRefusal id dir migrate (some ns) first count = none) (hcount : 0 < count) :
    (s.newContext dir migrate ns first count).WriterOk s.extents := by
  intro hm _
  obtain ⟨⟨size, hsize, hin⟩, hallowed⟩ := inRange_of_openRefusal h
  obtain ⟨g, hg⟩ := single_of_migrateAllowed (hallowed hm)
  obtain ⟨x, hx, hle⟩ := endLba_of_single_span hg hcount hsize hin
  exact ⟨s.segmentOf g, x, by rw [State.newContext, hg]; rfl, hx, hle⟩

theorem opened_marksOk {b : Band} {i : BandId} {locks : Ns → Nat → Prop} (writer : Option CtxId)
    (h : b.MarksOk i locks) : (b.opened writer).MarksOk i locks :=
  h.of_le rfl (fun _ hr => hr) (fun hp => hp) fun _ => rfl

theorem State.Marked.accept {s : State} (hs : s.Marked) {id : CtxId} {c : Context} (ht : (s.acceptContext id c).CountsOk)
    (hl : (s.acceptContext id c).LayoutOk) (hc : c.WriterOk s.extents) : (s.acceptContext id c).Marked := by
  have hbands : ∀ i : BandId, ∃ f : Band → Band, (s.acceptContext id c).bands[i] = (s.bands[i]).map f ∧
      ∀ b, (f b).fields.extent = b.fields.extent ∧ (b.MarksOk i s.locks → (f b).MarksOk i s.locks) := fun i => by
    refine ⟨_, acceptContext_bands_get s id c i, fun b => ?_⟩
    split
    · exact ⟨rfl, opened_marksOk _⟩
    · exact ⟨rfl, fun h => h⟩
  have hext : (s.acceptContext id c).extents = s.extents := by
    funext i
    obtain ⟨f, hf, hall⟩ := hbands i
    rw [State.extents, hf, Option.map_map, State.extents]
    congr 1
    exact funext fun b => (hall b).1
  refine ⟨ht, hl, hs.marks.map hbands, fun j c' h => ?_⟩
  rw [hext]
  by_cases hj : id = j
  · subst hj
    cases (setContext_get_self s id _).symm.trans h
    exact hc
  · exact hs.writers j c' ((setContext_get_ne s _ hj).symm.trans h)

/-! ### Fragments and the advance of a migrate writer -/

theorem takeBytes_writerOk (s : State) (bytes : List Byte) {c : Context} {extents : BandId → Option Extent}
    (h : c.WriterOk extents) : (s.takeBytes bytes c).ctx.WriterOk extents := by
  obtain ⟨_, _, _, _, hc⟩ := takeBytes_frame s bytes c
  rw [hc]
  exact h

theorem State.Marked.fragmentTaken {s : State} (hs : s.Marked) {id : CtxId} {c : Context} (bytes : List Byte)
    (hc : s.contexts[id] = some c) : (s.fragmentTaken id c bytes).Marked := by
  have hbands : (s.fragmentTaken id c bytes).bands = s.bands := by
    obtain ⟨_, _, h⟩ := fragmentTaken_frame s id c bytes
    rw [h]
    rfl
  refine ⟨hs.counts.fragmentTaken bytes hc, hs.layout.of_bands hbands, hs.marks.of_bands hbands, fun j c' h => ?_⟩
  rw [extents_of_shapes (shapes_of_bands hbands)]
  by_cases hj : id = j
  · subst hj
    cases (fragmentTaken_contexts_self s id c bytes).symm.trans h
    exact takeBytes_writerOk s bytes (hs.writers id c hc)
  · exact hs.writers j c' ((fragmentTaken_contexts_ne s c bytes hj).symm.trans h)

/-- The advance of a migrate writer ends inside its band, because its range does (R28, R120). -/
theorem State.Marked.advance {s : State} (hs : s.Marked) {c : Context} (hc : c.WriterOk s.extents)
    (hm : c.migrate = true) (hd : c.dir = .write) : (s.advance c).Marked := by
  obtain ⟨g, x, hg, hx, hle⟩ := hc hm hd
  obtain ⟨b, hb, rfl⟩ := extents_eq_some.1 hx
  unfold State.advance
  rw [hg]
  dsimp only
  split
  · exact hs
  · rename_i r hr
    rw [hb, Option.bind_some] at hr
    obtain ⟨_, ⟨hfirst, _⟩, hend⟩ := (hs.marks g.band b hb).record r hr
    have hshapes := moveWatermark_shapes s g.band (s.placeFor g.band (max r.w (c.first + c.count))) true
    have htransfers := moveWatermark_transfers s g.band (s.placeFor g.band (max r.w (c.first + c.count))) true
    refine ⟨hs.counts.of_opens (contexts_of_transfers htransfers) (moveWatermark_openCounts _ _ _ _)
      (moveWatermark_slots _ _ _ _), hs.layout.of_shapes hshapes, ?_,
      hs.writers.of_extents (extents_of_shapes hshapes) fun _ _ h => by rwa [contexts_of_transfers htransfers] at h⟩
    refine (hs.marks.but g.band).moveWatermark true fun b' hb' => ?_
    cases hb.symm.trans hb'
    exact placeFor_mayMark hs.layout hb (Nat.le_trans hfirst (Nat.le_max_left _ _))
      (Nat.max_le.2 ⟨Nat.le_of_lt hend, hle⟩)

theorem endAs_extents (s : State) (kind : EndKind) (id : CtxId) (status : TransferStatus) :
    (s.endAs kind id status).extents = s.extents := by
  cases hc : s.contexts[id] with
  | none => rw [endAs_of_free hc]
  | some c =>
    funext i
    rw [State.extents, endAs_bands_get hc, Option.map_map, State.extents]
    congr 1
    funext b
    dsimp only [Function.comp_apply]
    split <;> rfl

theorem State.Marked.completed {s : State} (hs : s.Marked) {id : CtxId} {c : Context} (hc : c.WriterOk s.extents) :
    (s.completed id c).Marked := by
  have he := marked_kept.endContext s id .ok hs
  unfold State.completed
  split
  · rename_i h
    obtain ⟨hm, hd⟩ := h
    refine State.Marked.advance he ?_ hm hd
    rw [State.endContext, endAs_extents]
    exact hc
  · exact he

/-! ### Requests, lines and time -/

theorem State.Marked.of_unused {s : State} (hc : s.CountsOk) (hb : ∀ i : BandId, s.bands[i] = none)
    (h : ∀ id : CtxId, s.contexts[id] = none) : s.Marked :=
  ⟨hc, layoutOk_of_unused hb, fun i _ hi => (nomatch (hb i).symm.trans hi), fun id _ hid => (nomatch (h id).symm.trans hid)⟩

/-- A staged change keeps a band right where a staged MIGRATE-START finds a binding (R66, R111). -/
theorem State.Marked.stage {s : State} (hs : s.Marked) {i : BandId} {b : Band} {change : Change} {tag : Byte}
    (hb : s.bands[i] = some b) (hl : (s.stage i change tag).LayoutOk)
    (hbound : ∀ target generation, change = .migrateStart target generation → b.fields.binding.isSome = true) :
    (s.stage i change tag).Marked := by
  unfold State.stage at hl ⊢
  rw [hb, Option.map_some] at hl ⊢
  refine hs.setBand (b' := { b with pending := some { change := change, owed := some tag } }) hb rfl hl rfl fun h => ⟨h.record, fun ⟨target, generation, _, hp⟩ => ?_⟩
  cases hp
  exact hbound target generation rfl

theorem bound_of_migrateStartRefusal {s : State} {i : BandId} {target : SlotId} {generation : BitVec 16} {b : Band}
    (hr : s.migrateStartRefusal i target generation = none) (hb : s.bands[i] = some b) :
    b.fields.binding.isSome = true := by
  have hall := firstFailing_eq_none hr
  simp only [List.forall_mem_cons, hb, Option.bind_some] at hall
  obtain ⟨_, _, hbound, _⟩ := hall
  simpa using hbound

theorem dropOwed_marksOk {b : Band} {i : BandId} {locks : Ns → Nat → Prop} (h : b.MarksOk i locks) :
    ({ b.dropOwed with openCount := 0, writer := none } : Band).MarksOk i locks := by
  refine h.of_le rfl (fun _ hr => hr) (fun ⟨t, g, o, hp⟩ => ?_) fun _ => rfl
  obtain ⟨p, hb, hp⟩ := Option.map_eq_some_iff.1 hp
  obtain ⟨change, owed⟩ := p
  cases hp
  exact ⟨t, g, owed, hb⟩

theorem State.Marked.freeContexts {s : State} (hs : s.Marked) : s.freeContexts.Marked := by
  have hfree : ∀ id : CtxId, s.freeContexts.contexts[id] = none := fun _ => Vector.getElem_replicate _
  have hmap : ∀ i : BandId, ∃ f : Band → Band, s.freeContexts.bands[i] = (s.bands[i]).map f ∧ ∀ b,
      (f b).shape = b.shape ∧ (b.MarksOk i s.locks → (f b).MarksOk i s.locks) := fun i =>
    ⟨fun b => { b.dropOwed with openCount := 0, writer := none }, by simp [State.freeContexts],
      fun b => ⟨dropOwed_shape b, dropOwed_marksOk⟩⟩
  refine hs.map (countsOk_of_free hfree (openCounts_freeContexts _) (holderCounts_freeContexts _))
    (hs.layout.mapShapes fun i => ?_) (fun id _ h => nomatch (hfree id).symm.trans h) fun i => ?_
  · obtain ⟨f, hf, hall⟩ := hmap i
    exact ⟨f, hf, fun b => (hall b).1⟩
  · obtain ⟨f, hf, hall⟩ := hmap i
    exact ⟨f, hf, fun b => ⟨congrArg Shape.extent (hall b).1, (hall b).2⟩⟩

/-- An ACK writes the notice classes and their slots alone. -/
theorem acknowledge_frame (s : State) (k : NoticeClass) :
    ∃ slots classes, s.acknowledge k = { s with noticeSlots := slots, classes := classes } := by
  unfold State.acknowledge
  dsimp only
  split
  · exact ⟨_, _, rfl⟩
  · split
    · exact ⟨_, _, rfl⟩
    · split <;> exact ⟨_, _, rfl⟩

/-- What leaves the bands and the records leaves the watermarks; the counts are their own invariant. -/
theorem marked_served : Served State.Marked State.Marked where
  kept := marked_kept
  keptOwing := marked_kept
  setHead s lane frame hs := hs.of_bands (countsOk_served.setHead s lane frame hs.counts) (by cases lane <;> rfl)
    (by cases lane <;> rfl)
  reserve s h hs := hs.of_bands (countsOk_served.reserve s h hs.counts) rfl rfl
  reply s tag code status result hs := hs.of_bands (countsOk_served.reply s tag code status result hs.counts) rfl rfl
  refuse s id status h hs := hs.of_bands (countsOk_served.refuse s id status h hs.counts) rfl rfl
  accept s id dir migrate ns first count hr hd he h0 hs :=
    hs.accept (countsOk_served.accept s id dir migrate ns first count hr hd he h0 hs.counts)
      (layoutOk_served.accept s id dir migrate ns first count hr hd he h0 hs.layout) (newContext_writerOk hr h0)
  fragment _ _ _ _ bytes hc _ _ _ hs := hs.fragmentTaken bytes hc
  complete s id c _ bytes _ hc _ _ _ hs :=
    (hs.fragmentTaken bytes hc).completed ((hs.fragmentTaken bytes hc).writers id _ (fragmentTaken_contexts_self s id c bytes))
  startLoad s k w words blob tag h hs := hs.of_bands (countsOk_served.startLoad s k w words blob tag h hs.counts) rfl rfl
  endLoad s k l h hs := by
    have := hs.of_bands (hs.counts.setSlot k rfl : (s.endLoad k).CountsOk) rfl rfl
    cases l.owed <;> exact this
  loaded s k l g m h hs := by
    have := hs.of_bands (hs.counts.setSlot k (v := { s.slots[k] with generation := g, state := .ready m }) rfl) rfl rfl
    cases l.owed <;> exact this
  startPurgeOwed _ k m account _ _ _ hs := hs.startPurge k m account
  purgeAll s hs := .of_unused (countsOk_served.purgeAll s hs.counts)
    (fun i => by rw [purgeAll_bands]; exact Vector.getElem_replicate _) (purgeAll_free s)
  graceSetting s n hs := hs.of_bands (countsOk_served.graceSetting s n hs.counts) rfl rfl
  damage s location hs := hs.of_bands (countsOk_served.damage s location hs.counts) (by cases location <;> rfl)
    (by cases location <;> rfl)
  stageSet s f i new tag hf hr ho hs := by
    obtain ⟨b, hb⟩ := band_of_bandOpen ho
    exact hs.stage hb (hs.layout.stageSet tag hf hr hb) nofun
  applySet _ _ _ _ hf hr ho hs := hs.applyBandSet (openCounts_of_not_bandOpen ho) (hs.layout.applyBandSet hf hr)
  lock s i b gated read write hb hs := hs.setBand hb rfl (layoutOk_served.lock s i b gated read write hb hs.layout) rfl
    (withLocks_marksOk gated read write)
  stageStart s i target generation tag hr ho hs := by
    obtain ⟨b, hb⟩ := band_of_bandOpen ho
    exact hs.stage hb (layoutOk_served.stageStart s i target generation tag hr ho hs.layout)
      fun _ _ _ => bound_of_migrateStartRefusal hr hb
  applyStart s i target generation hr ho hs := by
    cases hb : s.bands[i] with
    | none =>
      rw [show s.applyMigrateStart i target generation = s by simp only [State.applyMigrateStart, hb]]
      exact hs
    | some b =>
      exact hs.applyMigrateStart hb ((openCounts_of_some hb).symm.trans (openCounts_of_not_bandOpen ho))
        (bound_of_migrateStartRefusal hr hb) target generation
  tripClear s mask h hs := hs.of_bands (countsOk_served.tripClear s mask h hs.counts) rfl rfl
  setPeriod s k p h hs := hs.of_bands (countsOk_served.setPeriod s k p h hs.counts) rfl rfl
  acknowledge s k hs := hs.of_bands (countsOk_served.acknowledge s k hs.counts)
    (by obtain ⟨_, _, h⟩ := acknowledge_frame s k; rw [h]) (by obtain ⟨_, _, h⟩ := acknowledge_frame s k; rw [h])
  goOnline s hs := hs.of_bands (countsOk_served.goOnline s hs.counts) rfl rfl
  timeSet s v hs := hs.of_bands (countsOk_served.timeSet s v hs.counts) rfl rfl
  startSending s lane hs := by
    have hc := countsOk_served.startSending s lane hs.counts
    obtain ⟨_, _, h⟩ := startSending_frame s lane
    exact hs.of_bands hc (by rw [h]) (by rw [h])
  freeFront s source hsrc hs := by
    have hc := countsOk_served.freeFront s source hsrc hs.counts
    cases source with
    | notice => exact hs.of_bands hc rfl rfl
    | reply => exact hs.of_bands hc rfl rfl
    | data =>
      obtain ⟨_, _, h⟩ := popFront_frame { s with frontSending := none }
      exact hs.of_bands hc (by rw [State.freeFront, h]) (by rw [State.freeFront, h])
  freeBack s hsend hs := by
    have hc := countsOk_served.freeBack s hsend hs.counts
    obtain ⟨_, _, h⟩ := popBack_frame { s with backSending := false }
    exact hs.of_bands hc (by rw [h]) (by rw [h])
  setOutHold s lane level hs := hs.of_bands (countsOk_served.setOutHold s lane level hs.counts) (by cases lane <;> rfl)
    (by cases lane <;> rfl)
  assertPlock := marked_kept.assertPlock fun _ _ _ hs => hs.of_bands hs.counts rfl rfl
  deassertPlock s hs := hs.of_bands (countsOk_served.deassertPlock s hs.counts) rfl rfl
  assertPfail := marked_kept.assertPfail fun _ _ _ hs => hs.of_bands hs.counts rfl rfl
  deassertPfail s hs := hs.of_bands (countsOk_served.deassertPfail s hs.counts) rfl rfl
  assertLinkrst := marked_kept.assertLinkrst (fun _ _ hs => hs.of_bands hs.counts rfl rfl)
    (fun s hs => State.Marked.freeContexts (s := s.resetPorts) (hs.of_bands hs.counts rfl rfl))
    fun _ hs => hs.of_bands hs.counts rfl rfl
  releaseLinkrst s hs := hs.of_bands (countsOk_served.releaseLinkrst s hs.counts) rfl rfl
  assertPorst := assertPorst_induct fun s => .of_unused (countsOk_powerOn s) (fun _ => Vector.getElem_replicate _)
    fun _ => Vector.getElem_replicate _
  releasePorst := marked_kept.releasePorst fun _ _ _ hs => hs.of_bands hs.counts rfl rfl
  tick s hs := hs.of_bands (countsOk_served.tick s hs.counts) rfl rfl

/-- Settles O59. -/
theorem watermarksAreKept : Obligations.WatermarksAreKept := by
  intro c s t hc hl hw he
  obtain ⟨hm, hwr⟩ := (watermarksOk_iff s).1 hw
  have ht := marked_served.exec c s t ⟨hc, hl, hm, hwr⟩ he
  exact (watermarksOk_iff t).2 ⟨ht.marks, ht.writers⟩

end Sys2Proof.Machine

/-! PROOFS. The queue of commands, reset and PORST (R48, R92, R105, R142, R154, R160): every command answers a next
state and leaves the queue of commands, and the state after PORST has every invariant. -/

namespace Sys2Proof.Machine

/-! ### The queue of commands -/

/-- Settles O1. -/
theorem stepRunsTheFrontCommand : Obligations.StepRunsTheFrontCommand :=
  ⟨fun _ _ _ => rfl, fun s h => by rw [step, h]⟩

theorem exec_next (c : Instr) (s : State) : ∃ t, exec c s = .next t := by
  cases c <;> exact ⟨_, rfl⟩

theorem pending_of_outside {s t : State} (h : t.outside = s.outside) : t.pending = s.pending :=
  (congrArg State.pending h :)

theorem pending_of_board {s t : State} (h : t.board = s.board) : t.pending = s.pending :=
  (heads_of_board h).2.2

/-- The commands that wait in the queue. -/
def State.QueueIs (queue : List Instr) (s : State) : Prop := s.pending = queue

theorem queueIs_kept (queue : List Instr) : Kept (State.QueueIs queue) where
  choices _ _ hs := hs
  report s d hs := (pending_of_outside (report_outside s d)).trans hs
  discards _ _ hs := hs
  latched _ _ hs := hs
  setWrap _ _ _ hs := hs
  endAs s kind id status hs := (pending_of_outside (endAs_outside s kind id status)).trans hs
  applyPending s i hs := (pending_of_outside (applyPending_outside s i)).trans hs
  dropPending s i hs := (pending_of_outside (dropPending_outside s i)).trans hs
  abandonLoad s k hs := (pending_of_outside (abandonLoad_outside s k)).trans hs
  endPurge s k _ hs := (pending_of_outside (endPurge_outside s k)).trans hs
  lockBand _ _ hs := hs
  startPurge s k m account _ _ hs := (pending_of_outside (startPurge_outside s k m account)).trans hs
  zeroGrace _ _ _ _ _ hs := hs
  poisonAndCut s k hs := (pending_of_outside (poisonAndCut_outside s k)).trans hs

theorem queueIs_served (queue : List Instr) : Served (State.QueueIs queue) (State.QueueIs queue) where
  kept := queueIs_kept queue
  keptOwing := queueIs_kept queue
  setHead _ lane _ hs := by cases lane <;> exact hs
  reserve _ _ hs := hs
  reply _ _ _ _ _ hs := hs
  refuse _ _ _ _ hs := hs
  accept s id _ _ _ _ _ _ _ _ _ hs := (pending_of_outside (acceptContext_outside s id _)).trans hs
  fragment s id c _ bytes _ _ _ _ hs := by
    obtain ⟨_, _, h⟩ := fragmentTaken_frame s id c bytes
    exact h ▸ hs
  complete s id c _ bytes _ _ _ _ _ hs := by
    obtain ⟨_, _, h⟩ := fragmentTaken_frame s id c bytes
    exact (queueIs_kept queue).completed
      (fun t i w ht => (pending_of_outside (moveWatermark_outside t i w true)).trans ht) _ _ _ (h ▸ hs)
  startLoad _ _ _ _ _ _ _ hs := hs
  endLoad _ _ l _ hs := by cases l.owed <;> exact hs
  loaded _ _ l _ _ _ hs := by cases l.owed <;> exact hs
  startPurgeOwed s k m account _ _ _ hs := (pending_of_outside (startPurge_outside s k m account)).trans hs
  purgeAll s hs := (pending_of_board (purgeAll_board s)).trans hs
  graceSetting _ _ hs := hs
  damage _ location hs := by cases location <;> exact hs
  stageSet _ _ _ _ _ _ _ _ hs := hs
  applySet s _ i new _ _ _ hs := (pending_of_outside (applyBandSet_outside s i new)).trans hs
  lock _ _ _ _ _ _ _ hs := hs
  stageStart _ _ _ _ _ _ _ hs := hs
  applyStart s i target generation _ _ hs :=
    (pending_of_outside (applyMigrateStart_outside s i target generation)).trans hs
  tripClear _ _ _ hs := hs
  setPeriod _ _ _ _ hs := hs
  acknowledge s k hs := (pending_of_outside (acknowledge_outside s k)).trans hs
  goOnline _ hs := hs
  timeSet _ _ hs := hs
  startSending s lane hs := by
    obtain ⟨_, _, h⟩ := startSending_frame s lane
    exact h ▸ hs
  freeFront s source _ hs := by
    cases source with
    | notice => exact hs
    | reply => exact hs
    | data =>
      obtain ⟨_, _, h⟩ := popFront_frame { s with frontSending := none }
      rw [State.freeFront, h]
      exact hs
  freeBack s _ hs := by
    obtain ⟨_, _, h⟩ := popBack_frame { s with backSending := false }
    exact h ▸ hs
  setOutHold _ lane _ hs := by cases lane <;> exact hs
  assertPlock := (queueIs_kept queue).assertPlock fun _ _ _ hs => hs
  deassertPlock _ hs := hs
  assertPfail := (queueIs_kept queue).assertPfail fun _ _ _ hs => hs
  deassertPfail _ hs := hs
  assertLinkrst := (queueIs_kept queue).assertLinkrst (fun _ _ hs => hs) (fun _ hs => hs) fun _ hs => hs
  releaseLinkrst _ hs := hs
  assertPorst s hs := by
    unfold State.assertPorst
    split
    · exact hs
    · exact hs
  releasePorst := (queueIs_kept queue).releasePorst fun _ _ _ hs => hs
  tick _ hs := hs

/-- Settles O2. -/
theorem everyCommandAnswersNext : Obligations.EveryCommandAnswersNext := by
  intro c s
  obtain ⟨t, ht⟩ := exec_next c s
  exact ⟨t, ht, (queueIs_served s.pending).exec c s t rfl ht⟩

/-! ### Reset -/

theorem reset_contexts (id : CtxId) : State.reset.contexts[id] = none := Vector.getElem_replicate _

theorem reset_bands (i : BandId) : State.reset.bands[i] = none := Vector.getElem_replicate _

theorem reset_slots (k : SlotId) : State.reset.slots[k] = KeySlot.reset := Vector.getElem_replicate _

theorem reset_bankBusy (bank : Fin 2) : State.reset.bankBusy bank = false := by
  unfold State.bankBusy
  rw [List.any_eq_false]
  intro k _
  rw [reset_slots]
  simp [KeySlot.reset, KeySlot.isLoading]

/-- Settles O3. -/
theorem resetValues : Obligations.ResetValues := by
  refine ⟨fun id => ⟨reset_contexts id, Vector.getElem_replicate _, Vector.getElem_replicate _⟩, reset_bands, reset_slots,
    fun w => Vector.getElem_replicate _, reset_bankBusy, rfl, rfl, rfl, rfl, rfl, rfl, rfl, rfl, fun k => ?_, rfl, rfl,
    rfl, rfl, rfl, rfl⟩
  cases k <;> exact ⟨rfl, rfl⟩

theorem reset_waiting : State.reset.waiting = 0 := by
  have hslots : ∀ k : SlotId, (State.reset.slots[k]).state.owing = 0 := fun k => by rw [reset_slots]; rfl
  have hbands : ∀ i : BandId, bandOwing State.reset.bands[i] = 0 := fun i => by rw [reset_bands]; rfl
  unfold State.waiting
  simp only [hslots, hbands]
  simp

theorem reset_settled : State.reset.Settled := by
  intro lane
  cases lane <;> rfl

/-- Settles O60. -/
theorem invariantsHoldAtReset : Obligations.InvariantsHoldAtReset := by
  refine ⟨reset_settled, reset_noticesOk, ⟨?reservations, Nat.zero_le _, nofun⟩, placesOk_of_idle rfl rfl rfl rfl rfl,
    ?counts, fun id c h => (nomatch (reset_contexts id).symm.trans h), ⟨fun _ => ⟨rfl, rfl⟩, fun _ => ⟨rfl, rfl⟩, nofun⟩,
    fun _ => reset_contexts, nofun, layoutOk_of_unused reset_bands, keysOk_of_clear reset_bands reset_contexts,
    (watermarksOk_iff _).2 ?marks⟩
  case reservations =>
    rw [reset_waiting]
    rfl
  case counts =>
    exact countsOk_of_free reset_contexts (fun i => by rw [State.openCounts, reset_bands]; rfl)
      fun k => by rw [State.holderCounts, reset_slots]; rfl
  case marks =>
    exact ⟨fun i _ h => (nomatch (reset_bands i).symm.trans h), fun id _ h => (nomatch (reset_contexts id).symm.trans h)⟩

/-! ### PORST -/

theorem assertPorst_of_low {s : State} (h : s.porstLine = false) : s.assertPorst = s.powerOn := by
  rw [State.assertPorst, h]
  rfl

/-- Settles O4. -/
theorem porstFreesEveryContext : Obligations.PorstFreesEveryContext := by
  intro s h
  refine ⟨s.powerOn, congrArg Host.Outcome.next (assertPorst_of_low h), fun id => ?_, rfl, rfl, rfl, rfl, rfl, rfl, rfl,
    reset_bands, fun k => ?_, rfl⟩
  · exact ⟨reset_contexts id, Vector.getElem_replicate _, Vector.getElem_replicate _⟩
  · show (State.reset.slots[k]).holders = 0
    rw [reset_slots]
    rfl

/-- Steps that each leave the state leave it together. -/
theorem inOrder_of_fixed {α : Type} {f : α → State → State} {xs : List α} {s : State} (h : ∀ x ∈ xs, f x s = s) :
    inOrder f xs s = s := by
  induction xs with
  | nil => rfl
  | cons x xs ih =>
    rw [inOrder_cons, h x List.mem_cons_self]
    exact ih fun y hy => h y (List.mem_cons_of_mem _ hy)

theorem applyPending_of_unstaged {s : State} {i : BandId} (h : (s.bands[i]).bind (·.pending) = none) :
    s.applyPending i = s := by
  unfold State.applyPending
  cases hb : s.bands[i] with
  | none => rfl
  | some b =>
    rw [hb, Option.bind_some] at h
    dsimp only
    rw [h]

/-- A latching over an empty band table is its source and its TRIP event. -/
theorem latch_of_unused {s : State} {src : TripSource} (hsrc : s.latched.has src = false)
    (hb : ∀ i : BandId, s.bands[i] = none) : s.latch src =
      { s with latched := s.latched.insert src }.report (.trip (.source src) (s.latched.insert src)) := by
  have hact : inOrder (fun i t => State.bandAction t src i) allBands { s with latched := s.latched.insert src } =
      { s with latched := s.latched.insert src } :=
    inOrder_of_fixed fun i _ => by
      rw [State.bandAction, show ({ s with latched := s.latched.insert src } : State).bands[i] = none from hb i]
  have happly : ({ s with latched := s.latched.insert src } : State).applyIdleChanges =
      { s with latched := s.latched.insert src } :=
    inOrder_of_fixed fun i _ => applyPending_of_unstaged (by
      rw [show ({ s with latched := s.latched.insert src } : State).bands[i] = none from hb i]
      rfl)
  rw [State.latch, hsrc, if_neg Bool.false_ne_true]
  dsimp only
  rw [hact, happly]

/-- The first event of a class whose period is 1 is queued as its NOTICE (R166). -/
theorem report_of_first {s : State} {d : Detail} (h : s.classOf d.noticeClass = ClassState.reset 1) :
    s.report d = { s with
      classes := s.classes.set d.noticeClass.idx ⟨true, 0, 1, some ⟨s.linkTime, d⟩⟩
      noticeSlots := s.noticeSlots.set d.noticeClass.idx (some ⟨⟨s.linkTime, d⟩, 1⟩) } := by
  rw [report_of_fires s d (by rw [h]; exact ⟨by decide, by decide, rfl⟩), State.queueNotice, classOf_setClass_self, h]
  simp [State.setClass, ClassState.reported, ClassState.reset]

/-- Settles O5. -/
theorem porstReleaseFollowsTheLines : Obligations.PorstReleaseFollowsTheLines := by
  rintro s _ _ hline hon rfl rfl
  have hplock : s.plock = false := by rw [← hon]; rfl
  have hlatched : s.latched = SourceSet.empty := by rw [← hon]; rfl
  have hclass : s.classOf .trip = ClassState.reset 1 := by rw [← hon]; rfl
  have hbands := bands_of_powerOn hon
  refine ⟨fun h => congrArg Host.Outcome.next ?_, fun h => congrArg Host.Outcome.next ?_⟩
  · rw [State.releasePorst, if_pos hline, h, if_neg Bool.false_ne_true, ← hplock]
  · have hrelease : s.releasePorst =
        ({ s with porstLine := false, linkTime := 0, plock := s.plockLine, pfail := s.pfailLine } : State).latch
          .plock := by
      rw [State.releasePorst, if_pos hline, if_pos h]
    refine hrelease.trans ((latch_of_unused ?_ ?_).trans ?_)
    · dsimp only
      rw [hlatched]
      rfl
    · exact hbands
    · rw [report_of_first hclass]
      simp only [hlatched, h]
      rfl

end Sys2Proof.Machine

/-! PROOFS. Requests that no other block takes part in (R46, R91, R105, R156, R161 to R164, R166 to R169): what a
taken request answers, what the queries report, and how events are counted into notices and acknowledged. -/

namespace Sys2Proof.Machine

/-! ### A request that is taken -/

theorem request_front {c : Instr} (hc : isRequest c = true) (s : State) :
    frameLane c = .front ∧ s.takeable c = s.reservationFree := by
  cases c <;> simp_all [isRequest, frameLane, State.takeable]

theorem present_request {c : Instr} {s : State} (hc : isRequest c = true) (ht : s.TakesRequests) :
    s.present c = takeFrame c s := by
  obtain ⟨hlane, htake⟩ := request_front hc s
  exact present_of_takeable s c (hlane ▸ ht.1) (htake.trans (decide_eq_true ht.2))

theorem presentAndSettle_request {c : Instr} {s : State} (hc : isRequest c = true) (ht : s.TakesRequests)
    (hb : s.backHead = none) : s.presentAndSettle c = takeFrame c s := by
  obtain ⟨hlane, htake⟩ := request_front hc s
  exact presentAndSettle_of_takeable s c (hlane ▸ ht.1) (htake.trans (decide_eq_true ht.2))
    (frontHead_of_takesRequests ht) hb

/-- A request that no held frame waits for answers what its taking answers. -/
theorem exec_request {c : Instr} {s : State} (he : exec c s = .next (s.present c)) (hc : isRequest c = true)
    (ht : s.TakesRequests) : exec c s = .next (takeFrame c s) :=
  he.trans (congrArg _ (present_request hc ht))

/-- A request that a held frame may wait for answers what its taking answers, where none is held. -/
theorem exec_settled_request {c : Instr} {s : State} (he : exec c s = .next (s.presentAndSettle c))
    (hc : isRequest c = true) (ht : s.TakesRequests) (hb : s.backHead = none) : exec c s = .next (takeFrame c s) :=
  he.trans (congrArg _ (presentAndSettle_request hc ht hb))

/-- Settles O26. -/
theorem badRequestsChangeNothing : Obligations.BadRequestsChangeNothing := by
  refine ⟨fun s tag bs ht hb => ⟨exec_request rfl rfl ht, exec_request rfl rfl ht, exec_request rfl rfl ht,
    exec_settled_request rfl rfl ht hb, exec_settled_request rfl rfl ht hb, exec_request rfl rfl ht,
    exec_settled_request rfl rfl ht hb, exec_request rfl rfl ht, exec_request rfl rfl ht,
    exec_settled_request rfl rfl ht hb, exec_settled_request rfl rfl ht hb, exec_request rfl rfl ht,
    exec_request rfl rfl ht, exec_request rfl rfl ht, exec_request rfl rfl ht, exec_request rfl rfl ht,
    exec_request rfl rfl ht, exec_request rfl rfl ht⟩, fun s tag code rest ht => exec_request rfl rfl ht⟩

/-! ### SET-GRACE and GO-ONLINE -/

theorem exec_goOnline {s : State} {tag : Byte} (ht : s.TakesRequests) :
    exec (.goOnline tag (.fields ())) s = .next (takeGoOnline tag (.fields ()) s) := exec_request rfl rfl ht

/-- Settles O29. -/
theorem setGraceAndGoOnline : Obligations.SetGraceAndGoOnline := by
  refine ⟨fun s tag v ht => exec_request rfl rfl ht, fun s tag ht => ⟨fun hl => ?_, fun hl hw => ?_, fun hl hw => ?_⟩⟩
  · have hr : s.goOnlineRefusal = some .wrongState := by simp [State.goOnlineRefusal, firstFailing, hl]
    rw [exec_goOnline ht, takeGoOnline, hr]
    rfl
  · have hnone : (allWraps.any fun w => (s.wraps[w]).isLoaded) = false := by
      rw [List.any_eq_false]
      exact fun w _ => Bool.eq_false_iff.1 (hw w)
    have hr : s.goOnlineRefusal = some .noWrap := by simp [State.goOnlineRefusal, firstFailing, hl, hnone, -Fin.getElem_fin]
    rw [exec_goOnline ht, takeGoOnline, hr]
    rfl
  · obtain ⟨w, hw⟩ := hw
    have hany : (allWraps.any fun w => (s.wraps[w]).isLoaded) = true := List.any_eq_true.2 ⟨w, List.mem_finRange w, hw⟩
    have hr : s.goOnlineRefusal = none := by simp [State.goOnlineRefusal, firstFailing, hl, hany, -Fin.getElem_fin]
    rw [exec_goOnline ht, takeGoOnline, hr]
    rfl

/-! ### Queries -/

/-- A number byte names the item of that number, where it is in range. -/
theorem finOf_eq_some {n : Nat} (f : Byte) (k : Fin n) :
    (if h : f.toNat < n then some (⟨f.toNat, h⟩ : Fin n) else none) = some k ↔ k.val = f.toNat := by
  rw [Option.dite_none_right_eq_some]
  constructor
  · rintro ⟨_, hk⟩
    cases hk
    rfl
  · intro hk
    exact ⟨hk ▸ k.isLt, congrArg some (Fin.ext hk.symm)⟩

theorem finOf_eq_none {n : Nat} (f : Byte) :
    (if h : f.toNat < n then some (⟨f.toNat, h⟩ : Fin n) else none) = none ↔ n ≤ f.toNat := by
  simp only [dite_eq_right_iff, reduceCtorEq, imp_false, Nat.not_lt]

theorem bitByte_eq (b : Bool) (n : Nat) : bitByte b n = if b then 1#8 <<< n else 0 := rfl

theorem describeBinding_eq (v : Option Binding) (r : BandReport) : describeBinding v r = { r with
    bindingPresent := (match v with | none => r.bindingPresent | some _ => 1)
    slot := (match v with | none => r.slot | some x => slotByte x.slot)
    generation := (match v with | none => r.generation | some x => x.generation) } := by
  cases v <;> rfl

theorem describeSalt_eq (v : Option (BitVec 32)) (r : BandReport) : describeSalt v r = { r with
    saltPresent := (match v with | none => r.saltPresent | some _ => 1)
    salt := (match v with | none => r.salt | some x => x) } := by
  cases v <;> rfl

theorem describeMigration_eq (v : Option Migration) (r : BandReport) : describeMigration v r = { r with
    recordPresent := (match v with | none => r.recordPresent | some _ => 1)
    target := (match v with | none => r.target | some m => slotByte m.target)
    targetGeneration := (match v with | none => r.targetGeneration | some m => m.targetGeneration)
    w := (match v with | none => r.w | some m => BitVec.ofNat 64 m.w) } := by
  cases v <;> rfl

theorem describeWriter_eq (v : Option CtxId) (r : BandReport) : describeWriter v r = { r with
    writerPresent := (match v with | none => r.writerPresent | some _ => 1)
    writer := (match v with | none => r.writer | some id => BitVec.ofNat 8 id.val) } := by
  cases v <;> rfl

theorem extentDescribe_eq (e : Extent) (r : BandReport) : e.describe r = { r with
    format := (match e with | .base _ f _ => f.code | .locking _ _ _ => r.format)
    metaMode := (match e with | .base _ _ m => m.code | .locking _ _ _ => r.metaMode)
    extentA := (match e with | .base size _ _ => BitVec.ofNat 64 size | .locking _ first _ => BitVec.ofNat 64 first)
    extentB := (match e with | .base _ _ _ => r.extentB | .locking _ _ last => BitVec.ofNat 64 last) } := by
  cases e <;> rfl

/-- Settles O27. -/
theorem queriesReportTheState : Obligations.QueriesReportTheState := by
  refine ⟨fun f => ?operands, fun s tag f ht => ⟨fun k hk => ?slot, fun hk => ?noSlot, fun i hi hb => ?unused,
    fun i b hi hb => ?band, fun hi => ?noBand, fun id hid hc => ?free, fun id c hid hc => ?context, fun hid => ?noContext,
    ?status⟩⟩
  case operands =>
    exact ⟨fun k => finOf_eq_some f k, fun i => finOf_eq_some f i, fun id => finOf_eq_some f id, finOf_eq_none f,
      finOf_eq_none f, finOf_eq_none f⟩
  case slot =>
    rw [exec_request rfl rfl ht, takeFrame, takeQuerySlot, hk]
    dsimp only
    cases hs : (s.slots[k]).state <;> simp only [KeySlot.describe, hs] <;> rfl
  case noSlot =>
    rw [exec_request rfl rfl ht, takeFrame, takeQuerySlot, hk]
    rfl
  case unused =>
    rw [exec_request rfl rfl ht, takeFrame, takeQueryBand, hi]
    dsimp only
    rw [hb]
    refine congrArg (fun r => Host.Outcome.next (s.answered tag .queryBand .ok (.bandReport r))) ?_
    rw [describeBand, reportedNs]
    simp only [isBase, decide_eq_true_eq]
  case band =>
    rw [exec_request rfl rfl ht, takeFrame, takeQueryBand, hi]
    dsimp only
    rw [hb]
    refine congrArg (fun r => Host.Outcome.next (s.answered tag .queryBand .ok (.bandReport r))) ?_
    rw [describeBand, describeWriter_eq, describeMigration_eq, describeSalt_eq, describeBinding_eq, extentDescribe_eq]
    simp only [BandReport.mk.injEq, reportedNs, isBase, decide_eq_true_eq]
    refine ⟨by trivial, by trivial, ?format, ?mode, ?first, ?last, by trivial, by trivial, by trivial, by trivial,
      by trivial, by trivial, by trivial, ?action, ?pfail, by trivial, by trivial, by trivial, by trivial, by trivial,
      by trivial, by trivial, ?kind⟩
    case format => rcases b.fields.extent with ⟨_, f | _, _⟩ | _ <;> rfl
    case mode => rcases b.fields.extent with ⟨_, _, m | _⟩ | _ <;> rfl
    case first => cases b.fields.extent <;> rfl
    case last => cases b.fields.extent <;> rfl
    case action => cases b.fields.action <;> rfl
    case pfail => cases b.fields.pfail <;> rfl
    case kind => rcases b with ⟨_, _, _, _, _ | ⟨_ | _, _⟩⟩ <;> rfl
  case noBand =>
    rw [exec_request rfl rfl ht, takeFrame, takeQueryBand, hi]
    rfl
  case free =>
    rw [exec_request rfl rfl ht, takeFrame, takeQueryContext, hid]
    dsimp only
    rw [hc]
    rfl
  case context =>
    rw [exec_request rfl rfl ht, takeFrame, takeQueryContext, hid]
    dsimp only
    rw [hc]
    refine congrArg (fun r => Host.Outcome.next (s.answered tag .queryContext .ok (.context r))) ?_
    simp only [describeContext, ContextReport.mk.injEq]
    refine ⟨?state, ?dir, rfl, trivial, trivial, trivial, trivial, trivial, rfl, ?held, rfl, trivial⟩
    case state => cases c.progress <;> rfl
    case dir => cases c.dir <;> rfl
    case held => cases c.progress <;> rfl
  case noContext =>
    rw [exec_request rfl rfl ht, takeFrame, takeQueryContext, hid]
    rfl
  case status =>
    rw [exec_request rfl rfl ht, takeFrame, takeQueryStatus]
    refine congrArg (fun r => Host.Outcome.next (s.answered tag .queryStatus .ok (.status r))) ?_
    simp only [State.describeStatus, StatusReport.mk.injEq]
    refine ⟨?life, rfl, rfl, ?contexts, rfl, rfl, rfl, rfl⟩
    case life =>
      change s.life.code = _
      cases s.life <;> rfl
    refine congrArg (BitVec.ofNat 8) ((openWith_length s fun _ => true).trans (List.countP_congr fun id _ => ?_))
    unfold openHas
    cases s.contexts[id] <;> simp

/-! ### Events counted into notices -/

theorem counted_eq (c : ClassState) :
    c.counted = if c.counter < c.period then c.counter + 1 else c.counter := by
  unfold ClassState.counted
  split
  · rename_i h
    rw [h, if_neg (Nat.not_lt_zero _)]
  · rfl

theorem report_classOf_self (s : State) (d : Detail) : (s.report d).classOf d.noticeClass =
    if (s.classOf d.noticeClass).period ≠ 0 ∧ (s.classOf d.noticeClass).counted = (s.classOf d.noticeClass).period ∧
        (s.classOf d.noticeClass).flag = false then
      { flag := true, counter := 0, period := (s.classOf d.noticeClass).period, latest := some ⟨s.linkTime, d⟩ }
    else (s.classOf d.noticeClass).reported ⟨s.linkTime, d⟩ := by
  split
  · rename_i h
    rw [report_of_fires s d h, queueNotice_classOf_self, classOf_setClass_self]
    rfl
  · rename_i h
    rw [report_of_quiet s d h, classOf_setClass_self]

theorem report_noticeSlots (s : State) (d : Detail) : (s.report d).noticeSlots =
    if (s.classOf d.noticeClass).period ≠ 0 ∧ (s.classOf d.noticeClass).counted = (s.classOf d.noticeClass).period ∧
        (s.classOf d.noticeClass).flag = false then
      s.noticeSlots.set d.noticeClass.idx (some ⟨⟨s.linkTime, d⟩, (s.classOf d.noticeClass).period⟩)
    else s.noticeSlots := by
  split
  · rename_i h
    rw [report_of_fires s d h, State.queueNotice, classOf_setClass_self]
    rfl
  · rename_i h
    rw [report_of_quiet s d h]
    rfl

theorem report_latest (s : State) (d : Detail) :
    ((s.report d).classOf d.noticeClass).latest = some ⟨s.linkTime, d⟩ := by
  rw [report_classOf_self]
  split <;> rfl

theorem mem_all (k : NoticeClass) : k ∈ NoticeClass.all := by
  cases k <;> decide

theorem attn_iff (s : State) : s.attn = true ↔ s.porstLine = false ∧ ∃ k : NoticeClass, (s.classOf k).flag = true := by
  unfold State.attn
  rw [Bool.and_eq_true, Bool.not_eq_true', and_comm]
  refine and_congr Iff.rfl ?_
  rw [List.any_eq_true]
  constructor
  · rintro ⟨c, hc, hflag⟩
    obtain ⟨i, hi, rfl⟩ := Vector.getElem_of_mem (Vector.mem_toList_iff.1 hc)
    match i, hi with
    | 0, _ => exact ⟨.trip, hflag⟩
    | 1, _ => exact ⟨.keyfault, hflag⟩
    | 2, _ => exact ⟨.purge, hflag⟩
    | 3, _ => exact ⟨.migrate, hflag⟩
    | 4, _ => exact ⟨.discard, hflag⟩
  · rintro ⟨k, hflag⟩
    exact ⟨_, Vector.mem_toList_iff.2 (Vector.getElem_mem k.idx.isLt), hflag⟩

/-- Settles O30. -/
theorem eventsAreCountedIntoNotices : Obligations.EventsAreCountedIntoNotices := by
  refine ⟨?_, attn_iff⟩
  rintro s d c e n rfl rfl hn
  rw [← counted_eq] at hn
  subst hn
  exact ⟨report_classOf_self s d, report_noticeSlots s d, fun k hk => (report_other s d hk).1, report_frame s d⟩

/-! ### Acknowledgement -/

/-- A class with its slot: what an acknowledgement of the class reads and writes. -/
def State.notice (s : State) (k : NoticeClass) : ClassState × Option Notice := (s.classOf k, s.noticeSlots[k.idx])

theorem State.notice_of_sent {s : State} {k : NoticeClass} (h : s.noticeSlots[k.idx] = none) :
    s.notice k = (s.classOf k, none) := Prod.ext rfl h

/-- The acknowledgement of one class with its slot (R169). -/
def acknowledged (x : ClassState × Option Notice) : ClassState × Option Notice :=
  if x.1.flag = false ∨ x.2.isSome then x
  else
    match x.1.latest with
    | none => ({ x.1 with flag := false }, x.2)
    | some e =>
      if x.1.period ≠ 0 ∧ x.1.counter = x.1.period then
        ({ x.1 with flag := true, counter := 0 }, some ⟨e, x.1.period⟩)
      else ({ x.1 with flag := false }, x.2)

/-- A sent NOTICE of a class that has no full count: the flag is cleared. -/
theorem acknowledged_of_quiet {c : ClassState} (hflag : c.flag = true) (hc : ¬(c.period ≠ 0 ∧ c.counter = c.period)) :
    acknowledged (c, none) = ({ c with flag := false }, none) := by
  unfold acknowledged
  rw [if_neg (by simp [hflag])]
  dsimp only
  split
  · rfl
  · exact if_neg hc

/-- A sent NOTICE of a class that has a full count: its latest event is queued anew. -/
theorem acknowledged_of_due {c : ClassState} {e : NoticeEvent} (hflag : c.flag = true) (hp : c.period ≠ 0)
    (hc : c.counter = c.period) (he : c.latest = some e) :
    acknowledged (c, none) = ({ c with flag := true, counter := 0 }, some ⟨e, c.period⟩) := by
  unfold acknowledged
  rw [if_neg (by simp [hflag])]
  dsimp only
  rw [he]
  exact if_pos ⟨hp, hc⟩

theorem acknowledge_notice_self (s : State) (k : NoticeClass) :
    (s.acknowledge k).notice k = acknowledged (s.notice k) := by
  unfold State.acknowledge acknowledged State.notice
  dsimp only
  by_cases h : (s.classOf k).flag = false ∨ (s.noticeSlots[k.idx]).isSome = true
  · rw [if_pos h, if_pos h]
  · rw [if_neg h, if_neg h]
    cases (s.classOf k).latest with
    | none => exact Prod.ext (classOf_setClass_self _ _ _) rfl
    | some e =>
      dsimp only
      by_cases hc : (s.classOf k).period ≠ 0 ∧ (s.classOf k).counter = (s.classOf k).period
      · rw [if_pos hc, if_pos hc, queueNotice_classOf_self, queueNotice_slot_self, classOf_setClass_self]
      · rw [if_neg hc, if_neg hc]
        exact Prod.ext (classOf_setClass_self _ _ _) rfl

theorem acknowledge_notice_ne (s : State) {k j : NoticeClass} (h : k ≠ j) :
    (s.acknowledge k).notice j = s.notice j := by
  unfold State.acknowledge State.notice
  dsimp only
  split
  · rfl
  · split
    · rw [classOf_setClass_ne s _ h]
      rfl
    · split
      · rw [queueNotice_classOf_ne _ _ h, queueNotice_slot_ne _ _ h, classOf_setClass_ne s _ h]
        rfl
      · rw [classOf_setClass_ne s _ h]
        rfl

/-- A list of acknowledgements acknowledges each class of the list once. -/
theorem inOrder_acknowledge_notice {ks : List NoticeClass} (hn : ks.Nodup) (s : State) (k : NoticeClass) :
    (inOrder (fun k t => t.acknowledge k) ks s).notice k = if k ∈ ks then acknowledged (s.notice k) else s.notice k := by
  induction ks generalizing s with
  | nil => rfl
  | cons j ks ih =>
    obtain ⟨hj, hn⟩ := List.nodup_cons.1 hn
    rw [inOrder_cons, ih hn]
    by_cases hk : j = k
    · subst hk
      rw [if_neg hj, if_pos List.mem_cons_self, acknowledge_notice_self]
    · rw [acknowledge_notice_ne s hk]
      simp only [List.mem_cons, Ne.symm hk, false_or]

theorem inOrder_acknowledge_frame (ks : List NoticeClass) (s : State) :
    { inOrder (fun k t => t.acknowledge k) ks s with classes := s.classes, noticeSlots := s.noticeSlots } = s :=
  inOrder_induct (P := fun t => { t with classes := s.classes, noticeSlots := s.noticeSlots } = s) _ _ _
    (fun k _ t ht => by
      obtain ⟨_, _, h⟩ := acknowledge_frame t k
      rw [h]
      exact ht) rfl

/-- The mask of the classes with a flag: the bit of each class in its place, and no other bit (R169, 11.5). -/
theorem flaggedMask_bits (f0 f1 f2 f3 f4 : Bool) (n : Nat) :
    ((((((0 : Byte) + bitByte f0 0) + bitByte f1 1) + bitByte f2 2) + bitByte f3 3) + bitByte f4 4).getLsbD n =
      match n with
      | 0 => f0
      | 1 => f1
      | 2 => f2
      | 3 => f3
      | 4 => f4
      | _ => false := by
  by_cases hn : n < 8
  · have hall : ∀ (f0 f1 f2 f3 f4 : Bool) (n : Fin 8),
        ((((((0 : Byte) + bitByte f0 0) + bitByte f1 1) + bitByte f2 2) + bitByte f3 3) + bitByte f4 4).getLsbD n.val =
          match n.val with
          | 0 => f0
          | 1 => f1
          | 2 => f2
          | 3 => f3
          | 4 => f4
          | _ => false := by decide
    exact hall f0 f1 f2 f3 f4 ⟨n, hn⟩
  · rw [BitVec.getLsbD_of_ge _ _ (Nat.not_lt.1 hn)]
    split <;> simp_all

theorem classCodeOf_eq_some (b : Byte) (k : NoticeClass) : classCodeOf b = some k ↔ b.toNat = k.idx.val := by
  unfold classCodeOf
  split <;> cases k <;> simp_all [NoticeClass.idx]

/-- Settles O31. -/
theorem noticeRequests : Obligations.NoticeRequests := by
  refine ⟨fun b => ⟨fun k => ?code, ?noCode⟩, fun s => ?mask, fun s tag f ht => ⟨fun hk => ?noClass, fun k hk => ?period⟩,
    fun s tag mask ht => ⟨fun hm => ?badMask, fun hm => ?ack⟩⟩
  case code =>
    rw [classCodeOf_eq_some]
    cases k <;> rfl
  case noCode =>
    unfold classCodeOf
    split <;> simp_all
    omega
  case mask =>
    have h := flaggedMask_bits (s.classOf .trip).flag (s.classOf .keyfault).flag (s.classOf .purge).flag
      (s.classOf .migrate).flag (s.classOf .discard).flag
    refine ⟨h 0, h 1, h 2, h 3, h 4, fun n hn => (h n).trans ?_⟩
    split <;> first | rfl | omega
  case noClass =>
    rw [exec_request rfl rfl ht, takeFrame, takeNoticePeriod]
    dsimp only
    rw [hk]
    rfl
  case period =>
    rw [exec_request rfl rfl ht, takeFrame, takeNoticePeriod]
    dsimp only
    rw [hk]
    rfl
  case badMask =>
    rw [exec_request rfl rfl ht, takeFrame, takeNoticeAck]
    dsimp only
    rw [classMaskOf, if_neg (Nat.not_le.2 hm)]
    rfl
  case ack =>
    rw [exec_request rfl rfl ht, takeFrame, takeNoticeAck]
    dsimp only
    rw [classMaskOf, if_pos hm]
    refine ⟨_, rfl, congrArg (fun u : State => u.reply tag RequestCode.noticeAck.byte .ok (.noticeAck _))
      (inOrder_acknowledge_frame _ s.reserve), fun k => ?_⟩
    have hk : (inOrder (fun k t => State.acknowledge t k) (NoticeClass.all.filter fun k => mask.getLsbD k.idx.val)
        s.reserve).notice k = if mask.getLsbD k.idx.val = true then acknowledged (s.notice k) else s.notice k := by
      rw [inOrder_acknowledge_notice ((by decide : NoticeClass.all.Nodup).filter _)]
      simp only [List.mem_filter, mem_all, true_and]
      rfl
    obtain ⟨hclass, hslot⟩ := Prod.ext_iff.1 hk
    refine ⟨fun h => ?_, fun hbit hflag hslotNone => ⟨fun hc => ?_, fun e hp hc he => ?_⟩⟩
    · have hsame : (if mask.getLsbD k.idx.val = true then acknowledged (s.notice k) else s.notice k) = s.notice k := by
        split
        · rename_i hbit
          exact if_pos (h.resolve_left (Bool.eq_false_iff.not_left.2 hbit))
        · rfl
      rw [hsame] at hclass hslot
      exact ⟨hclass, hslot⟩
    · have hcleared := acknowledged_of_quiet hflag hc
      rw [if_pos hbit, State.notice_of_sent hslotNone, hcleared] at hclass hslot
      exact ⟨hclass, hslot⟩
    · have hqueued := acknowledged_of_due hflag hp hc he
      rw [if_pos hbit, State.notice_of_sent hslotNone, hqueued] at hclass hslot
      exact ⟨hclass, hslot⟩

end Sys2Proof.Machine

/-! PROOFS. Key slots under the work of the blocks, and time (R78, R100, R102, R162): a slot's own steps give what
every operation keeps of it, and a microsecond completes the loads and the purges that are due. -/

namespace Sys2Proof.Machine

/-! ### What the work of the blocks keeps of key slots -/

/-- What the ends of contexts and of purges keep of a slot. -/
structure SlotEnds (R : SlotId → KeySlot → Prop) : Prop where
  enter : ∀ k v kind, R k v → R k { v with holders := v.holders - 1, state := v.state.enter kind }
  erase : ∀ k v, v.isPurging = true → R k v → R k { v with holders := 0, state := .empty }

/-- What every step of a slot keeps of it: also the end of a load, the beginning of a purge, a grace set to 0, and a
failed parity check. -/
structure SlotKept (R : SlotId → KeySlot → Prop) : Prop extends SlotEnds R where
  abandon : ∀ k v l, v.state = .loading l → R k v → R k { v with state := .empty }
  start : ∀ k v m account, v.state = .ready m ∨ v.state = .poisoned m → R k v → R k { v with state := .purging m account }
  zero : ∀ k v m a, v.state = .purging m a → R k v → R k { v with state := .purging m { a with grace := 0 } }
  poison : ∀ k v, R k v → R k { v with state := v.state.poison }

/-- Every key slot has a property. -/
def State.Slots (R : SlotId → KeySlot → Prop) (s : State) : Prop := ∀ k : SlotId, R k s.slots[k]

section SlotKept

variable {R : SlotId → KeySlot → Prop}

theorem State.Slots.of_slots {s t : State} (hs : s.Slots R) (h : t.slots = s.slots) : t.Slots R := fun k => by
  rw [h]
  exact hs k

theorem State.Slots.setSlot {s : State} (hs : s.Slots R) {k : SlotId} {v : KeySlot} (hv : R k v) :
    (s.setSlot k v).Slots R := by
  intro j
  by_cases hj : k = j
  · subst hj
    rw [setSlot_get_self]
    exact hv
  · rw [setSlot_get_ne s _ hj]
    exact hs j

theorem State.Slots.endAs (hR : SlotEnds R) {s : State} (hs : s.Slots R) (kind : EndKind) (id : CtxId)
    (status : TransferStatus) : (s.endAs kind id status).Slots R := by
  cases hc : s.contexts[id] with
  | none =>
    rw [endAs_of_free hc]
    exact hs
  | some c =>
    intro k
    rw [endAs_slots_get hc]
    split
    · exact hR.enter k _ kind (hs k)
    · exact hs k

theorem State.Slots.endPurge (hR : SlotEnds R) {s : State} (hs : s.Slots R) (k : SlotId) : (s.endPurge k).Slots R := by
  intro j
  rw [endPurge_slots_get]
  split
  · rename_i h
    obtain ⟨rfl, hp⟩ := h
    exact hR.erase j _ hp (hs j)
  · exact hs j

theorem State.Slots.cutAll (hR : SlotEnds R) {s : State} (hs : s.Slots R) (status : TransferStatus) (ids : List CtxId) :
    (s.cutAll status ids).Slots R :=
  inOrder_induct (P := State.Slots R) _ _ _ (fun id _ _ ht => ht.endAs hR _ id status) hs

theorem State.Slots.settleCuts (hR : SlotEnds R) {s : State} (hs : s.Slots R) (deferred : Bool)
    (except : Option SlotId) : (s.settleCuts deferred except).Slots R := by
  refine inAnyOrder_induct (P := State.Slots R) _ _ _ (fun _ _ ht => ht) (fun k _ _ ht => ht.endPurge hR k) ?_
  split
  · exact hs
  · exact inOrder_induct (P := State.Slots R) _ _ _ (fun i _ t ht => ht.of_slots (applyPending_slots t i)) hs

theorem State.Slots.expire (hR : SlotEnds R) {s : State} (hs : s.Slots R) (deferred : Bool) (k : SlotId) :
    (s.expire deferred k).Slots R := by
  unfold State.expire
  split
  · exact ((hs.cutAll hR _ _).settleCuts hR _ _).endPurge hR k
  · exact hs

theorem State.Slots.expireSlot (hR : SlotEnds R) {s : State} (hs : s.Slots R) (k : SlotId) :
    (s.expireSlot k).Slots R := by
  unfold State.expireSlot
  split
  · exact hs.expire hR false k
  · exact hs

theorem slots_kept (hR : SlotKept R) : Kept (State.Slots R) where
  choices _ _ hs := hs
  report s d hs := hs.of_slots (report_slots s d)
  discards _ _ hs := hs
  latched _ _ hs := hs
  setWrap _ _ _ hs := hs
  endAs _ kind id status hs := hs.endAs hR.toSlotEnds kind id status
  applyPending s i hs := hs.of_slots (applyPending_slots s i)
  dropPending s i hs := hs.of_slots (dropPending_slots s i)
  abandonLoad s k hs := by
    unfold State.abandonLoad
    split
    · rename_i l hl
      exact State.Slots.of_slots (hs.setSlot (hR.abandon k _ l hl (hs k))) (payReply_slots _ _ _ _ _)
    · exact hs
  endPurge _ k _ hs := hs.endPurge hR.toSlotEnds k
  lockBand _ _ hs := hs
  startPurge s k m account _ hm hs :=
    State.Slots.of_slots (hs.setSlot (hR.start k _ m account hm (hs k))) (startPurge_slots s k m account)
  zeroGrace _ k m a hm hs := hs.setSlot (hR.zero k _ m a hm (hs k))
  poisonAndCut _ k hs := inAnyOrder_induct (P := State.Slots R) _ _ _ (fun _ _ ht => ht)
    (fun id _ _ ht => ht.endAs hR.toSlotEnds _ id _) (hs.setSlot (hR.poison k _ (hs k)))

end SlotKept

/-! ### The end of a load -/

/-- The state without what the end of a load reaches beside the blocks' work: the latched set and the wrap slots. -/
def State.rim (s : State) : State := { s.outside with latched := SourceSet.empty, wraps := State.reset.wraps }

theorem rim_of_outside {s t : State} (h : t.outside = s.outside) : t.rim = s.rim :=
  congrArg (fun u : State => { u with latched := SourceSet.empty, wraps := State.reset.wraps }) h

theorem latch_rim (s : State) (src : TripSource) : (s.latch src).rim = s.rim :=
  rim_of_outside (t := { s.latch src with latched := s.latched }) (latch_outside_latched s src)

theorem wrapFaultReply_rim (s : State) (owed : Option Byte) (generation : BitVec 16) :
    (s.wrapFaultReply owed generation).rim = s.rim := by
  have hpay : ∀ t : State, (t.payReply owed .keyLoad .wrapFault (.keyLoad 0 generation)).rim = t.rim :=
    fun t => rim_of_outside (payReply_outside t _ _ _ _)
  unfold State.wrapFaultReply
  dsimp only
  split
  · exact (hpay _).trans (latch_rim s _)
  · refine inAnyOrder_induct (P := fun t => t.rim = s.rim) _ _ _ (fun _ _ ht => ht) (fun first _ t ht => ?_) rfl
    split
    · exact (hpay t).trans ht
    · exact (latch_rim t _).trans ht

theorem completeLoad_rim (s : State) (k : SlotId) : (s.completeLoad k).rim = s.rim := by
  unfold State.completeLoad
  split
  · split
    · exact rim_of_outside (unwrapOutcome_outside _ _ _ _)
    · exact (rim_of_outside (report_outside _ _)).trans (wrapFaultReply_rim _ _ _)
  · rfl

/-- States with the same rim agree on the lines, the heads, the sendings, the control unit and the counters. -/
theorem sameLines_of_rim {s t : State} (h : t.rim = s.rim) : s.SameLines t ∧ s.SameControl t ∧
    t.discards = s.discards ∧ t.reservations = s.reservations :=
  ⟨⟨(congrArg State.porstLine h :), (congrArg State.linkrstLine h :), (congrArg State.plockLine h :),
    (congrArg State.pfailLine h :), (congrArg State.plock h :), (congrArg State.pfail h :),
    (congrArg State.frontOutHold h :), (congrArg State.backOutHold h :), (congrArg State.frontHead h :),
    (congrArg State.backHead h :), (congrArg State.frontSending h :), (congrArg State.backSending h :),
    (congrArg State.pending h :)⟩,
    ⟨(congrArg State.life h :), (congrArg State.linkTime h :), (congrArg State.graceSetting h :)⟩,
    (congrArg State.discards h :), (congrArg State.reservations h :)⟩

theorem linkTime_of_rim {s t : State} (h : t.rim = s.rim) : t.linkTime = s.linkTime := (congrArg State.linkTime h :)

theorem noHeads_of_rim {s t : State} (h : t.rim = s.rim) (hs : s.NoHeads) : t.NoHeads :=
  ⟨(congrArg State.frontHead h :).trans hs.1, (congrArg State.backHead h :).trans hs.2⟩

theorem settle_of_rim {s t : State} (h : t.rim = s.rim) (hs : s.NoHeads) : t.settle = t :=
  settle_of_noHeads t (noHeads_of_rim h hs).1 (noHeads_of_rim h hs).2

/-- The end of a load: its slot is empty or READY, and a reply, a faulty wrap slot, a latching and an event may
follow (R79, R80). -/
theorem completeLoad_elim {P : State → Prop} (hchoices : ∀ (t : State) n, P t → P { t with choices := n })
    (hreport : ∀ (t : State) d, P t → P (t.report d)) (hwrap : ∀ (t : State) w v, P t → P (t.setWrap w v))
    (hlatch : ∀ t : State, P t → P (t.latch .keyfault))
    (hreply : ∀ (t : State) tag code status result, P t → P (t.reply tag code status result)) {s : State} {k : SlotId}
    (hend : ∀ l, (s.slots[k]).state = .loading l → P (s.endLoad k))
    (hready : ∀ l g m, (s.slots[k]).state = .loading l →
      P (s.setSlot k { s.slots[k] with generation := g, state := .ready m }))
    (hidle : (∀ l, (s.slots[k]).state ≠ .loading l) → P s) : P (s.completeLoad k) := by
  have hpay : ∀ (t : State) owed code status result, P t → P (t.payReply owed code status result) := by
    intro t owed code status result ht
    cases owed with
    | none => exact ht
    | some tag => exact hreply t tag _ _ _ ht
  unfold State.completeLoad
  split
  · rename_i l hl
    split
    · unfold State.unwrapOutcome
      dsimp only
      split
      · exact hpay _ _ _ _ _ (hend l hl)
      · split
        · exact hpay _ _ _ _ _ (hend l hl)
        · exact hpay _ _ _ _ _ (hready l _ _ hl)
    · refine hreport _ _ ?_
      have hfault := hwrap _ l.wrapSlot (s.wraps[l.wrapSlot]).fault (hend l hl)
      unfold State.wrapFaultReply
      dsimp only
      split
      · exact hpay _ _ _ _ _ (hlatch _ hfault)
      · refine inAnyOrder_induct _ _ _ hchoices (fun first _ t ht => ?_) hfault
        split
        · exact hpay _ _ _ _ _ ht
        · exact hlatch _ ht
  · rename_i hl
    exact hidle hl

theorem Kept.completeLoad {P : State → Prop} (h : Kept P)
    (hreply : ∀ (t : State) tag code status result, P t → P (t.reply tag code status result)) {s : State} {k : SlotId}
    (hend : ∀ l, (s.slots[k]).state = .loading l → P (s.endLoad k))
    (hready : ∀ l g m, (s.slots[k]).state = .loading l →
      P (s.setSlot k { s.slots[k] with generation := g, state := .ready m }))
    (hidle : (∀ l, (s.slots[k]).state ≠ .loading l) → P s) : P (s.completeLoad k) :=
  completeLoad_elim h.choices h.report h.setWrap (fun t => h.latch t .keyfault) hreply hend hready hidle

/-! ### A microsecond -/

/-- An operation that gives each element of a list its property, and keeps what the others have. -/
theorem inAnyOrder_establish {α : Type} {P : State → Prop} {D : α → State → Prop} (f : α → State → State)
    (xs : List α) (s : State) (hc : ∀ (t : State) n, P t → P { t with choices := n })
    (hP : ∀ x ∈ xs, ∀ t, P t → P (f x t)) (hself : ∀ x ∈ xs, ∀ t, P t → D x (f x t))
    (hkeep : ∀ x ∈ xs, ∀ y t, P t → D y t → D y (f x t)) (hs : P s) :
    P (inAnyOrder f xs s) ∧ ∀ x ∈ xs, D x (inAnyOrder f xs s) := by
  obtain ⟨ys, n, hperm, heq⟩ := inAnyOrder_perm f xs s
  have hlist : ∀ (zs : List α) (t : State), (∀ z ∈ zs, z ∈ xs) → P t →
      P (inOrder f zs t) ∧ (∀ y, D y t → D y (inOrder f zs t)) ∧ ∀ z ∈ zs, D z (inOrder f zs t) := by
    intro zs
    induction zs with
    | nil => exact fun t _ ht => ⟨ht, fun _ h => h, nofun⟩
    | cons z zs ih =>
      intro t hz ht
      have hzx := hz z List.mem_cons_self
      obtain ⟨hp, hk, hd⟩ := ih (f z t) (fun y hy => hz y (List.mem_cons_of_mem _ hy)) (hP z hzx t ht)
      rw [inOrder_cons]
      refine ⟨hp, fun y hy => hk y (hkeep z hzx y t ht hy), fun y hy => ?_⟩
      obtain rfl | hy := List.mem_cons.1 hy
      · exact hk y (hself y hzx t ht)
      · exact hd y hy
  rw [heq]
  obtain ⟨hp, _, hd⟩ := hlist ys _ (fun y hy => hperm.mem_iff.1 hy) (hc s n hs)
  exact ⟨hp, fun x hx => hd x (hperm.mem_iff.2 hx)⟩

theorem eq_singleton_of_nodup {α : Type} {xs : List α} {a : α} (hn : xs.Nodup) (h : ∀ x, x ∈ xs ↔ x = a) :
    xs = [a] :=
  List.perm_singleton.1 ((List.perm_ext_iff_of_nodup hn (List.nodup_singleton a)).2 fun x => by
    rw [h, List.mem_singleton])

theorem microsecond_of_low {s : State} (h : s.porstLine = false) : s.microsecond =
    (inAnyOrder (fun k t => State.expireSlot t k)
      ((inAnyOrder (fun k t => (State.completeLoad t k).settle) s.unwrapsDue s).tick).expiriesDue
      ((inAnyOrder (fun k t => (State.completeLoad t k).settle) s.unwrapsDue s).tick)).settle := by
  rw [State.microsecond, h]
  rfl

/-- The unwraps that a microsecond completes, where no head stands: nothing is taken between them. -/
theorem unwraps_rim {s : State} (hs : s.NoHeads) (ks : List SlotId) :
    (inAnyOrder (fun k t => (State.completeLoad t k).settle) ks s).rim = s.rim :=
  inAnyOrder_induct (P := fun t => t.rim = s.rim) _ _ _ (fun _ _ ht => ht) (fun k _ t ht => by
    have hr := (completeLoad_rim t k).trans ht
    rw [settle_of_rim hr hs]
    exact hr) rfl

theorem expiries_outside (s : State) (ks : List SlotId) :
    (inAnyOrder (fun k t => State.expireSlot t k) ks s).outside = s.outside :=
  inAnyOrder_outside _ _ _ fun k _ t => expireSlot_outside t k

/-- A microsecond moves link time by 1, where time passes (R162). -/
theorem microsecond_linkTime {s : State} (hs : s.NoHeads) (hline : s.porstLine = false) :
    s.microsecond.linkTime = s.linkTime + 1 := by
  have hu := unwraps_rim hs s.unwrapsDue
  rw [microsecond_of_low hline]
  generalize inAnyOrder (fun k t => (State.completeLoad t k).settle) s.unwrapsDue s = u at hu
  have ho := expiries_outside u.tick u.tick.expiriesDue
  have hheads : u.NoHeads := noHeads_of_rim hu hs
  rw [settle_of_rim (rim_of_outside ho) hheads]
  refine (congrArg State.linkTime ho :).trans ?_
  exact congrArg (· + 1) (linkTime_of_rim hu)

theorem porstLine_of_takesRequests {s : State} (h : s.TakesRequests) : s.porstLine = false := by
  have hlane := h.1
  rw [State.holdLine, Bool.or_eq_false_iff] at hlane
  exact hlane.2

section Ended

variable {s : State} {id : CtxId} {c : Context} (h : s.contexts[id] = some c) (kind : EndKind) (status : TransferStatus)
include h

/-- The end of an open context appends its DONE (R42, R148). -/
theorem endAs_frontQueue : (s.endAs kind id status).frontQueue =
    s.frontQueue ++ [.done id status c.sectorsDone (s.linkTime - c.openTime)] := by
  unfold State.endAs
  rw [h]
  dsimp only
  split <;> rfl

/-- The end of an open write appends its END (R42, R149). -/
theorem endAs_backQueue : (s.endAs kind id status).backQueue =
    s.backQueue ++ if c.dir = .write then [.ended id status c.sectorsDone] else [] := by
  unfold State.endAs
  rw [h]
  dsimp only
  split
  · rfl
  · exact (List.append_nil _).symm

theorem endAs_donePlaces : (s.endAs kind id status).donePlaces = s.donePlaces.set id .filled := by
  unfold State.endAs
  rw [h]
  dsimp only
  split <;> rfl

theorem endAs_endPlaces : (s.endAs kind id status).endPlaces =
    if c.dir = .write then s.endPlaces.set id .filled else s.endPlaces := by
  unfold State.endAs
  rw [h]
  dsimp only
  split <;> rfl

end Ended

/-- Settles O28. -/
theorem timeSetLoadsLinkTime : Obligations.TimeSetLoadsLinkTime := by
  intro s tag v ht hb
  have hheads : s.NoHeads := ⟨frontHead_of_takesRequests ht, hb⟩
  have hline := porstLine_of_takesRequests ht
  refine ⟨_, exec_request rfl rfl ht, rfl, ⟨_, rfl, microsecond_linkTime hheads hline⟩, fun id c status hc => ?_,
    fun d => report_latest _ d⟩
  exact endAs_frontQueue (s := takeTimeSet tag (.fields v) s) hc _ status

theorem tick_expiryDue (s : State) (k : SlotId) : s.tick.expiryDue k = true ↔
    ∃ m a, (s.slots[k]).state = .purging m a ∧ a.grace ≤ 1 ∧ (s.slots[k]).holders ≠ 0 := by
  have hslot : s.tick.slots[k] = { s.slots[k] with state := (s.slots[k]).state.tick } := by simp [State.tick]
  unfold State.expiryDue
  rw [hslot]
  cases hs : (s.slots[k]).state with
  | purging m a =>
    simp only [SlotState.tick, Bool.and_eq_true, beq_iff_eq, bne_iff_ne]
    constructor
    · rintro ⟨hg, hh⟩
      exact ⟨m, a, rfl, by omega, hh⟩
    · rintro ⟨_, _, h, hg, hh⟩
      cases h
      exact ⟨by omega, hh⟩
  | _ => simp [SlotState.tick]

theorem mem_unwrapsDue {s : State} {k : SlotId} :
    k ∈ s.unwrapsDue ↔ ∃ l, (s.slots[k]).state = .loading l ∧ l.timeLeft ≤ 1 := by
  rw [State.unwrapsDue, List.mem_filter]
  cases (s.slots[k]).state <;> simp

theorem mem_expiriesDue {s : State} {k : SlotId} : k ∈ s.expiriesDue ↔ s.expiryDue k = true := by
  rw [State.expiriesDue, List.mem_filter]
  exact and_iff_right (List.mem_finRange k)

theorem unwrapsDue_eq_nil {s : State} (h : ∀ (k : SlotId) (l : Load), (s.slots[k]).state = .loading l → 1 < l.timeLeft) :
    s.unwrapsDue = [] := by
  refine List.eq_nil_iff_forall_not_mem.2 fun k hk => ?_
  obtain ⟨l, hl, hle⟩ := mem_unwrapsDue.1 hk
  exact absurd (h k l hl) (Nat.not_lt.2 hle)

theorem expiriesDue_eq_nil {s : State} (h : ∀ k, s.expiryDue k = false) : s.expiriesDue = [] :=
  List.eq_nil_iff_forall_not_mem.2 fun k hk => absurd (mem_expiriesDue.1 hk) (by rw [h k]; decide)

/-- The state one microsecond later, with the countdowns written out. -/
theorem tick_eq (s : State) : s.tick = { s with
    linkTime := s.linkTime + 1,
    slots := s.slots.map fun v => { v with state := match v.state with
      | .purging m a => .purging m { a with grace := a.grace - 1 }
      | .loading l => .loading { l with timeLeft := l.timeLeft - 1 }
      | other => other } } := by
  unfold State.tick
  congr 2
  funext v
  cases v.state <;> rfl

/-! ### What is due is done -/

/-- A slot loads only what it loaded before. -/
def loadsOf (s : State) (k : SlotId) (v : KeySlot) : Prop := ∀ l, v.state = .loading l → (s.slots[k]).state = .loading l

theorem loadsOf_kept (s : State) : SlotKept (loadsOf s) where
  enter k v kind h l hl := by
    refine h l ?_
    cases hv : v.state with
    | purging =>
      rw [hv] at hl
      cases kind <;> cases hl
    | _ => rwa [hv] at hl
  erase _ _ _ _ _ hl := nomatch hl
  abandon _ _ _ _ _ _ hl := nomatch hl
  start _ _ _ _ _ _ _ hl := nomatch hl
  zero _ _ _ _ _ _ _ hl := nomatch hl
  poison k v h l hl := by
    refine h l ?_
    cases hv : v.state with
    | ready =>
      rw [hv] at hl
      cases hl
    | _ => rwa [hv] at hl

/-- A slot does not load any more. -/
def loadedAt (k j : SlotId) (v : KeySlot) : Prop := j = k → ∀ l, v.state ≠ .loading l

theorem completeLoad_loadsOf (s : State) (k : SlotId) : (s.completeLoad k).Slots (loadsOf s) := by
  have hself : s.Slots (loadsOf s) := fun _ _ h => h
  exact (slots_kept (loadsOf_kept s)).completeLoad (fun _ _ _ _ _ ht => ht)
    (fun l hl => hself.setSlot fun _ h => nomatch h) (fun l g m hl => hself.setSlot fun _ h => nomatch h) fun _ => hself

end Sys2Proof.Machine

/-! PROOFS. Lines and sending (R134, R136, R137, R139, R144, R151, R152): which frame a lane begins to send, what its
completion frees, what the edges of the lines change, and the requests of the latched set. -/

namespace Sys2Proof.Machine

/-! ### The beginning of a sending -/

theorem startSending_front_of_stopped {s : State} (h : (s.frontSending.isSome || s.sendStopped .front) = true) :
    s.startSending .front = s := if_pos h

theorem startSending_front_of_free {s : State} (hs : s.frontSending = none) (h : s.sendStopped .front = false) :
    s.startSending .front = { s with frontSending := s.frontChoice } := by
  rw [State.startSending, h, hs]
  rfl

theorem sendStopped_front_of_free {s : State} (hl : s.linkrstLine = false) (hp : s.porstLine = false)
    (ho : s.frontOutHold = false) : s.sendStopped .front = false := by
  rw [State.sendStopped, State.outHold, ho, hl, hp]
  rfl

/-- A filled notice slot with none of a higher class filled is the one chosen (R151). -/
theorem find?_highest {p : NoticeClass → Bool} {k : NoticeClass} (hk : p k = true)
    (h : ∀ j : NoticeClass, j.idx < k.idx → p j = false) : NoticeClass.all.find? p = some k := by
  have hall : NoticeClass.all = [.trip, .keyfault, .purge, .migrate, .discard] := rfl
  rw [hall]
  cases k with
  | trip => simp [hk]
  | keyfault => simp [hk, h .trip (by decide)]
  | purge => simp [hk, h .trip (by decide), h .keyfault (by decide)]
  | migrate => simp [hk, h .trip (by decide), h .keyfault (by decide), h .purge (by decide)]
  | discard => simp [hk, h .trip (by decide), h .keyfault (by decide), h .purge (by decide), h .migrate (by decide)]

theorem frontChoice_of_notice {s : State} {k : NoticeClass} (hk : (s.noticeSlots[k.idx]).isSome = true)
    (h : ∀ j : NoticeClass, j.idx < k.idx → s.noticeSlots[j.idx] = none) : s.frontChoice = some (.notice k) := by
  have hfind : (NoticeClass.all.find? fun k => (s.noticeSlots[k.idx]).isSome) = some k :=
    find?_highest (p := fun j => (s.noticeSlots[j.idx]).isSome) hk fun j hj => by rw [h j hj]; rfl
  rw [State.frontChoice, hfind]

theorem frontChoice_of_sent {s : State} (h : ∀ k : NoticeClass, s.noticeSlots[k.idx] = none) : s.frontChoice =
    if !s.replies.isEmpty then some .reply else if !s.frontQueue.isEmpty then some .data else none := by
  have hfind : (NoticeClass.all.find? fun k => (s.noticeSlots[k.idx]).isSome) = none :=
    List.find?_eq_none.2 fun k _ => by rw [h k]; exact Bool.false_ne_true
  rw [State.frontChoice, hfind]

/-- Settles O47. -/
theorem sendingChoosesByPriority : Obligations.SendingChoosesByPriority := by
  refine fun s => ⟨fun h => congrArg Host.Outcome.next ?frontStopped, fun h => congrArg Host.Outcome.next ?backStopped,
    fun hl hp hs ho => ?front, fun hl hp hs ho => congrArg Host.Outcome.next ?back⟩
  case frontStopped =>
    exact startSending_front_of_stopped (by simpa [State.sendStopped, State.outHold, or_assoc] using h)
  case backStopped =>
    exact if_pos (by simpa [State.sendStopped, State.outHold, or_assoc] using h)
  case front =>
    have hstart := startSending_front_of_free hs (sendStopped_front_of_free hl hp ho)
    refine ⟨fun k hk hj => congrArg Host.Outcome.next ?_, fun hn => ⟨fun hr => congrArg Host.Outcome.next ?_,
      fun hr hq => congrArg Host.Outcome.next ?_, fun hr hq => congrArg Host.Outcome.next ?_⟩⟩
    · rw [hstart, frontChoice_of_notice hk hj]
    · rw [hstart, frontChoice_of_sent hn, if_pos (by simpa using hr)]
    · rw [hstart, frontChoice_of_sent hn, hr, if_neg (by simp), if_pos (by simpa using hq)]
    · have hchoice : s.frontChoice = s.frontSending := by rw [frontChoice_of_sent hn, hr, hq, hs]; rfl
      rw [hstart, hchoice]
  case back =>
    refine if_neg ?_
    simp [State.sendStopped, State.outHold, hs, ho, hl, hp]

/-! ### The completion of a sending -/

/-- Settles O48. -/
theorem sentFramesFreeTheirPlace : Obligations.SentFramesFreeTheirPlace := by
  intro s hf hb
  have hfree : ∀ t : State, t.NoHeads → t.settle = t := fun t ht => settle_of_noHeads t ht.1 ht.2
  refine ⟨fun h => congrArg Host.Outcome.next ?_, fun h => congrArg Host.Outcome.next ?_,
    fun k h => congrArg Host.Outcome.next ?_, fun r rest h hr => congrArg Host.Outcome.next ?_,
    fun e rest h hq => congrArg Host.Outcome.next ?_, fun e rest h hq => congrArg Host.Outcome.next ?_⟩
  · rw [State.completeSending, h]
  · rw [State.completeSending, h, if_neg Bool.false_ne_true]
  · rw [State.completeSending, h]
    exact hfree _ ⟨hf, hb⟩
  · rw [State.completeSending, h]
    dsimp only [State.freeFront]
    rw [hr]
    exact hfree _ ⟨hf, hb⟩
  · rw [State.completeSending, h]
    dsimp only [State.freeFront]
    rw [State.popFront]
    dsimp only
    rw [hq]
    cases e <;> exact hfree _ ⟨hf, hb⟩
  · rw [State.completeSending, if_pos h, State.popBack]
    dsimp only
    rw [hq]
    cases e <;> exact hfree _ ⟨hf, hb⟩

/-! ### The edges of the lines -/

/-- What a report does to the notice unit depends on the notice unit and on link time alone (R166). -/
theorem report_sameNotices {s t : State} (h : s.SameNotices t) (ht : t.linkTime = s.linkTime) (d : Detail) :
    (s.report d).SameNotices (t.report d) := by
  obtain ⟨hc, hn⟩ := h
  have hclass : t.classOf d.noticeClass = s.classOf d.noticeClass := by rw [State.classOf, hc]; rfl
  unfold State.report
  dsimp only
  rw [hclass, ht]
  split
  · simp [State.SameNotices, State.queueNotice, State.setClass, State.classOf, hc, hn]
  · simp [State.SameNotices, State.setClass, hc, hn]

theorem assertPlock_of_edge {s : State} (h : s.plockLine = false) (hp : s.porstLine = false) :
    s.assertPlock = ({ s with plockLine := true, plock := true } : State).latch .plock := by
  rw [State.assertPlock, if_neg (Bool.eq_false_iff.1 h), if_neg (Bool.eq_false_iff.1 hp)]

theorem assertPfail_of_edge {s : State} (h : s.pfailLine = false) (hp : s.porstLine = false) :
    s.assertPfail = ({ s with pfailLine := true, pfail := true } : State).report (.trip .pfail s.latched) := by
  rw [State.assertPfail, if_neg (Bool.eq_false_iff.1 h), if_neg (Bool.eq_false_iff.1 hp)]

/-- Settles O45. -/
theorem linesActOnTheirEdges : Obligations.LinesActOnTheirEdges := by
  refine ⟨fun s hf hb hp => ⟨fun h => congrArg Host.Outcome.next ?asserted, fun h hl => congrArg Host.Outcome.next ?latched,
    fun h hl => congrArg Host.Outcome.next ?latch⟩, fun s hp h => ?pfail, fun s level => ⟨rfl, rfl, rfl, rfl, rfl⟩⟩
  case asserted =>
    rw [State.assertPlock, if_pos h]
    exact settle_of_noHeads s hf hb
  case latched =>
    rw [assertPlock_of_edge h hp, latch_of_has { s with plockLine := true, plock := true } .plock hl]
    exact settle_of_noHeads _ hf hb
  case latch =>
    rw [assertPlock_of_edge h hp]
    exact settle_of_rim (latch_rim _ _) ⟨hf, hb⟩
  case pfail =>
    have hframe := report_frame { s with pfailLine := true, pfail := true } (.trip .pfail s.latched)
    refine ⟨_, congrArg Host.Outcome.next (assertPfail_of_edge h hp), ?_, ?_, report_latest _ (.trip .pfail s.latched),
      report_sameNotices (s := s) (t := { s with pfailLine := true, pfail := true }) ⟨rfl, rfl⟩ rfl _, fun k hk => (report_other _ (.trip .pfail s.latched) hk).1, ?_⟩
    · exact (congrArg State.pfail hframe :)
    · exact (congrArg State.pfailLine hframe :)
    · exact congrArg (fun u : State => { u with pfail := s.pfail, pfailLine := s.pfailLine }) hframe

/-! ### TRIP-FORCE and TRIP-CLEAR -/

theorem sourceSetOf_eq (f : Byte) : sourceSetOf f =
    if f.toNat ≤ 7 then some ⟨f.getLsbD 0, f.getLsbD 1, f.getLsbD 2⟩ else none := rfl

/-- Settles O46. -/
theorem tripForceAndTripClear : Obligations.TripForceAndTripClear := by
  refine ⟨fun s tag ht hb => ⟨fun h => ?already, fun h => ?latches⟩, ?clear⟩
  case already =>
    rw [exec_settled_request rfl rfl ht hb, takeFrame, takeTripForce]
    rw [latch_of_has s.reserve .soft h]
    rfl
  case latches =>
    have hset : (s.reserve.latch .soft).latched = { s.latched with soft := true } := latch_latched s.reserve .soft
    obtain ⟨hlines, hcontrol, hdiscards, hres⟩ := sameLines_of_rim (latch_rim s.reserve .soft)
    refine ⟨_, _, exec_settled_request rfl rfl ht hb, rfl, ?_, hset, ?_, hres, hlines, hcontrol, ?_, hdiscards⟩
    · simp only [takeFrame, takeTripForce, hset]
      rfl
    · simp only [takeFrame, takeTripForce, hset]
      exact List.getLast?_concat
    · exact (congrArg State.wraps (latch_outside_latched s.reserve .soft) :)
  case clear =>
    rintro s tag f _ ht rfl
    refine ⟨fun h => ?_, fun h hbit hp => ?_, fun h hp => ?_⟩
    · rw [exec_request rfl rfl ht, takeFrame, takeTripClear]
      dsimp only
      rw [sourceSetOf_eq, if_neg (Nat.not_le.2 h)]
      rfl
    · rw [exec_request rfl rfl ht, takeFrame, takeTripClear]
      dsimp only
      rw [sourceSetOf_eq, if_pos h]
      dsimp only
      rw [hbit, hp]
      rfl
    · have hpass : (f.getLsbD 0 && s.plock) = false := by
        rw [Bool.and_eq_false_iff]
        exact hp
      rw [exec_request rfl rfl ht, takeFrame, takeTripClear]
      dsimp only
      rw [sourceSetOf_eq, if_pos h]
      dsimp only [firstFailing]
      rw [hpass]
      rfl

end Sys2Proof.Machine

/-! PROOFS. BAND-LOCK (R67, R68), the wrap and key loads (R74 to R77, R82), and discarded frames (R46, R145): what a
taken frame does where no context ends. -/

namespace Sys2Proof.Machine

/-! ### BAND-LOCK -/

theorem locksOf_eq_none (b : Byte) : locksOf b = none ↔ 3 < b.toNat := by
  unfold locksOf
  split <;> simp <;> omega

theorem gateHolds_iff (s : State) (mask : SourceSet) : s.gateHolds mask = true ↔
    (mask.plock = true ∧ s.latched.plock = true) ∨ (mask.soft = true ∧ s.latched.soft = true) ∨
    (mask.keyfault = true ∧ s.latched.keyfault = true) := by
  simp only [State.gateHolds, SourceSet.meets, Bool.or_eq_true, Bool.and_eq_true, or_assoc]

theorem clears_iff (f : BandFields) (read write : Bool) : f.clears read write = true ↔
    (f.readLock = true ∧ read = false) ∨ (f.writeLock = true ∧ write = false) := by
  simp only [BandFields.clears, Bool.or_eq_true, Bool.and_eq_true, Bool.not_eq_true']

theorem withLocks_pending (p : Option Pending) (gated read write : Bool) :
    (p.map fun p => p.withLocks gated read write) = match p with
      | some ⟨.bandSet (some g), owed⟩ => some ⟨.bandSet (some { g with
          readLock := read || (gated && g.readLock), writeLock := write || (gated && g.writeLock) }), owed⟩
      | other => other := by
  rcases p with _ | ⟨new | _, owed⟩
  case some.bandSet => cases new <;> rfl
  all_goals rfl

/-- Settles O40. -/
theorem bandLockSetsTheLocks : Obligations.BandLockSetsTheLocks := by
  refine ⟨fun b => ⟨locksOf_eq_none b, fun h => if_pos h⟩, gateHolds_iff, fun s tag f ht => ⟨fun h => ?badRequest,
    fun i read write hi hlocks => ⟨fun hb => ?noBand, fun b hb => ⟨fun hg hc => ?tripped, fun h => ?locked⟩⟩⟩⟩
  case badRequest =>
    rw [exec_request rfl rfl ht, takeFrame, takeBandLock]
    dsimp only
    obtain h | h := h
    · rw [h]
      rfl
    · rw [h]
      cases bandOf f.band <;> rfl
  case noBand =>
    rw [exec_request rfl rfl ht, takeFrame, takeBandLock]
    dsimp only
    rw [hi, hlocks]
    dsimp only
    rw [hb]
    rfl
  case tripped =>
    rw [exec_request rfl rfl ht, takeFrame, takeBandLock]
    dsimp only
    rw [hi, hlocks]
    dsimp only
    rw [hb]
    dsimp only
    rw [hg, (clears_iff _ _ _).2 hc]
    rfl
  case locked =>
    have hpass : (s.gateHolds b.fields.tripMask && b.fields.clears read write) = false := by
      rw [Bool.eq_false_iff, Ne, Bool.and_eq_true, clears_iff]
      rintro ⟨hg, hc⟩
      rw [hg] at h
      simp only [Bool.true_eq_false, false_or] at h
      obtain ⟨hr, hw⟩ := h
      obtain ⟨h1, h2⟩ | ⟨h1, h2⟩ := hc
      · exact Bool.false_ne_true (h2.symm.trans (hr h1))
      · exact Bool.false_ne_true (h2.symm.trans (hw h1))
    rw [exec_request rfl rfl ht, takeFrame, takeBandLock]
    dsimp only
    rw [hi, hlocks]
    dsimp only
    rw [hb]
    dsimp only [firstFailing]
    rw [hpass, if_neg Bool.false_ne_true]
    dsimp only
    rw [Band.withLocks, withLocks_pending]
    rfl

/-! ### WRAP-LOAD and KEY-LOAD -/

theorem wrapInUse_iff (s : State) (w : WrapId) : s.wrapInUse w = true ↔
    ∃ (k : SlotId) (l : Load), (s.slots[k]).state = .loading l ∧ l.wrapSlot = w := by
  unfold State.wrapInUse
  rw [List.any_eq_true]
  constructor
  · rintro ⟨k, _, hk⟩
    split at hk
    · rename_i l hl
      exact ⟨k, l, hl, beq_iff_eq.1 hk⟩
    · exact absurd hk Bool.false_ne_true
  · rintro ⟨k, l, hl, hw⟩
    refine ⟨k, List.mem_finRange k, ?_⟩
    rw [hl]
    exact beq_iff_eq.2 hw

theorem isLoading_iff (v : KeySlot) : v.isLoading = true ↔ ∃ l, v.state = .loading l := by
  unfold KeySlot.isLoading
  cases v.state <;> simp

theorem bankBusy_iff (s : State) (k : SlotId) : s.bankBusy (bankOf k) = true ↔
    ∃ (j : SlotId) (l : Load), (s.slots[j]).state = .loading l ∧ j.val % 2 = k.val % 2 := by
  unfold State.bankBusy
  simp only [List.any_eq_true, Bool.and_eq_true, beq_iff_eq, isLoading_iff, bankOf, Fin.mk.injEq]
  constructor
  · rintro ⟨j, _, hbank, l, hl⟩
    exact ⟨j, l, hl, hbank⟩
  · rintro ⟨j, l, hl, hbank⟩
    exact ⟨j, List.mem_finRange j, hbank, l, hl⟩

theorem keyLoadRefusal_of_notEmpty {s : State} {k : SlotId} {w : WrapId} (h : (s.slots[k]).isEmpty = false) :
    s.keyLoadRefusal k w = some .slotBusy := by
  simp only [State.keyLoadRefusal, firstFailing, h, Bool.not_false, if_true]

theorem keyLoadRefusal_of_notLoaded {s : State} {k : SlotId} {w : WrapId} (h : (s.slots[k]).isEmpty = true)
    (hw : (s.wraps[w]).isLoaded = false) : s.keyLoadRefusal k w = some .noWrap := by
  simp only [State.keyLoadRefusal, firstFailing, h, hw, Bool.not_false, Bool.not_true, if_true, Bool.false_eq_true, if_false]

theorem keyLoadRefusal_of_loaded {s : State} {k : SlotId} {w : WrapId} (h : (s.slots[k]).isEmpty = true)
    (hw : (s.wraps[w]).isLoaded = true) :
    s.keyLoadRefusal k w = if s.bankBusy (bankOf k) = true then some .bankBusy else none := by
  simp only [State.keyLoadRefusal, firstFailing, h, hw, Bool.not_true, Bool.false_eq_true, if_false]

/-- Settles O32. -/
theorem wrapLoadAndKeyLoad : Obligations.WrapLoadAndKeyLoad := by
  refine ⟨fun b => ⟨fun w => finOf_eq_some b w, (finOf_eq_none b).trans Nat.lt_iff_add_one_le.symm⟩, wrapInUse_iff, bankBusy_iff,
    fun s tag f ht => ⟨fun hw => ?badWrap, fun w hw => ⟨fun hl => ?online, fun hl hu => ?inUse, fun hl hu => ?load⟩⟩,
    fun s tag f ht => ⟨fun h => ?badSlot, fun k w hk hw => ⟨fun he => ?busy, fun he hl => ?noWrap,
      fun words he hl => ⟨fun hb => ?bankBusy, fun hb => ?start⟩⟩⟩⟩
  case badWrap =>
    rw [exec_request rfl rfl ht, takeFrame, takeWrapLoad]
    dsimp only
    rw [hw]
    rfl
  case online =>
    have hr : s.wrapLoadRefusal w = some .wrongState := by simp [State.wrapLoadRefusal, firstFailing, hl]
    rw [exec_request rfl rfl ht, takeFrame, takeWrapLoad]
    dsimp only
    rw [hw]
    dsimp only
    rw [hr]
    rfl
  case inUse =>
    have hr : s.wrapLoadRefusal w = some .busy := by simp [State.wrapLoadRefusal, firstFailing, hl, hu]
    rw [exec_request rfl rfl ht, takeFrame, takeWrapLoad]
    dsimp only
    rw [hw]
    dsimp only
    rw [hr]
    rfl
  case load =>
    have hr : s.wrapLoadRefusal w = none := by simp [State.wrapLoadRefusal, firstFailing, hl, hu]
    rw [exec_request rfl rfl ht, takeFrame, takeWrapLoad]
    dsimp only
    rw [hw]
    dsimp only
    rw [hr]
    rfl
  case badSlot =>
    rw [exec_request rfl rfl ht, takeFrame, takeKeyLoad]
    dsimp only
    obtain h | h := h
    · rw [h]
      rfl
    · rw [h]
      cases slotOf f.keySlot <;> rfl
  case busy =>
    rw [exec_request rfl rfl ht, takeFrame, takeKeyLoad]
    dsimp only
    rw [hk, hw]
    dsimp only
    rw [keyLoadRefusal_of_notEmpty he]
    rfl
  case noWrap =>
    rw [exec_request rfl rfl ht, takeFrame, takeKeyLoad]
    dsimp only
    rw [hk, hw]
    dsimp only
    rw [keyLoadRefusal_of_notLoaded he hl]
    rfl
  case bankBusy =>
    rw [exec_request rfl rfl ht, takeFrame, takeKeyLoad]
    dsimp only
    rw [hk, hw]
    dsimp only
    rw [keyLoadRefusal_of_loaded he (by rw [hl]; rfl), if_pos hb]
    rfl
  case start =>
    have hstate : (s.startLoad k w words f.blob tag).slots[k] =
        { s.slots[k] with state := .loading ⟨w, words, f.blob, some tag, 40⟩ } := setSlot_get_self s k _
    refine ⟨{ s with
        reservations := s.reservations + 1,
        slots := s.slots.set k { s.slots[k] with state := .loading ⟨w, words, f.blob, some tag, 40⟩ } }, ?_,
      (bankBusy_iff _ k).2 ⟨k, _, congrArg KeySlot.state hstate, rfl⟩,
      (wrapInUse_iff _ w).2 ⟨k, _, congrArg KeySlot.state hstate, rfl⟩, rfl⟩
    rw [exec_request rfl rfl ht, takeFrame, takeKeyLoad]
    dsimp only
    rw [hk, hw]
    dsimp only
    rw [keyLoadRefusal_of_loaded he (by rw [hl]; rfl), if_neg (Bool.eq_false_iff.1 hb)]
    dsimp only
    rw [hl]
    rfl

/-! ### Discards -/

theorem discard_discarded (s : State) (kind : DiscardKind) (ctx : Option CtxId) :
    s.Discarded (s.discard kind ctx) kind ctx := by
  have hframe := report_frame { s with discards := raised s.discards } (.discard kind ctx (raised s.discards))
  have hcount : (s.discard kind ctx).discards = raised s.discards := (congrArg State.discards hframe :)
  have hother := fun (k : NoticeClass) hk =>
    report_other { s with discards := raised s.discards } (.discard kind ctx (raised s.discards)) (k := k) hk
  refine ⟨hcount, ?_, ?_, hother, ?_⟩
  · rw [hcount]
    exact report_latest { s with discards := raised s.discards } (.discard kind ctx (raised s.discards))
  · rw [hcount]
    exact report_sameNotices (s := s) (t := { s with discards := raised s.discards }) ⟨rfl, rfl⟩ rfl _
  · exact congrArg (fun u : State => { u with discards := s.discards }) hframe

/-- Lanes that are not held have no frame at their heads. -/
theorem noHeads_of_holdLine {s : State} (hf : s.holdLine .front = false) (hb : s.holdLine .back = false) :
    s.NoHeads := by
  simp only [State.holdLine, Bool.or_eq_false_iff] at hf hb
  exact ⟨Option.not_isSome_iff_eq_none.1 (Bool.eq_false_iff.1 hf.1.1),
    Option.not_isSome_iff_eq_none.1 (Bool.eq_false_iff.1 hb.1.1)⟩

theorem holdLine_of_lanes {s : State} (hf : s.holdLine .front = false) (hb : s.holdLine .back = false)
    (lane : InLane) : s.holdLine lane = false := by
  cases lane
  · exact hf
  · exact hb

/-- A DATA frame that can be taken, with no frame held, is taken. -/
theorem exec_data {s : State} {lane : InLane} {ctx : Byte} {bytes : List Byte} (hf : s.holdLine .front = false)
    (hb : s.holdLine .back = false) (ht : s.dataTakeable lane ctx bytes.length = true) :
    exec (.data lane ctx bytes) s = .next (takeData lane ctx bytes s) :=
  congrArg Host.Outcome.next (presentAndSettle_of_takeable s (.data lane ctx bytes) (holdLine_of_lanes hf hb lane) ht
    (noHeads_of_holdLine hf hb).1 (noHeads_of_holdLine hf hb).2)

/-- A fragment of an open context of its lane's direction, with a free place and no busy bank in its way. -/
theorem dataTakeable_of_free {s : State} {lane : InLane} {ctx : Byte} {len : Nat}
    (hp : s.pairedPlaceFree lane = true) (hbank : s.needsBusyBank lane ctx len = false) :
    s.dataTakeable lane ctx len = true := by
  rw [State.dataTakeable, hp, hbank]
  exact Bool.or_true _

theorem needsBusyBank_of_free {s : State} {lane : InLane} {ctx : Byte} {id : CtxId} {len : Nat}
    (hid : ctxOf ctx = some id) (h : s.contexts[id] = none) : s.needsBusyBank lane ctx len = false := by
  rw [State.needsBusyBank, hid, Option.bind_some, h]

theorem needsBusyBank_of_open {s : State} {lane : InLane} {ctx : Byte} {id : CtxId} {len : Nat} {c : Context}
    (hid : ctxOf ctx = some id) (h : s.contexts[id] = some c) : s.needsBusyBank lane ctx len =
      (decide (c.dir = laneDir lane) && (c.startingLbas len).any fun lba => s.bankBusy (bankOf (s.slotFor c lba))) := by
  rw [State.needsBusyBank, hid, Option.bind_some, h]

theorem takeData_of_fragment {s : State} {lane : InLane} {ctx : Byte} {id : CtxId} {bytes : List Byte}
    (hid : ctxOf ctx = some id) (hne : bytes ≠ []) (hlen : bytes.length ≤ 2048) : takeData lane ctx bytes s =
      match s.contexts[id] with
      | none => s.discard .stray (some id)
      | some c => if c.dir = laneDir lane then s.processFragment id c bytes else s.discard .wrongLane (some id) := by
  rw [takeData, hid]
  dsimp only
  rw [if_neg (Nat.not_lt.2 hlen), if_neg (by simpa using hne)] <;> rfl

/-- Settles O24. -/
theorem discardedFramesAreCounted : Obligations.DiscardedFramesAreCounted := by
  refine ⟨fun s lane ctx id bytes hid hf hb => ⟨?_, fun hne hlen hp => ⟨fun hc => ?_, fun c hc hd => ?_⟩⟩,
    fun s lane frame hl => ⟨_, ?_, discard_discarded s .malformed (malformedCtx frame)⟩⟩
  · rw [exec_data hf hb (by simp [State.dataTakeable]), takeData, hid]
    rfl
  · refine ⟨_, ?_, discard_discarded s .stray (some id)⟩
    rw [exec_data hf hb (dataTakeable_of_free hp (needsBusyBank_of_free hid hc)), takeData_of_fragment hid hne hlen, hc]
  · refine ⟨_, ?_, discard_discarded s .wrongLane (some id)⟩
    have hbank : s.needsBusyBank lane ctx bytes.length = false := by
      rw [needsBusyBank_of_open hid hc, decide_eq_false hd]
      rfl
    rw [exec_data hf hb (dataTakeable_of_free hp hbank), takeData_of_fragment hid hne hlen, hc]
    exact congrArg Host.Outcome.next (if_neg hd)
  · exact congrArg Host.Outcome.next (present_of_takeable s (.malformedFrame lane frame) hl rfl)

/-! ### A fragment that leaves its context open -/

theorem exec_data_fragment {s : State} {lane : InLane} {ctx : Byte} {id : CtxId} {bytes : List Byte} {c : Context}
    (hid : ctxOf ctx = some id) (hf : s.holdLine .front = false) (hb : s.holdLine .back = false) (hne : bytes ≠ [])
    (hlen : bytes.length ≤ 2048) (hc : s.contexts[id] = some c) (hd : c.dir = laneDir lane)
    (hp : s.pairedPlaceFree lane = true) (hbank : s.needsBusyBank lane ctx bytes.length = false) :
    exec (.data lane ctx bytes) s = .next (s.processFragment id c bytes) := by
  rw [exec_data hf hb (dataTakeable_of_free hp hbank), takeData_of_fragment hid hne hlen, hc]
  exact congrArg Host.Outcome.next (if_pos hd)

/-- A taken fragment writes its record and appends the bytes it released to the queue of its direction (R37). -/
theorem fragmentTaken_eq (s : State) (id : CtxId) (c : Context) (bytes : List Byte) : s.fragmentTaken id c bytes =
    { s with
      contexts := s.contexts.set id (some (s.takeBytes bytes c).ctx),
      frontQueue := if c.dir = .read ∧ (s.takeBytes bytes c).released ≠ [] then
          s.frontQueue ++ [.data id (s.takeBytes bytes c).released] else s.frontQueue,
      backQueue := if c.dir = .write ∧ (s.takeBytes bytes c).released ≠ [] then
          s.backQueue ++ [.data id (s.takeBytes bytes c).released] else s.backQueue } := by
  unfold State.fragmentTaken State.appendReleased
  by_cases h : (s.takeBytes bytes c).released = []
  · simp [h, State.setContext]
  · rw [if_neg (by simpa using h)]
    cases c.dir <;> simp [h, State.setContext, State.appendFront, State.appendBack]

/-- Settles O21. -/
theorem dataIsProcessed : Obligations.DataIsProcessed := by
  rintro s lane ctx id bytes c _ hid hf hb hne hlen hc hd hp hbank rfl hmore
  rw [exec_data_fragment hid hf hb hne hlen hc hd hp hbank, ← fragmentTaken_eq, State.processFragment]
  dsimp only
  rw [hmore]
  rfl

/-! ### OPEN -/

theorem segmentOf_current {s : State} {g : Span} {b : Band} {x : Binding} (hb : s.bands[g.band] = some b)
    (hx : b.fields.binding = some x) : (s.segmentOf g).current = x.slot := by
  simp [State.segmentOf, hb, hx, -Fin.getElem_fin]

theorem segmentOf_target {s : State} {g : Span} {b : Band} (hb : s.bands[g.band] = some b) :
    (s.segmentOf g).target = b.migration.map (·.target) := by
  simp [State.segmentOf, hb, -Fin.getElem_fin]

theorem formatOfNs_of_base {s : State} {ns : Ns} {b : Band} {size : Nat} {f : Format} {m : MetaMode}
    (hb : s.bands[baseBand ns] = some b) (he : b.fields.extent = .base size f m) : s.formatOfNs ns = (f, m) := by
  rw [State.formatOfNs, hb]
  dsimp only
  rw [he]

theorem ns_of_openRefusal {s : State} {id : CtxId} {dir : Direction} {migrate : Bool} {ns : Option Ns}
    {first count : Nat} (h : s.openRefusal id dir migrate ns first count = none) : ∃ n, ns = some n := by
  cases ns with
  | some n => exact ⟨n, rfl⟩
  | none =>
    unfold State.openRefusal at h
    split at h
    · cases h
    · split at h <;> cases h

theorem opened_eq (b : Band) (p : Prop) [Decidable p] (id : CtxId) : b.opened (if p then some id else none) =
    { b with openCount := b.openCount + 1, writer := if p then some id else b.writer } := by
  unfold Band.opened
  split <;> rfl

/-- Settles O20. -/
theorem openIsRefusedOrAccepted : Obligations.OpenIsRefusedOrAccepted := by
  refine ⟨fun s g => ⟨rfl, rfl, rfl, fun b x hb hx => segmentOf_current hb hx, fun b hb hm => ?_, fun b r hb hm => ?_⟩,
    fun s ns b size f m hb he => formatOfNs_of_base hb he,
    fun s ctx id dir flags nsByte first count hid hl ht => ⟨fun status h => ?refused, fun h => ?accepted⟩⟩
  · rw [segmentOf_target hb, hm]
    rfl
  · rw [segmentOf_target hb, hm]
    rfl
  case refused =>
    rw [exec_openFrame hl ht, takeOpen_refused hid h]
    rfl
  case accepted =>
    obtain ⟨ns, hns⟩ := ns_of_openRefusal h
    refine ⟨s.acceptContext id (s.newContext dir (flags.getLsbD 0) ns first.toNat (count.toNat + 1)), _, ns, ?_, hns, rfl,
      rfl, rfl, rfl, fun i => ?_, fun k => ?_, ?_⟩
    · rw [exec_openFrame hl ht, takeOpen, hid]
      dsimp only
      rw [h]
      dsimp only
      rw [hns]
    · rw [acceptContext_bands_get]
      refine congrFun (congrArg Option.map (funext fun b => ?_)) _
      rw [opened_eq]
      rfl
    · exact acceptContext_slots_get _ _ _ _
    · rfl

end Sys2Proof.Machine

/-! PROOFS. When frames are taken (R24 to R28, R32, R143 to R146): the hold of a lane, the conditions of each kind of
frame, and the ordered checks of an OPEN. -/

namespace Sys2Proof.Machine

/-! ### The hold of a lane -/

/-- A frame command presents its frame, with or without a test of the held heads after its taking. -/
theorem exec_frame {c : Instr} (hc : isFrame c = true) (s : State) :
    exec c s = .next (s.present c) ∨ exec c s = .next (s.presentAndSettle c) := by
  cases c with
  | data | abort | keyPurge | purgeAll | bandSet | migrateStart | tripForce => exact .inr rfl
  | openFrame | malformedFrame | undefinedRequestCode | wrapLoad | keyLoad | querySlot | setGrace | bandLock
  | queryBand | tripClear | noticePeriod | noticeAck | queryContext | goOnline | timeSet | queryStatus =>
    exact .inl rfl
  | _ => cases hc

theorem present_of_held {s : State} {c : Instr} (h : s.holdLine (frameLane c) = true) :
    s.present c = s ∧ s.presentAndSettle c = s := ⟨if_pos h, if_pos h⟩

theorem present_of_waiting {s : State} {c : Instr} (h : s.holdLine (frameLane c) = false) (ht : s.takeable c = false) :
    s.present c = s.setHead (frameLane c) (some c) ∧ s.presentAndSettle c = s.setHead (frameLane c) (some c) := by
  simp only [State.present, State.presentAndSettle, h, ht, Bool.false_eq_true, if_false, and_self]

/-- Settles O14. -/
theorem framesAreHeldByTheirLane : Obligations.FramesAreHeldByTheirLane := by
  refine ⟨fun c s hc hl => ?_, fun c s hc hl ht => ⟨?_, ?_⟩⟩
  · obtain ⟨h1, h2⟩ := present_of_held hl
    obtain h | h := exec_frame hc s
    · rw [h, h1]
    · rw [h, h2]
  · obtain ⟨h1, h2⟩ := present_of_waiting hl ht
    have hexec : exec c s = .next (s.setHead (frameLane c) (some c)) := by
      obtain h | h := exec_frame hc s
      · rw [h, h1]
      · rw [h, h2]
    rw [hexec]
    cases frameLane c <;> rfl
  · cases frameLane c <;> rfl

/-! ### The conditions of each kind of frame -/

/-- The LBAs at which a fragment starts sectors: those of its in-range bytes that stand at a multiple of the sector's
size (R32). -/
theorem mem_startingLbas (c : Context) (len lba : Nat) : lba ∈ c.startingLbas len ↔ ∃ n p, n < len ∧
    p = c.sectorsDone * c.format.sectorBytes + c.offset + n ∧ p < c.count * c.format.sectorBytes ∧
    p % c.format.sectorBytes = 0 ∧ lba = c.first + p / c.format.sectorBytes := by
  have hpos : 0 < c.format.sectorBytes := sectorBytes_pos c.format
  unfold Context.startingLbas
  dsimp only
  generalize hb : c.sectorsDone * c.format.sectorBytes + c.offset = b
  generalize c.format.sectorBytes = size at hpos
  generalize hlim : c.count * size = lim
  simp only [List.mem_map, List.mem_range']
  have hceil : ∀ x k : Nat, (x + size - 1) / size ≤ k ↔ x ≤ k * size := by
    intro x k
    rw [Nat.div_le_iff_le_mul_add_pred hpos, Nat.mul_comm size k]
    omega
  constructor
  · rintro ⟨k, ⟨i, hi, rfl⟩, rfl⟩
    generalize hk : (b + size - 1) / size + 1 * i = k
    have hge : (b + size - 1) / size ≤ k := by omega
    have hlt : ¬(min (b + len) lim + size - 1) / size ≤ k := by omega
    rw [hceil] at hge hlt
    refine ⟨k * size - b, k * size, by omega, by omega, by omega, Nat.mul_mod_left k size, ?_⟩
    rw [Nat.mul_div_cancel k hpos]
  · rintro ⟨n, p, hn, hp, hlt, hmod, rfl⟩
    obtain ⟨k, rfl⟩ := Nat.dvd_of_mod_eq_zero hmod
    rw [Nat.mul_comm size k] at hp hlt ⊢
    have hge : (b + size - 1) / size ≤ k := (hceil b k).2 (by omega)
    have hlt' : ¬(min (b + len) lim + size - 1) / size ≤ k := by
      rw [hceil]
      omega
    exact ⟨k, ⟨k - (b + size - 1) / size, by omega, by omega⟩, by rw [Nat.mul_div_cancel k hpos]⟩

theorem bankBusy_eq_false (s : State) (k : SlotId) : s.bankBusy (bankOf k) = false ↔
    ∀ j : SlotId, j.val % 2 = k.val % 2 → (s.slots[j]).isLoading = false := by
  rw [Bool.eq_false_iff, Ne, bankBusy_iff, not_exists]
  refine forall_congr' fun j => ?_
  rw [Bool.eq_false_iff, Ne, isLoading_iff, not_exists]
  constructor
  · rintro h hbank ⟨l, hl⟩
    exact h l ⟨hl, hbank⟩
  · rintro h l ⟨hl, hbank⟩
    exact h hbank ⟨l, hl⟩

theorem needsBusyBank_eq_false {s : State} {lane : InLane} {ctx : Byte} {id : CtxId} {len : Nat} {c : Context}
    (hid : ctxOf ctx = some id) (h : s.contexts[id] = some c) (hd : c.dir = laneDir lane) :
    s.needsBusyBank lane ctx len = false ↔
      ∀ n p, n < len → p = c.sectorsDone * c.format.sectorBytes + c.offset + n →
        p < c.count * c.format.sectorBytes → p % c.format.sectorBytes = 0 →
        ∀ k : SlotId, k.val % 2 = (s.slotFor c (c.first + p / c.format.sectorBytes)).val % 2 →
          (s.slots[k]).isLoading = false := by
  rw [needsBusyBank_of_open hid h, decide_eq_true hd, Bool.true_and, List.any_eq_false]
  simp only [Bool.not_eq_true, bankBusy_eq_false, mem_startingLbas]
  constructor
  · intro hall n p hn hp hlt hmod
    exact hall _ ⟨n, p, hn, hp, hlt, hmod, rfl⟩
  · rintro hall _ ⟨n, p, hn, hp, hlt, hmod, rfl⟩
    exact hall n p hn hp hlt hmod

theorem dataTakeable_iff {s : State} {lane : InLane} {ctx : Byte} {id : CtxId} {len : Nat} (hid : ctxOf ctx = some id)
    (hpos : 1 ≤ len) (hlen : len ≤ 2048) : s.dataTakeable lane ctx len = true ↔
      s.pairedPlaceFree lane = true ∧ s.needsBusyBank lane ctx len = false := by
  have hlong : decide (Config.fragmentMax < len) = false := decide_eq_false (Nat.not_lt.2 hlen)
  have hzero : (len == 0) = false := beq_eq_false_iff_ne.2 (Nat.ne_of_gt hpos)
  rw [State.dataTakeable, hid, hlong, hzero]
  simp

theorem pairedPlaceFree_iff (s : State) (lane : InLane) : s.pairedPlaceFree lane = true ↔ (match lane with
    | .front => s.backQueue.countP BackEntry.inDataPlace
    | .back => s.frontQueue.countP FrontEntry.inDataPlace) < 16 := by
  cases lane <;> exact decide_eq_true_iff

/-- Settles O15. -/
theorem framesAreTakenWhen : Obligations.FramesAreTakenWhen := by
  refine fun s => ⟨fun ctx id dir flags ns first count hid => ?opens, fun lane ctx id bytes hid hpos hlen =>
    ⟨pairedPlaceFree_iff s lane, fun h => ?elsewhere, fun c hc hd => ?fragment⟩, fun lane ctx => ?empty, fun _ => rfl,
    fun _ _ => rfl, fun request hr => ?requests⟩
  case opens =>
    rw [State.takeable, State.openTakeable, hid]
    simp [State.frontPlaceFree, Config.dataPlaces, and_assoc]
  case elsewhere =>
    refine (dataTakeable_iff hid hpos hlen).trans (and_iff_left ?_)
    cases hc : s.contexts[id] with
    | none => exact needsBusyBank_of_free hid hc
    | some c =>
      rw [needsBusyBank_of_open hid hc, decide_eq_false (h c hc)]
      rfl
  case fragment =>
    exact (dataTakeable_iff hid hpos hlen).trans (and_congr_right fun _ => needsBusyBank_eq_false hid hc hd)
  case empty =>
    simp [State.takeable, State.dataTakeable]
  case requests =>
    rw [(request_front hr s).2]
    exact decide_eq_true_iff

/-! ### The checks of an OPEN -/

theorem bandRefusal_eq (s : State) (dir : Direction) (b : Band) : s.bandRefusal dir b =
    if b.pending.isSome then some .bandChanging
    else if b.fields.binding.isNone then some .noKey
    else if (b.fields.binding.any fun x => (s.slots[x.slot]).isPoisoned) ||
      (b.migration.any fun r => (s.slots[r.target]).isPoisoned) then some .keyFault
    else if (match dir with
      | .read => b.fields.readLock
      | .write => b.fields.writeLock) then some .locked
    else if dir = .write ∧ s.pfail = true ∧ b.fields.pfail = .hold then some .powerHold
    else none := by
  cases dir <;> simp [State.bandRefusal, firstFailing, State.bandPoisoned, BandFields.lockFor]

/-- The last two checks, for a range inside an ACTIVE namespace (R27, R28). -/
theorem openRefusal_of_inside {s : State} {id : CtxId} {dir : Direction} {migrate : Bool} {ns : Ns}
    {first count size : Nat} (hl : s.life = .online) (hc : s.contexts[id] = none)
    (hs : s.namespaceSize ns = some size) (hr : first + count ≤ size) :
    s.openRefusal id dir migrate (some ns) first count =
      match s.spansRefusal dir (s.spans ns first count) with
      | some status => some status
      | none => if migrate && !s.migrateAllowed dir first (s.spans ns first count) then some .migrateOrder else none := by
  rw [State.openRefusal, hl, hc, if_neg (by decide), if_neg (by simp)]
  simp only [hs, if_neg (Nat.not_lt.2 hr)] <;> rfl

theorem spansRefusal_append {s : State} {dir : Direction} {before after : List Span} {g : Span} {b : Band}
    {status : TransferStatus} (hpass : ∀ h ∈ before, ∀ x, s.bands[h.band] = some x → s.bandRefusal dir x = none)
    (hb : s.bands[g.band] = some b) (hr : s.bandRefusal dir b = some status) :
    s.spansRefusal dir (before ++ g :: after) = some status := by
  have hnone : (before.findSome? fun g => (s.bands[g.band]).bind (s.bandRefusal dir)) = none := by
    rw [List.findSome?_eq_none_iff]
    intro h hh
    rw [Option.bind_eq_none_iff]
    exact hpass h hh
  rw [State.spansRefusal, List.findSome?_append, hnone, List.findSome?_cons, hb, Option.bind_some, hr]
  rfl

theorem spansRefusal_of_passed {s : State} {dir : Direction} {spans : List Span}
    (hpass : ∀ h ∈ spans, ∀ x, s.bands[h.band] = some x → s.bandRefusal dir x = none) :
    s.spansRefusal dir spans = none :=
  List.findSome?_eq_none_iff.2 fun h hh => Option.bind_eq_none_iff.2 (hpass h hh)

theorem migrateAllowed_iff (s : State) (dir : Direction) (first : Nat) (spans : List Span) :
    s.migrateAllowed dir first spans = true ↔ ∃ g b r, spans = [g] ∧ s.bands[g.band] = some b ∧
      b.migration = some r ∧ (dir = .read → r.w ≤ first) ∧ (dir = .write → first = r.w ∧ b.writer = none) := by
  unfold State.migrateAllowed
  split
  · rename_i g
    cases hb : s.bands[g.band] with
    | none => simp [hb, -Fin.getElem_fin]
    | some b =>
      cases hm : b.migration with
      | none => simp [hb, hm, -Fin.getElem_fin]
      | some r => cases dir <;> simp [hb, hm, -Fin.getElem_fin]
  · rename_i hne
    simp only [Bool.false_eq_true, false_iff]
    rintro ⟨g, b, r, hg, _⟩
    exact hne g hg

/-- Settles O17. -/
theorem openChecksInOrder : Obligations.OpenChecksInOrder := by
  refine ⟨fun s ctx id dir flags nsByte first count hid hl ht => ⟨fun hlife => ?prepare, fun hlife hc => ?busy⟩,
    bandRefusal_eq, ?checks⟩
  case prepare =>
    have h : s.openRefusal id dir (flags.getLsbD 0) (nsOf nsByte) first.toNat (count.toNat + 1) = some .notOnline :=
      if_pos hlife
    rw [exec_openFrame hl ht, takeOpen_refused hid h]
    rfl
  case busy =>
    have h : s.openRefusal id dir (flags.getLsbD 0) (nsOf nsByte) first.toNat (count.toNat + 1) = some .ctxBusy := by
      unfold State.openRefusal
      rw [hlife, if_neg (by decide), if_pos hc]
    rw [exec_openFrame hl ht, takeOpen_refused hid h]
    rfl
  case checks =>
    rintro s ctx id dir flags nsByte first count ns base size f m _ hid hl ht hlife hc hns hbase hext hrange rfl
    have hinside := openRefusal_of_inside (dir := dir) (migrate := flags.getLsbD 0) hlife hc
      (namespaceSize_of_base hbase hext) hrange
    refine ⟨fun before g after b status hspans hpass hb hr => ?fifth, fun hpass => ?sixth⟩
    case fifth =>
      have h : s.openRefusal id dir (flags.getLsbD 0) (nsOf nsByte) first.toNat (count.toNat + 1) = some status := by
        rw [hns, hinside, hspans, spansRefusal_append hpass hb hr]
      rw [exec_openFrame hl ht, takeOpen_refused hid h]
      rfl
    case sixth =>
      have hpassed := spansRefusal_of_passed hpass
      refine ⟨fun hflag => ?_, fun hflag => ⟨fun g b r hg hb hm hread hwrite => ?_, fun hnot => ?_⟩⟩
      · rw [hflag] at hinside
        rw [hinside, hpassed]
        rfl
      · have hallowed := (migrateAllowed_iff s dir first.toNat _).2 ⟨g, b, r, hg, hb, hm, hread, hwrite⟩
        rw [hflag] at hinside
        rw [hinside, hpassed, hallowed]
        rfl
      · have hallowed : s.migrateAllowed dir first.toNat (s.spans ns first.toNat (count.toNat + 1)) = false := by
          rw [Bool.eq_false_iff, Ne, migrateAllowed_iff]
          rintro ⟨g, b, r, hg, hb, hm, hok⟩
          exact hnot g b r hg hb hm hok
        have h : s.openRefusal id dir (flags.getLsbD 0) (nsOf nsByte) first.toNat (count.toNat + 1) =
            some .migrateOrder := by
          rw [hns, hinside, hpassed, hallowed, hflag]
          rfl
        rw [exec_openFrame hl ht, takeOpen_refused hid h]
        rfl

end Sys2Proof.Machine

/-! PROOFS. The block cipher (R1): each of its steps has an inverse, and so has the whole. -/

namespace Sys2Proof.Machine.Aes

/-! ### Bytes -/

theorem xor_cancel_left {w : Nat} (a b : BitVec w) : a ^^^ (a ^^^ b) = b := by
  rw [← BitVec.xor_assoc, BitVec.xor_self, BitVec.zero_xor]

theorem xor_left_comm {w : Nat} (a b c : BitVec w) : a ^^^ (b ^^^ c) = b ^^^ (a ^^^ c) := by
  rw [← BitVec.xor_assoc, BitVec.xor_comm a, BitVec.xor_assoc]

/-- The two substitution tables invert each other, entry by entry. -/
theorem tables_inverse : ∀ x : Fin 256, invSub (sub (BitVec.ofFin x)) = BitVec.ofFin x ∧
    sub (invSub (BitVec.ofFin x)) = BitVec.ofFin x := by decide +kernel

theorem invSub_sub (x : Byte) : invSub (sub x) = x := (tables_inverse x.toFin).1

theorem sub_invSub (x : Byte) : sub (invSub x) = x := (tables_inverse x.toFin).2

theorem xtime_xor (a b : Byte) : xtime (a ^^^ b) = xtime a ^^^ xtime b := by
  unfold xtime
  rw [BitVec.shiftLeft_xor_distrib, BitVec.msb_xor]
  cases a.msb <;> cases b.msb <;> simp [BitVec.xor_assoc, xor_left_comm, BitVec.xor_comm]

theorem mul3_xor (a b : Byte) : mul3 (a ^^^ b) = mul3 a ^^^ mul3 b := by
  simp only [mul3, xtime_xor]
  ac_rfl

theorem mul9_xor (a b : Byte) : mul9 (a ^^^ b) = mul9 a ^^^ mul9 b := by
  simp only [mul9, xtime_xor]
  ac_rfl

theorem mul11_xor (a b : Byte) : mul11 (a ^^^ b) = mul11 a ^^^ mul11 b := by
  simp only [mul11, xtime_xor]
  ac_rfl

theorem mul13_xor (a b : Byte) : mul13 (a ^^^ b) = mul13 a ^^^ mul13 b := by
  simp only [mul13, xtime_xor]
  ac_rfl

theorem mul14_xor (a b : Byte) : mul14 (a ^^^ b) = mul14 a ^^^ mul14 b := by
  simp only [mul14, xtime_xor]
  ac_rfl

/-- The rows of the product of the two column matrices: one byte is kept, and the other three cancel. -/
theorem invMix_mix_coefficients (x : Byte) :
    mul14 (xtime x) ^^^ (mul11 x ^^^ (mul13 x ^^^ mul9 (mul3 x))) = x ∧
    mul14 (mul3 x) ^^^ (mul11 (xtime x) ^^^ (mul13 x ^^^ mul9 x)) = 0#8 ∧
    mul14 x ^^^ (mul11 (mul3 x) ^^^ (mul13 (xtime x) ^^^ mul9 x)) = 0#8 ∧
    mul14 x ^^^ (mul11 x ^^^ (mul13 (mul3 x) ^^^ mul9 (xtime x))) = 0#8 := by
  simp only [mul3, mul9, mul11, mul13, mul14, xtime_xor]
  refine ⟨?_, ?_, ?_, ?_⟩ <;>
    simp [BitVec.xor_assoc, xor_left_comm, BitVec.xor_comm]

theorem mix_invMix_coefficients (x : Byte) :
    xtime (mul14 x) ^^^ (mul3 (mul9 x) ^^^ (mul13 x ^^^ mul11 x)) = x ∧
    xtime (mul11 x) ^^^ (mul3 (mul14 x) ^^^ (mul9 x ^^^ mul13 x)) = 0#8 ∧
    xtime (mul13 x) ^^^ (mul3 (mul11 x) ^^^ (mul14 x ^^^ mul9 x)) = 0#8 ∧
    xtime (mul9 x) ^^^ (mul3 (mul13 x) ^^^ (mul11 x ^^^ mul14 x)) = 0#8 := by
  simp only [mul3, mul9, mul11, mul13, mul14, xtime_xor]
  refine ⟨?_, ?_, ?_, ?_⟩ <;>
    simp [BitVec.xor_assoc, xor_left_comm, BitVec.xor_comm]

/-! ### Columns -/

theorem invMix_mix_row (a b c d : Byte) :
    mul14 (xtime a ^^^ mul3 b ^^^ c ^^^ d) ^^^ mul11 (a ^^^ xtime b ^^^ mul3 c ^^^ d) ^^^
      mul13 (a ^^^ b ^^^ xtime c ^^^ mul3 d) ^^^ mul9 (mul3 a ^^^ b ^^^ c ^^^ xtime d) = a := by
  obtain ⟨ha, -, -, -⟩ := invMix_mix_coefficients a
  obtain ⟨-, hb, -, -⟩ := invMix_mix_coefficients b
  obtain ⟨-, -, hc, -⟩ := invMix_mix_coefficients c
  obtain ⟨-, -, -, hd⟩ := invMix_mix_coefficients d
  have hsum := congr (congrArg (· ^^^ ·) (congr (congrArg (· ^^^ ·) (congr (congrArg (· ^^^ ·) ha) hb)) hc)) hd
  simp only [BitVec.xor_zero] at hsum
  refine Eq.trans ?_ hsum
  simp only [mul9_xor, mul11_xor, mul13_xor, mul14_xor]
  ac_rfl

theorem mix_invMix_row (a b c d : Byte) :
    xtime (mul14 a ^^^ mul11 b ^^^ mul13 c ^^^ mul9 d) ^^^ mul3 (mul9 a ^^^ mul14 b ^^^ mul11 c ^^^ mul13 d) ^^^
      (mul13 a ^^^ mul9 b ^^^ mul14 c ^^^ mul11 d) ^^^ (mul11 a ^^^ mul13 b ^^^ mul9 c ^^^ mul14 d) = a := by
  obtain ⟨ha, -, -, -⟩ := mix_invMix_coefficients a
  obtain ⟨-, hb, -, -⟩ := mix_invMix_coefficients b
  obtain ⟨-, -, hc, -⟩ := mix_invMix_coefficients c
  obtain ⟨-, -, -, hd⟩ := mix_invMix_coefficients d
  have hsum := congr (congrArg (· ^^^ ·) (congr (congrArg (· ^^^ ·) (congr (congrArg (· ^^^ ·) ha) hb)) hc)) hd
  simp only [BitVec.xor_zero] at hsum
  refine Eq.trans ?_ hsum
  simp only [mul3_xor, xtime_xor]
  ac_rfl

theorem Column.invMix_mix (c : Column) : c.mix.invMix = c := by
  obtain ⟨b0, b1, b2, b3⟩ := c
  simp only [Column.mix, Column.invMix, Column.mk.injEq]
  refine ⟨invMix_mix_row b0 b1 b2 b3, ?_, ?_, ?_⟩
  · refine Eq.trans ?_ (invMix_mix_row b1 b2 b3 b0)
    ac_rfl
  · refine Eq.trans ?_ (invMix_mix_row b2 b3 b0 b1)
    ac_rfl
  · refine Eq.trans ?_ (invMix_mix_row b3 b0 b1 b2)
    ac_rfl

theorem Column.mix_invMix (c : Column) : c.invMix.mix = c := by
  obtain ⟨b0, b1, b2, b3⟩ := c
  simp only [Column.mix, Column.invMix, Column.mk.injEq]
  refine ⟨mix_invMix_row b0 b1 b2 b3, ?_, ?_, ?_⟩
  · refine Eq.trans ?_ (mix_invMix_row b1 b2 b3 b0)
    ac_rfl
  · refine Eq.trans ?_ (mix_invMix_row b2 b3 b0 b1)
    ac_rfl
  · refine Eq.trans ?_ (mix_invMix_row b3 b0 b1 b2)
    ac_rfl

theorem Column.xor_xor (k c : Column) : k.xor (k.xor c) = c := by
  simp only [Column.xor, xor_cancel_left]

/-! ### Rounds -/

theorem AesState.add_add (k s : AesState) : k.add (k.add s) = s := by
  simp only [AesState.add, Column.xor_xor]

/-- Every column of a state under a function and its inverse. -/
theorem AesState.map_map {f g : Column → Column} (h : ∀ c, g (f c) = c) (s : AesState) : (s.map f).map g = s := by
  simp only [AesState.map, h]

theorem Column.map_map {f g : Byte → Byte} (h : ∀ x, g (f x) = x) (c : Column) : (c.map f).map g = c := by
  simp only [Column.map, h]

/-- SubBytes and ShiftRows, undone. -/
theorem unshift_unsub (s : AesState) :
    (((s.map (Column.map sub)).shift).invShift).map (Column.map invSub) = s :=
  AesState.map_map (Column.map_map invSub_sub) s

theorem sub_shift (s : AesState) :
    ((((s.invShift).map (Column.map invSub)).map (Column.map sub)).shift) = s :=
  congrArg AesState.shift (AesState.map_map (Column.map_map sub_invSub) s.invShift)

theorem decRounds_encRounds (ks : List AesState) (s : AesState) : decRounds ks (encRounds ks s) = s := by
  induction ks generalizing s with
  | nil => rfl
  | cons k ks ih =>
    cases ks with
    | nil => rw [encRounds, decRounds, AesState.add_add, unshift_unsub]
    | cons k' ks =>
      rw [encRounds, decRounds, ih, AesState.add_add, AesState.map_map Column.invMix_mix, unshift_unsub]
      all_goals exact List.cons_ne_nil _ _

theorem encRounds_decRounds (ks : List AesState) (s : AesState) : encRounds ks (decRounds ks s) = s := by
  induction ks generalizing s with
  | nil => rfl
  | cons k ks ih =>
    cases ks with
    | nil => rw [encRounds, decRounds, sub_shift, AesState.add_add]
    | cons k' ks =>
      rw [encRounds, decRounds, sub_shift, AesState.map_map Column.mix_invMix, AesState.add_add, ih]
      all_goals exact List.cons_ne_nil _ _

theorem decWith_encWith (ks : List AesState) (s : AesState) : decWith ks (encWith ks s) = s := by
  cases ks with
  | nil => rfl
  | cons k ks => rw [encWith, decWith, decRounds_encRounds, AesState.add_add]

theorem encWith_decWith (ks : List AesState) (s : AesState) : encWith ks (decWith ks s) = s := by
  cases ks with
  | nil => rfl
  | cons k ks => rw [encWith, decWith, AesState.add_add, encRounds_decRounds]

/-! ### Blocks -/

/-- A byte of two parts, one above the other, is a byte of the lower part or of the upper one. -/
theorem byteOf_append_low {v w : Nat} (x : BitVec v) (y : BitVec w) {i : Nat} (h : 8 * i + 8 ≤ w) :
    byteOf (x ++ y) i = byteOf y i := BitVec.extractLsb'_append_eq_of_add_le h

theorem byteOf_append_high {v w : Nat} (x : BitVec v) (y : BitVec w) {i j : Nat} (h : 8 * i = w + 8 * j) :
    byteOf (x ++ y) i = byteOf x j := by
  rw [byteOf, byteOf, BitVec.extractLsb'_append_eq_of_le (by omega), h, Nat.add_sub_cancel_left]

theorem columnOf_append_low {v w : Nat} (x : BitVec v) (y : BitVec w) {i : Nat} (h : 8 * i + 32 ≤ w) :
    columnOf (x ++ y) i = columnOf y i := by
  simp only [columnOf, Column.mk.injEq]
  refine ⟨?_, ?_, ?_, ?_⟩ <;> exact byteOf_append_low x y (by omega)

theorem columnOf_append_high {v w : Nat} (x : BitVec v) (y : BitVec w) {i j : Nat} (h : 8 * i = w + 8 * j) :
    columnOf (x ++ y) i = columnOf x j := by
  simp only [columnOf, Column.mk.injEq]
  refine ⟨?_, ?_, ?_, ?_⟩ <;> exact byteOf_append_high x y (by omega)

theorem byteOf_self (x : Byte) : byteOf x 0 = x := BitVec.extractLsb'_eq_self

theorem columnOf_toWord (c : Column) : columnOf c.toWord 0 = c := by
  obtain ⟨b0, b1, b2, b3⟩ := c
  have h1 : byteOf (b3 ++ b2 ++ b1 ++ b0) 1 = byteOf (b3 ++ b2 ++ b1) 0 := byteOf_append_high _ _ rfl
  have h2 : byteOf (b3 ++ b2 ++ b1 ++ b0) 2 = byteOf (b3 ++ b2) 0 :=
    (byteOf_append_high (j := 1) _ _ rfl).trans (byteOf_append_high _ _ rfl)
  have h3 : byteOf (b3 ++ b2 ++ b1 ++ b0) 3 = byteOf b3 0 :=
    (byteOf_append_high (j := 2) _ _ rfl).trans ((byteOf_append_high (j := 1) _ _ rfl).trans (byteOf_append_high _ _ rfl))
  have h0 : byteOf (b3 ++ b2 ++ b1 ++ b0) 0 = b0 := (byteOf_append_low _ _ (by decide)).trans (byteOf_self b0)
  exact congr (congr (congr (congrArg Column.mk h0) (h1.trans ((byteOf_append_low _ _ (by decide)).trans (byteOf_self b1))))
    (h2.trans ((byteOf_append_low _ _ (by decide)).trans (byteOf_self b2)))) (h3.trans (byteOf_self b3))

/-- The columns of a block of four words. -/
theorem stateOf_append (w3 w2 w1 w0 : BitVec 32) : stateOf (w3 ++ w2 ++ w1 ++ w0) 0 =
    ⟨columnOf w0 0, columnOf w1 0, columnOf w2 0, columnOf w3 0⟩ := by
  have h1 : columnOf (w3 ++ w2 ++ w1 ++ w0) 4 = columnOf w1 0 := by
    rw [columnOf_append_high (w3 ++ w2 ++ w1) w0 (j := 0) rfl, columnOf_append_low (w3 ++ w2) w1 (by decide)]
  have h2 : columnOf (w3 ++ w2 ++ w1 ++ w0) 8 = columnOf w2 0 := by
    rw [columnOf_append_high (w3 ++ w2 ++ w1) w0 (j := 4) rfl, columnOf_append_high (w3 ++ w2) w1 (j := 0) rfl,
      columnOf_append_low w3 w2 (by decide)]
  have h3 : columnOf (w3 ++ w2 ++ w1 ++ w0) 12 = columnOf w3 0 := by
    rw [columnOf_append_high (w3 ++ w2 ++ w1) w0 (j := 8) rfl, columnOf_append_high (w3 ++ w2) w1 (j := 4) rfl,
      columnOf_append_high w3 w2 (j := 0) rfl]
  exact congr (congr (congr (congrArg AesState.mk (columnOf_append_low _ _ (by decide))) h1) h2) h3

theorem stateOf_toBlock (s : AesState) : stateOf s.toBlock 0 = s := by
  refine (stateOf_append s.c3.toWord s.c2.toWord s.c1.toWord s.c0.toWord).trans ?_
  simp only [columnOf_toWord]

/-- Four parts of equal width, each above the one before it, are their whole. -/
theorem append_four {n w : Nat} (x : BitVec n) (i : Nat) : x.extractLsb' (i + 3 * w) w ++ x.extractLsb' (i + 2 * w) w ++
    x.extractLsb' (i + w) w ++ x.extractLsb' i w = x.extractLsb' i (w + w + w + w) := by
  rw [BitVec.extractLsb'_append_extractLsb'_eq_extractLsb' (by omega),
    BitVec.extractLsb'_append_extractLsb'_eq_extractLsb' (by omega),
    BitVec.extractLsb'_append_extractLsb'_eq_extractLsb' rfl]

theorem toWord_columnOf {n : Nat} (x : BitVec n) (i : Nat) : (columnOf x i).toWord = x.extractLsb' (8 * i) 32 := by
  refine Eq.trans ?_ (append_four (w := 8) x (8 * i))
  simp only [Column.toWord, columnOf, byteOf, Nat.mul_add]

theorem toBlock_stateOf (x : Block) : (stateOf x 0).toBlock = x := by
  simp only [AesState.toBlock, stateOf, toWord_columnOf]
  exact (append_four (w := 32) x 0).trans BitVec.extractLsb'_eq_self

end Sys2Proof.Machine.Aes

namespace Sys2Proof.Machine

/-- Settles O6. -/
theorem decipherInvertsEncipher : Obligations.DecipherInvertsEncipher := by
  intro k x
  refine ⟨?_, ?_⟩
  · rw [blockD, blockE, Aes.stateOf_toBlock, Aes.decWith_encWith, Aes.toBlock_stateOf]
  · rw [blockD, blockE, Aes.stateOf_toBlock, Aes.encWith_decWith, Aes.toBlock_stateOf]

end Sys2Proof.Machine

/-! PROOFS. Formats, tweak and masks (R3 to R7), and stored words with their parity (R72, R84). -/

namespace Sys2Proof.Machine

/-! ### The tweak -/

theorem byteOf_ofNat {w : Nat} (n i : Nat) (h : 8 * i + 8 ≤ w) :
    Aes.byteOf (BitVec.ofNat w n) i = BitVec.ofNat 8 (n / 256 ^ i) := by
  refine BitVec.eq_of_getLsbD_eq fun j hj => ?_
  have hpow : n / 256 ^ i = n >>> (8 * i) := by rw [Nat.shiftRight_eq_div_pow, Nat.pow_mul]
  rw [hpow, Aes.byteOf, BitVec.getLsbD_extractLsb', BitVec.getLsbD_ofNat, BitVec.getLsbD_ofNat, Nat.testBit_shiftRight]
  simp [hj]
  omega

/-- The bytes of the tweak's parts, each at its own place. -/
theorem blockBytes_parts (salt : BitVec 32) (n : Byte) (lba : BitVec 48) :
    blockBytes (salt ++ 0#24 ++ n ++ 0#16 ++ lba) =
      [Aes.byteOf lba 0, Aes.byteOf lba 1, Aes.byteOf lba 2, Aes.byteOf lba 3, Aes.byteOf lba 4, Aes.byteOf lba 5, 0, 0,
        n, 0, 0, 0, Aes.byteOf salt 0, Aes.byteOf salt 1, Aes.byteOf salt 2, Aes.byteOf salt 3] := by
  have hlow : ∀ i, 8 * i + 8 ≤ 48 → Aes.byteOf (salt ++ 0#24 ++ n ++ 0#16 ++ lba) i = Aes.byteOf lba i :=
    fun i h => Aes.byteOf_append_low _ _ h
  have hgap : ∀ i, 8 * i + 8 ≤ 16 → Aes.byteOf (salt ++ 0#24 ++ n ++ 0#16 ++ lba) (i + 6) = Aes.byteOf 0#16 i := by
    intro i h
    rw [Aes.byteOf_append_high (salt ++ 0#24 ++ n ++ 0#16) lba (j := i) (by omega), Aes.byteOf_append_low _ _ h]
  have hns : Aes.byteOf (salt ++ 0#24 ++ n ++ 0#16 ++ lba) 8 = n := by
    rw [Aes.byteOf_append_high (salt ++ 0#24 ++ n ++ 0#16) lba (j := 2) rfl,
      Aes.byteOf_append_high (salt ++ 0#24 ++ n) 0#16 (j := 0) rfl, Aes.byteOf_append_low (salt ++ 0#24) n (by decide),
      Aes.byteOf_self]
  have hzero : ∀ i, 8 * i + 8 ≤ 24 → Aes.byteOf (salt ++ 0#24 ++ n ++ 0#16 ++ lba) (i + 9) = Aes.byteOf 0#24 i := by
    intro i h
    rw [Aes.byteOf_append_high (salt ++ 0#24 ++ n ++ 0#16) lba (j := i + 3) (by omega),
      Aes.byteOf_append_high (salt ++ 0#24 ++ n) 0#16 (j := i + 1) (by omega),
      Aes.byteOf_append_high (salt ++ 0#24) n (j := i) (by omega), Aes.byteOf_append_low salt 0#24 h]
  have hsalt : ∀ i, Aes.byteOf (salt ++ 0#24 ++ n ++ 0#16 ++ lba) (i + 12) = Aes.byteOf salt i := by
    intro i
    rw [Aes.byteOf_append_high (salt ++ 0#24 ++ n ++ 0#16) lba (j := i + 6) (by omega),
      Aes.byteOf_append_high (salt ++ 0#24 ++ n) 0#16 (j := i + 4) (by omega),
      Aes.byteOf_append_high (salt ++ 0#24) n (j := i + 3) (by omega),
      Aes.byteOf_append_high salt 0#24 (j := i) (by omega)]
  have hnull : ∀ (w i : Nat), Aes.byteOf (0#w) i = 0#8 := fun w i => BitVec.extractLsb'_zero
  unfold blockBytes
  rw [hlow 0 (by decide), hlow 1 (by decide), hlow 2 (by decide), hlow 3 (by decide), hlow 4 (by decide),
    hlow 5 (by decide), hgap 0 (by decide), hgap 1 (by decide), hns, hzero 0 (by decide), hzero 1 (by decide),
    hzero 2 (by decide), hsalt 0, hsalt 1, hsalt 2, hsalt 3]
  simp only [hnull]
  rfl

/-! ### Doubling -/

theorem double_eq (m : Block) : double m = if m.getLsbD 127 then (m <<< 1) ^^^ 0x87#128 else m <<< 1 := by
  have hmsb : m.msb = m.getLsbD 127 := rfl
  rw [double, hmsb]
  cases m.getLsbD 127 with
  | true => rfl
  | false => exact BitVec.xor_zero

/-- Bit 0 of a doubled block is the bit that fell out. -/
theorem double_bit0 (m : Block) : (double m).getLsbD 0 = m.getLsbD 127 := by
  rw [double_eq]
  cases m.getLsbD 127 with
  | true => simp
  | false => simp

theorem double_injective : Function.Injective double := by
  intro a b h
  have htop : a.getLsbD 127 = b.getLsbD 127 := by rw [← double_bit0, h, double_bit0]
  have hshift : a <<< 1 = b <<< 1 := by
    rw [double_eq, double_eq, ← htop] at h
    cases ha : a.getLsbD 127 with
    | true =>
      rw [ha] at h
      exact (BitVec.xor_left_inj _).1 h
    | false =>
      rw [ha] at h
      exact h
  refine BitVec.eq_of_getLsbD_eq fun i hi => ?_
  by_cases hlast : i = 127
  · rw [hlast, htop]
  · have hbit := congrArg (fun m : Block => m.getLsbD (i + 1)) hshift
    simp only [BitVec.getLsbD_shiftLeft, show i + 1 < 128 by omega, decide_true, Bool.true_and, Nat.add_sub_cancel] at hbit
    simpa using hbit

theorem double_bijective : Function.Bijective double := by
  have hfin : Finite Block := Finite.of_injective BitVec.toFin fun a b h => BitVec.eq_of_toFin_eq h
  exact Finite.injective_iff_bijective.1 double_injective

/-- Settles O7. -/
theorem formatsAndMasks : Obligations.FormatsAndMasks := by
  refine ⟨rfl, rfl, fun f m => ?_, ?_, fun _ _ => rfl, double_eq, double_bijective, rfl⟩
  · refine ⟨rfl, ?_, ?_, ?_, tailBytes_eq_zero_or_eight f m, cipheredLength_eq f m⟩
    · cases m <;> rfl
    · cases f <;> cases m <;> decide
    · cases f <;> cases m <;> decide
  · rintro ns lba salt _ rfl
    have hsalt : salt.getD 0 = (match salt with | none => 0 | some x => x) := by cases salt <;> rfl
    rw [tweak, hsalt]
    refine (blockBytes_parts _ _ _).trans ?_
    rw [byteOf_ofNat _ _ (by decide), byteOf_ofNat _ _ (by decide), byteOf_ofNat _ _ (by decide),
      byteOf_ofNat _ _ (by decide), byteOf_ofNat _ _ (by decide), byteOf_ofNat _ _ (by decide)]
    simp only [Nat.pow_zero, Nat.div_one, Nat.pow_one]
    rfl

/-! ### Parity -/

/-- One bit turned turns the parity of a run of bits. -/
theorem foldl_xor_flip {f g : Nat → Bool} {i : Nat} (h : ∀ j, g j = (f j ^^ decide (j = i))) (n : Nat) :
    (List.range n).foldl (fun acc j => acc ^^ g j) false =
      ((List.range n).foldl (fun acc j => acc ^^ f j) false ^^ decide (i < n)) := by
  induction n with
  | zero => rfl
  | succ n ih =>
    rw [List.range_succ, List.foldl_append, List.foldl_append, ih]
    simp only [List.foldl_cons, List.foldl_nil, h n]
    rcases lt_trichotomy i n with hi | rfl | hi
    · simp [hi, Nat.lt_succ_of_lt hi, Nat.ne_of_gt hi]
    · simp
    · simp [Nat.not_lt.2 hi.le, Nat.not_lt.2 (Nat.succ_le_of_lt hi), Nat.ne_of_lt hi]

theorem oddOnes_flip (w : BitVec 32) {i : Nat} (hi : i < 32) : oddOnes (w ^^^ (1#32 <<< i)) = !oddOnes w := by
  unfold oddOnes
  rw [foldl_xor_flip (f := fun j => w.getLsbD j) (i := i) ?_ 32, decide_eq_true hi, Bool.xor_true]
  intro j
  rw [BitVec.getLsbD_xor]
  congr 1
  by_cases hj : j = i
  · subst hj
    simp [hi]
  · simp [hj]
    omega

theorem fresh_passes (v : BitVec 32) : (StoredWord.fresh v).passes = true := by
  rw [StoredWord.passes, StoredWord.fresh, Bool.xor_not, Bool.xor_self]
  rfl

theorem invert_passes (w : StoredWord) (bit : Fin 33) : (w.invert bit).passes = !w.passes := by
  unfold StoredWord.invert StoredWord.passes
  split
  · rename_i h
    rw [oddOnes_flip w.word h, Bool.not_xor]
  · exact Bool.xor_not _ _

theorem invert_invert (w : StoredWord) (bit : Fin 33) : (w.invert bit).invert bit = w := by
  unfold StoredWord.invert
  split
  · dsimp only
    rw [BitVec.xor_assoc, BitVec.xor_self, BitVec.xor_zero]
  · dsimp only
    rw [Bool.not_not]

/-! ### Stored keys -/

theorem storeWords_get {n count : Nat} (v : BitVec n) (i : Fin count) :
    (storeWords count v)[i] = StoredWord.fresh (v.extractLsb' (32 * i.val) 32) := by
  simp [storeWords]

theorem storeWords_pass {n : Nat} (count : Nat) (v : BitVec n) : allPass (storeWords count v) = true := by
  rw [allPass, List.all_eq_true]
  intro w hw
  obtain ⟨i, hi, rfl⟩ := Vector.getElem_of_mem (Vector.mem_toList_iff.1 hw)
  rw [show (storeWords count v)[i] = _ from storeWords_get v ⟨i, hi⟩]
  exact fresh_passes _

/-- Eight words stored from one place on are the key there. -/
theorem keyOfWords_fresh {n : Nat} (v : BitVec n) (i : Nat) :
    keyOfWords (.fresh (v.extractLsb' i 32)) (.fresh (v.extractLsb' (i + 32) 32)) (.fresh (v.extractLsb' (i + 64) 32))
      (.fresh (v.extractLsb' (i + 96) 32)) (.fresh (v.extractLsb' (i + 128) 32)) (.fresh (v.extractLsb' (i + 160) 32))
      (.fresh (v.extractLsb' (i + 192) 32)) (.fresh (v.extractLsb' (i + 224) 32)) = v.extractLsb' i 256 := by
  unfold keyOfWords StoredWord.fresh
  dsimp only
  iterate 7 rw [BitVec.extractLsb'_append_extractLsb'_eq_extractLsb' (by omega)]

theorem slotState_damage_eq (v : SlotState) (i : Fin 16) (bit : Fin 33) : v.damage i bit = match v with
    | .ready m => .ready (m.set i ((m[i]).invert bit))
    | .purging m a => .purging (m.set i ((m[i]).invert bit)) a
    | .poisoned m => .poisoned (m.set i ((m[i]).invert bit))
    | .empty => .empty
    | .loading l => .loading l := by
  cases v <;> rfl

theorem wrapSlot_damage_eq (v : WrapSlot) (i : Fin 8) (bit : Fin 33) : v.damage i bit = match v with
    | .loaded m => .loaded (m.set i ((m[i]).invert bit))
    | .faulty m => .faulty (m.set i ((m[i]).invert bit))
    | .empty => .empty := by
  cases v <;> rfl

/-- Settles O12. -/
theorem parityDetectsOneDamagedBit : Obligations.ParityDetectsOneDamagedBit := by
  refine ⟨⟨fun v => ⟨fresh_passes v, rfl⟩, fun w bit => ⟨invert_passes w bit, invert_invert w bit⟩, fun key => ⟨storeWords_pass 8 key, ?_⟩,
    fun m => ⟨storeWords_pass 16 m, ?_, ?_⟩⟩, fun s k w i j bit => ⟨?_, ?_⟩⟩
  · refine Eq.trans ?_ ((keyOfWords_fresh key 0).trans BitVec.extractLsb'_eq_self)
    simp [wrapKey, storeWords]
  · refine Eq.trans ?_ (keyOfWords_fresh m 0)
    simp [materialK1, storeWords]
  · refine Eq.trans ?_ (keyOfWords_fresh m 256)
    simp [materialK2, storeWords]
  · refine congrArg Host.Outcome.next ?_
    rw [State.damage, slotState_damage_eq]
    rfl
  · refine congrArg Host.Outcome.next ?_
    rw [State.damage, wrapSlot_damage_eq]
    rfl

end Sys2Proof.Machine

/-! PROOFS. Sectors and fragments (R9 to R16, R33 to R38): a read undoes a write, a sector's bytes give its transform,
and a fragment may be cut anywhere. -/

namespace Sys2Proof.Machine

/-! ### Little-endian numbers -/

theorem leBytes_eq_map (size n : Nat) : leBytes size n = (List.range size).map fun i => BitVec.ofNat 8 (n / 256 ^ i) := by
  induction size generalizing n with
  | zero => rfl
  | succ size ih =>
    rw [leBytes, ih, List.range_succ_eq_map, List.map_cons, List.map_map, Nat.pow_zero, Nat.div_one]
    congr 1
    refine List.map_congr_left fun i _ => ?_
    rw [Function.comp_apply, Nat.div_div_eq_div_mul, Nat.pow_succ']

@[simp] theorem leBytes_length (size n : Nat) : (leBytes size n).length = size := by
  rw [leBytes_eq_map, List.length_map, List.length_range]

theorem bytesNat_leBytes (size n : Nat) : bytesNat (leBytes size n) = n % 256 ^ size := by
  induction size generalizing n with
  | zero => rw [Nat.pow_zero, Nat.mod_one]; rfl
  | succ size ih =>
    rw [leBytes, bytesNat, ih, BitVec.toNat_ofNat, Nat.pow_succ' (n := size), Nat.mod_mul]

theorem bytesNat_lt (bs : List Byte) : bytesNat bs < 256 ^ bs.length := by
  induction bs with
  | nil => decide
  | cons b bs ih =>
    rw [bytesNat, List.length_cons, Nat.pow_succ']
    have hb : b.toNat < 256 := b.isLt
    omega

theorem leBytes_bytesNat (bs : List Byte) : leBytes bs.length (bytesNat bs) = bs := by
  induction bs with
  | nil => rfl
  | cons b bs ih =>
    have hb : b.toNat < 256 := b.isLt
    rw [List.length_cons, leBytes, bytesNat]
    congr 1
    · refine BitVec.eq_of_toNat_eq ?_
      rw [BitVec.toNat_ofNat]
      omega
    · rw [show (b.toNat + 256 * bytesNat bs) / 256 = bytesNat bs by omega, ih]

theorem blockBytes_eq (x : Block) : blockBytes x = leBytes 16 x.toNat := by
  have hmap : blockBytes x = (List.range 16).map (Aes.byteOf x) := rfl
  rw [hmap, leBytes_eq_map]
  refine List.map_congr_left fun i _ => ?_
  rw [Aes.byteOf, BitVec.extractLsb', Nat.shiftRight_eq_div_pow, Nat.pow_mul]

theorem blockOf_blockBytes (x : Block) : blockOf (blockBytes x) = x := by
  have hlt : x.toNat < 256 ^ 16 := x.isLt
  rw [blockOf, blockBytes_eq, bytesNat_leBytes, Nat.mod_eq_of_lt hlt, BitVec.ofNat_toNat, BitVec.setWidth_eq]

theorem blockBytes_blockOf {bs : List Byte} (h : bs.length = 16) : blockBytes (blockOf bs) = bs := by
  have hlt : bytesNat bs < 2 ^ 128 := by simpa [h] using bytesNat_lt bs
  rw [blockBytes_eq, blockOf, BitVec.toNat_ofNat, Nat.mod_eq_of_lt hlt, ← h, leBytes_bytesNat]

/-! ### A read undoes a write -/

theorem cipherBlock_read_write (k1 : BitVec 256) (mask x : Block) :
    cipherBlock .read k1 mask (cipherBlock .write k1 mask x) = x := by
  rw [cipherBlock, cipherBlock, BitVec.xor_assoc, BitVec.xor_self, BitVec.xor_zero, (decipherInvertsEncipher k1 _).1,
    BitVec.xor_assoc, BitVec.xor_self, BitVec.xor_zero]

section

variable {f : Format} {m : MetaMode} {k1 : BitVec 256} {slot : SlotId}

/-- From one block on, the write path gives as many bytes as it takes, and the read path gives them back. -/
theorem feed_read_write (n : Nat) {j : Nat} {mask : Block} {bytes : List Byte} (hn : j + 1 + n = fullBlocks f m)
    (hlen : 16 * j + bytes.length = f.sectorBytes) :
    (feed .write f m (16 * j) [] (.insector slot k1 j mask) bytes).length = bytes.length ∧
    feed .read f m (16 * j) [] (.insector slot k1 j mask)
      (feed .write f m (16 * j) [] (.insector slot k1 j mask) bytes) = bytes := by
  have hLc := cipheredLength_eq f m
  have hle := cipheredLength_le_sectorBytes f m
  have h16 : (bytes.take 16).length = 16 := by simp; omega
  induction n generalizing j mask bytes with
  | succ n ih =>
    obtain ⟨hl, hr⟩ := ih (j := j + 1) (mask := double mask) (bytes := bytes.drop 16) (by omega) (by simp; omega)
      (by simp; omega)
    rw [feed_normal (by omega) (by omega) (by omega)]
    rw [Nat.mul_add] at hl hr
    refine ⟨by simp [hl]; omega, ?_⟩
    rw [feed_normal (by simp) (by omega) (by omega), List.take_left' (blockBytes_length _),
      List.drop_left' (blockBytes_length _), blockOf_blockBytes, cipherBlock_read_write, blockBytes_blockOf h16, hr,
      List.take_append_drop]
  | zero =>
    by_cases htail : tailBytes f m = 0
    · rw [feed_last (by omega) (by omega) hn htail, feed_clear _ (by omega)]
      refine ⟨by simp; omega, ?_⟩
      rw [feed_last (by simp) (by omega) hn htail, feed_clear _ (by omega), List.take_left' (blockBytes_length _),
        List.drop_left' (blockBytes_length _), blockOf_blockBytes, cipherBlock_read_write, blockBytes_blockOf h16,
        List.take_append_drop]
    · have h8 := (tailBytes_eq_zero_or_eight f m).resolve_left htail
      rw [feed_hold (by omega) (by omega) hn htail, feed_tail (by omega) (by simp; omega) (by omega), h8,
        List.drop_drop, stealRelease_eq]
      have htake : ((bytes.drop 16).take 8).length = 8 := by simp; omega
      rw [htake, List.append_assoc]
      refine ⟨by simp; omega, ?_⟩
      generalize hheld : stealHold .write k1 mask (blockOf (bytes.take 16)) = held
      generalize hstolen : blockOf ((bytes.drop 16).take 8 ++ (blockBytes held).drop 8) = stolen
      have hbytes : blockBytes stolen = (bytes.drop 16).take 8 ++ (blockBytes held).drop 8 := by
        rw [← hstolen, blockBytes_blockOf (by simp; omega)]
      have hrest : ((blockBytes held).take 8).length = 8 := by simp
      rw [feed_hold (by simp) (by omega) hn htail, List.take_left' (blockBytes_length _),
        List.drop_left' (blockBytes_length _), blockOf_blockBytes, feed_tail (by omega) (by simp; omega) (by omega), h8,
        List.take_left' hrest, List.drop_left' hrest, stealRelease_eq, hrest]
      have hhold : stealHold .read k1 mask (cipherBlock .write k1 (stolenMask mask .write) stolen) = stolen :=
        cipherBlock_read_write k1 (double mask) stolen
      have hread : cipherBlock .read k1 (stolenMask mask .read) held = blockOf (bytes.take 16) := by
        rw [← hheld]
        exact cipherBlock_read_write k1 mask _
      rw [hhold, hbytes, List.drop_left' htake, List.take_left' htake, List.take_append_drop, blockOf_blockBytes, hread,
        blockBytes_blockOf h16, List.append_assoc, ← List.drop_drop, List.take_append_drop, List.take_append_drop]

end

/-- Settles O9. -/
theorem readInvertsWrite : Obligations.ReadInvertsWrite := by
  intro f m k1 k2 t bytes hlen
  have hpos := fullBlocks_pos f m
  exact feed_read_write (j := 0) (f := f) (m := m) (fullBlocks f m - 1) (by omega) (by simpa using hlen)

end Sys2Proof.Machine

/-! PROOFS. Fragments (R22, R23, R33 to R38): what the bytes of one sector release, and that a fragment may be cut
anywhere. -/

namespace Sys2Proof.Machine

/-! ### Cutting a fragment -/

section

variable {s : State} {c c1 : Context} {b : Byte} {bs : List Byte}

theorem takeBytes_of_fault {k : SlotId} (h : s.startSector c = .error k) :
    s.takeBytes (b :: bs) c = { ctx := c, released := [], stop := .keyFault k } := by
  rw [State.takeBytes, h]

theorem takeBytes_of_last (h : s.startSector c = .ok c1) (hend : (c1.takeByte b).1.sectorsDone = (c1.takeByte b).1.count) :
    s.takeBytes (b :: bs) c =
      { ctx := (c1.takeByte b).1, released := (c1.takeByte b).2, stop := .complete !bs.isEmpty } := by
  rw [State.takeBytes, h]
  exact if_pos hend

theorem takeBytes_of_more (h : s.startSector c = .ok c1) (hend : (c1.takeByte b).1.sectorsDone ≠ (c1.takeByte b).1.count) :
    s.takeBytes (b :: bs) c = { s.takeBytes bs (c1.takeByte b).1 with
      released := (c1.takeByte b).2 ++ (s.takeBytes bs (c1.takeByte b).1).released } := by
  rw [State.takeBytes, h]
  exact if_neg hend

end

/-- A fragment's first part that leaves its context open, then its second. -/
theorem takeBytes_append {s : State} {c : Context} {xs : List Byte} (ys : List Byte)
    (h : (s.takeBytes xs c).stop = .more) : s.takeBytes (xs ++ ys) c =
      { s.takeBytes ys (s.takeBytes xs c).ctx with
        released := (s.takeBytes xs c).released ++ (s.takeBytes ys (s.takeBytes xs c).ctx).released } := by
  induction xs generalizing c with
  | nil => rfl
  | cons x xs ih =>
    rw [List.cons_append]
    cases hstart : s.startSector c with
    | error k =>
      rw [takeBytes_of_fault hstart] at h
      cases h
    | ok c1 =>
      by_cases hend : (c1.takeByte x).1.sectorsDone = (c1.takeByte x).1.count
      · rw [takeBytes_of_last hstart hend] at h
        cases h
      · rw [takeBytes_of_more hstart hend] at h
        rw [takeBytes_of_more hstart hend, takeBytes_of_more hstart hend, ih h]
        simp only [List.append_assoc]

/-! ### Bytes held back -/

/-- What a sector in progress holds back. -/
def heldBytes (residue : List Byte) (p : Progress) : Nat := residue.length + (if p.holdsBlock then 16 else 0)

theorem heldBytes_le {f : Format} {m : MetaMode} {offset : Nat} {residue : List Byte} {p : Progress}
    (h : SectorOk f m offset residue p) : heldBytes residue p ≤ 23 := by
  have hlc := cipheredLength_eq f m
  unfold heldBytes
  cases p with
  | boundary => exact h.elim
  | insector slot k1 j mask =>
    obtain ⟨_, _, hlen⟩ | ⟨_, _, _, hres⟩ := h
    · simp only [Progress.holdsBlock, Bool.false_eq_true, if_false]
      omega
    · simp [hres, Progress.holdsBlock]
  | tailing slot k1 j mask held =>
    obtain ⟨hr, _, hge, hlt, hlen⟩ := h
    simp only [Progress.holdsBlock, if_true]
    omega

/-- A byte is released or held back; at the sector's last offset nothing is held back. -/
theorem placeByte_released {dir : Direction} {f : Format} {m : MetaMode} {offset : Nat} {residue : List Byte}
    {p : Progress} {b : Byte} (h : SectorOk f m offset residue p) :
    (placeByte dir f m offset residue p b).released.length +
        heldBytes (placeByte dir f m offset residue p b).residue (placeByte dir f m offset residue p b).progress =
      heldBytes residue p + 1 ∧
    (offset + 1 = f.sectorBytes →
      heldBytes (placeByte dir f m offset residue p b).residue (placeByte dir f m offset residue p b).progress = 0) := by
  have hlc := cipheredLength_eq f m
  have hle := cipheredLength_le_sectorBytes f m
  have hr08 := tailBytes_eq_zero_or_eight f m
  cases p with
  | boundary => exact h.elim
  | insector slot k1 j mask =>
    obtain ⟨ho, hj, hlen⟩ | ⟨ho, hr, hj, hres⟩ := h
    · have hlt : offset < cipheredLength f m := by omega
      by_cases hfull : residue.length + 1 < 16
      · rw [placeByte_gather (.insector slot k1 j mask) hlt hfull]
        exact ⟨by simp [heldBytes, Progress.holdsBlock], by omega⟩
      · have hlen16 : residue.length + 1 = 16 := by omega
        by_cases hlast : j + 1 < fullBlocks f m
        · rw [placeByte_normal hlt hlen16 hlast]
          exact ⟨by simp [heldBytes, Progress.holdsBlock, hlen16], fun _ => rfl⟩
        · have hjn : j + 1 = fullBlocks f m := by omega
          by_cases hr : tailBytes f m = 0
          · rw [placeByte_last hlt hlen16 hjn hr]
            exact ⟨by simp [heldBytes, Progress.holdsBlock, hlen16], fun _ => rfl⟩
          · rw [placeByte_hold hlt hlen16 hjn hr]
            exact ⟨by simp [heldBytes, Progress.holdsBlock, hlen16], by omega⟩
    · rw [placeByte_clear _ ho]
      exact ⟨by simp [heldBytes, Progress.holdsBlock, hres], fun _ => by simp [heldBytes, Progress.holdsBlock, hres]⟩
  | tailing slot k1 j mask held =>
    obtain ⟨hr, hj, hge, hlt, hlen⟩ := h
    have hs := sectorBytes_of_tail hr
    by_cases hfull : residue.length + 1 < tailBytes f m
    · rw [placeByte_gather (.tailing slot k1 j mask held) hlt hfull]
      exact ⟨by simp [heldBytes, Progress.holdsBlock, Nat.add_right_comm], by omega⟩
    · have hlen8 : residue.length + 1 = tailBytes f m := by omega
      rw [placeByte_tail hlt hlen8]
      refine ⟨?_, fun _ => rfl⟩
      rw [stealRelease_length _ _ _ _ _ (by simp; omega)]
      simp [heldBytes, Progress.holdsBlock]
      omega

theorem heldBack_eq (c : Context) : c.heldBack = heldBytes c.residue c.progress := rfl

theorem Context.ok.heldBack_le {c : Context} (h : c.ok) : c.heldBack ≤ 23 := by
  by_cases hp : c.progress = .boundary
  · obtain ⟨_, _, hb⟩ := h
    rw [hp] at hb
    simp [Context.heldBack, hb.2, hp, Progress.holdsBlock]
  · exact heldBytes_le (h.sectorOk hp)

/-- A byte taken inside a sector is released or held back. -/
theorem takeByte_heldBack {c : Context} {b : Byte}
    (h : SectorOk c.format c.metaMode c.offset c.residue c.progress) :
    (c.takeByte b).2.length + (c.takeByte b).1.heldBack = c.heldBack + 1 := by
  obtain ⟨hsum, hlast⟩ := placeByte_released (dir := c.dir) (b := b) h
  unfold Context.takeByte
  dsimp only
  split
  · rename_i he
    rw [hlast he] at hsum
    exact hsum
  · exact hsum

/-- A sector start holds nothing back. -/
theorem startSector_heldBack {s : State} {c c1 : Context} (h : s.startSector c = .ok c1) :
    c1.heldBack = c.heldBack := by
  unfold State.startSector at h
  split at h
  · rename_i hp
    dsimp only at h
    split at h
    · cases h
    · cases h
      simp [Context.heldBack, hp, Progress.holdsBlock]
  · cases h
    rfl

/-- The bytes a fragment releases are those it takes less the change of those held back; one that does not stay open
releases no more. -/
theorem takeBytes_released {s : State} {bytes : List Byte} {c : Context} (hc : c.ok) :
    ((s.takeBytes bytes c).stop = .more →
      (s.takeBytes bytes c).released.length + (s.takeBytes bytes c).ctx.heldBack = bytes.length + c.heldBack) ∧
    (s.takeBytes bytes c).released.length ≤ bytes.length + c.heldBack := by
  induction bytes generalizing c with
  | nil => exact ⟨fun _ => rfl, Nat.zero_le _⟩
  | cons b bs ih =>
    cases hstart : s.startSector c with
    | error k =>
      rw [takeBytes_of_fault hstart]
      exact ⟨nofun, Nat.zero_le _⟩
    | ok c1 =>
      obtain ⟨hd, ho, hsec⟩ := startSector_ok hc hstart
      have hbyte := takeByte_heldBack (b := b) hsec
      rw [startSector_heldBack hstart] at hbyte
      by_cases hend : (c1.takeByte b).1.sectorsDone = (c1.takeByte b).1.count
      · rw [takeBytes_of_last hstart hend]
        exact ⟨nofun, by simp only [List.length_cons]; omega⟩
      · rw [takeBytes_of_more hstart hend]
        obtain ⟨hmore, hmost⟩ := ih (takeByte_ok hd ho hsec hend)
        simp only [List.length_append, List.length_cons]
        exact ⟨fun h => by have := hmore h; omega, by omega⟩

/-- Settles O11. -/
theorem fragmentsMayBeSplit : Obligations.FragmentsMayBeSplit := by
  refine ⟨fun s c xs ys h => takeBytes_append ys h, fun s c bytes hc h => (takeBytes_released hc).1 h,
    fun s c bytes hc => ?_⟩
  have hmost := (takeBytes_released (s := s) (bytes := bytes) hc).2
  have hheld := hc.heldBack_le
  exact ⟨hheld, hmost, by omega⟩

/-! ### The bytes of one sector -/

/-- A sector in progress under another slot number: the number is read nowhere in the sector. -/
def Progress.withSlot (k : SlotId) : Progress → Progress
  | .boundary => .boundary
  | .insector _ k1 j mask => .insector k k1 j mask
  | .tailing _ k1 j mask held => .tailing k k1 j mask held

theorem placeByte_withSlot (dir : Direction) (f : Format) (m : MetaMode) (offset : Nat) (residue : List Byte)
    (p : Progress) (b : Byte) (k : SlotId) : placeByte dir f m offset residue (p.withSlot k) b =
      { placeByte dir f m offset residue p b with
        progress := (placeByte dir f m offset residue p b).progress.withSlot k } := by
  unfold placeByte
  split
  · rfl
  · cases p with
    | boundary => rfl
    | insector slot k1 j mask =>
      dsimp only [Progress.withSlot]
      split
      · rfl
      · split
        · rfl
        · split <;> rfl
    | tailing slot k1 j mask held =>
      dsimp only [Progress.withSlot]
      split <;> rfl

theorem feed_withSlot {dir : Direction} {f : Format} {m : MetaMode} {offset : Nat} {residue bytes : List Byte}
    {p : Progress} (k : SlotId) :
    feed dir f m offset residue (p.withSlot k) bytes = feed dir f m offset residue p bytes := by
  induction bytes generalizing offset residue p with
  | nil => rfl
  | cons b bs ih =>
    rw [feed, feed, placeByte_withSlot, ih]

/-- The rest of a sector: what its bytes release, and the sector counted (R36). -/
theorem takeBytes_sector (s : State) {c : Context} {bytes : List Byte}
    (h : SectorOk c.format c.metaMode c.offset c.residue c.progress) (hne : bytes ≠ [])
    (hlen : c.offset + bytes.length = c.format.sectorBytes) (hcount : c.sectorsDone + 1 ≤ c.count) :
    s.takeBytes bytes c =
      { ctx := { c with sectorsDone := c.sectorsDone + 1, offset := 0, residue := [], progress := .boundary },
        released := feed c.dir c.format c.metaMode c.offset c.residue c.progress bytes,
        stop := if c.sectorsDone + 1 = c.count then .complete false else .more } := by
  induction bytes generalizing c with
  | nil => exact absurd rfl hne
  | cons b bs ih =>
    have hstart : s.startSector c = .ok c := by
      unfold State.startSector
      split
      · rename_i hp
        rw [hp] at h
        exact h.elim
      · rfl
    rw [List.length_cons] at hlen
    by_cases hlast : c.offset + 1 = c.format.sectorBytes
    · obtain rfl : bs = [] := List.length_eq_zero_iff.1 (by omega)
      have hbyte : c.takeByte b = ({ c with
          sectorsDone := c.sectorsDone + 1, offset := 0, residue := [], progress := .boundary },
          (placeByte c.dir c.format c.metaMode c.offset c.residue c.progress b).released) := if_pos hlast
      rw [feed, feed, List.append_nil]
      by_cases hend : c.sectorsDone + 1 = c.count
      · rw [takeBytes_of_last hstart (by rw [hbyte]; exact hend), hbyte, if_pos hend]
        rfl
      · rw [takeBytes_of_more hstart (by rw [hbyte]; exact hend), hbyte, if_neg hend]
        simp [State.takeBytes]
    · have hbyte : c.takeByte b = ({ c with
          offset := c.offset + 1
          residue := (placeByte c.dir c.format c.metaMode c.offset c.residue c.progress b).residue
          progress := (placeByte c.dir c.format c.metaMode c.offset c.residue c.progress b).progress },
          (placeByte c.dir c.format c.metaMode c.offset c.residue c.progress b).released) := if_neg hlast
      have hopen : ¬c.sectorsDone = c.count := by omega
      have hin : c.offset + 1 < c.format.sectorBytes := by omega
      have hrest : bs ≠ [] := by
        rintro rfl
        exact hlast hlen
      rw [takeBytes_of_more hstart (by rw [hbyte]; exact hopen), hbyte, ih (c := { c with
          offset := c.offset + 1
          residue := (placeByte c.dir c.format c.metaMode c.offset c.residue c.progress b).residue
          progress := (placeByte c.dir c.format c.metaMode c.offset c.residue c.progress b).progress })
        (placeByte_sectorOk h hin) hrest ((Nat.add_right_comm c.offset 1 bs.length).trans hlen) hcount]
      rfl

/-- A record in BOUNDARY after the sector start of a slot's material (R34). -/
def State.started (s : State) (c : Context) (m : Material) : Context :=
  { c with
    progress := .insector (s.slotFor c (c.first + c.sectorsDone)) (materialK1 m) 0 (firstMask (materialK2 m) (tweak c.ns (c.first + c.sectorsDone) (s.saltFor c (c.first + c.sectorsDone)))) }

theorem startSector_started {s : State} {c : Context} {m : Material} (hp : c.progress = .boundary)
    (h : s.fetch (s.slotFor c (c.first + c.sectorsDone)) = some m) : s.startSector c = .ok (s.started c m) := by
  rw [State.startSector, hp]
  dsimp only
  rw [h]
  rfl

/-- Settles O10. -/
theorem sectorsAreTransformedWhole : Obligations.SectorsAreTransformedWhole := by
  intro s c bytes m hp ho hres hcount hlen hfetch
  have hpos := sectorBytes_pos c.format
  have hne : bytes ≠ [] := by
    rintro rfl
    exact absurd hlen.symm hpos.ne'
  have hsector : SectorOk (s.started c m).format (s.started c m).metaMode (s.started c m).offset
      (s.started c m).residue (s.started c m).progress :=
    .inl ⟨ho.trans_lt (Nat.mul_pos (by decide) (fullBlocks_pos _ _)), by rw [State.started, ho],
      by rw [State.started, hres, ho]; rfl⟩
  have hsame : s.takeBytes bytes c = s.takeBytes bytes (s.started c m) := by
    cases bytes with
    | nil => exact absurd rfl hne
    | cons b bs =>
      rw [State.takeBytes, State.takeBytes, startSector_started hp hfetch]
      rfl
  have hfeed := feed_withSlot (dir := c.dir) (f := c.format) (m := c.metaMode) (offset := 0) (residue := [])
    (bytes := bytes) (p := .insector 0 (materialK1 m) 0
      (firstMask (materialK2 m) (tweak c.ns (c.first + c.sectorsDone) (s.saltFor c (c.first + c.sectorsDone)))))
    (s.slotFor c (c.first + c.sectorsDone))
  rw [hsame, takeBytes_sector s hsector hne ((congrArg (· + bytes.length) ho).trans ((Nat.zero_add _).trans hlen)) hcount,
    cipherSector, ← hfeed]
  simp only [State.started, ho, hres, hp, Progress.withSlot]

end Sys2Proof.Machine

/-! PROOFS. Watermarks, key choice and segments (R6, R19, R34, R56, R110, R114, R116 to R121): where a watermark is
placed, which key and salt a sector takes, and the runs of one owner. -/

namespace Sys2Proof.Machine

/-! ### The place of a watermark -/

theorem locks_iff_locking {s : State} {ns : Ns} {x : Nat} : s.locks ns x ↔
    ∃ (i : BandId) (b : Band) (first last : Nat), s.bands[i] = some b ∧
      b.fields.extent = .locking ns first last ∧ first ≤ x ∧ x ≤ last := by
  constructor
  · rintro ⟨i, b, ⟨first, last⟩, hb, he, hle, hge⟩
    refine ⟨i, b, first, last, hb, ?_, hle, hge⟩
    unfold Extent.lockingIn at he
    split at he
    · rename_i n f l hext
      split at he
      · rename_i hn
        cases he
        rw [hext, hn]
      · cases he
    · cases he
  · rintro ⟨i, b, first, last, hb, he, hle, hge⟩
    exact ⟨i, b, (first, last), hb, by rw [he, Extent.lockingIn, if_pos rfl], hle, hge⟩

/-- Every LBA that a placement passes lies in a locking band. -/
theorem locks_of_lt_placed {s : State} {ns : Ns} {fuel w x : Nat} (hge : w ≤ x) (hlt : x < s.placed ns fuel w) :
    s.locks ns x := by
  induction fuel generalizing w with
  | zero => exact absurd hlt (Nat.not_lt.2 hge)
  | succ fuel ih =>
    rw [State.placed] at hlt
    split at hlt
    · rename_i j last hl
      obtain ⟨b, e, hb, he, hle, _, rfl⟩ := lockingAt_of_some hl
      by_cases hx : x ≤ e.2
      · exact ⟨j, b, e, hb, he, hle.trans hge, hx⟩
      · exact ih (Nat.lt_of_not_le hx) hlt
    · exact absurd hlt (Nat.not_lt.2 hge)

theorem placeFor_baseBand (s : State) (ns : Ns) (w : Nat) : s.placeFor (baseBand ns) w = s.placed ns 32 w :=
  dif_pos ns.isLt

theorem placeFor_of_locking (s : State) {i : BandId} (w : Nat) (h : 8 ≤ i.val) : s.placeFor i w = w :=
  dif_neg (Nat.not_lt.2 h)

theorem placeFor_eq_iff (s : State) (ns : Ns) (w v : Nat) : s.placeFor (baseBand ns) w = v ↔
    w ≤ v ∧ (∀ x, w ≤ x → x < v → s.locks ns x) ∧ ¬s.locks ns v := by
  rw [placeFor_baseBand]
  constructor
  · rintro rfl
    exact ⟨placed_ge s ns 32 w, fun x hge hlt => locks_of_lt_placed hge hlt, not_locks_placed_32 s ns w⟩
  · rintro ⟨hle, hall, hfree⟩
    refine Nat.le_antisymm (Nat.not_lt.1 fun hlt => hfree (locks_of_lt_placed hle hlt)) (Nat.not_lt.1 fun hlt => ?_)
    exact not_locks_placed_32 s ns w (hall _ (placed_ge s ns 32 w) hlt)

/-! ### A watermark given to a migrating band -/

/-- The ADVANCE event, where one is reported. -/
def State.announce (s : State) (announce : Bool) (i : BandId) (w : Nat) : State :=
  if announce then s.report (.migrate i .advance w) else s

theorem announce_bands (s : State) (announce : Bool) (i : BandId) (w : Nat) :
    (s.announce announce i w).bands = s.bands := by
  unfold State.announce
  split
  · exact report_bands s _
  · rfl

theorem announce_linkTime (s : State) (announce : Bool) (i : BandId) (w : Nat) :
    (s.announce announce i w).linkTime = s.linkTime := by
  unfold State.announce
  split
  · exact (congrArg State.linkTime (report_outside s _) :)
  · rfl

section Move

variable {s : State} {i : BandId} {b : Band} {r : Migration} (hb : s.bands[i] = some b) (hr : b.migration = some r)
  (w : Nat) (announce : Bool)
include hb hr

theorem moveWatermark_below (hw : w ≠ b.fields.extent.endLba) : s.moveWatermark i w announce =
    (s.announce announce i w).setBand i (some { b with migration := some { r with w := w } }) := by
  rw [State.moveWatermark, hb]
  dsimp only
  rw [hr]
  exact if_neg hw

theorem moveWatermark_end (hw : w = b.fields.extent.endLba) : s.moveWatermark i w announce =
    ((s.announce announce i w).setBand i (some { b with
      fields := { b.fields with binding := some ⟨r.target, r.targetGeneration⟩ },
      migration := none, writer := none })).report (.migrate i .complete w) := by
  rw [State.moveWatermark, hb]
  dsimp only
  rw [hr]
  exact if_pos hw

end Move

/-! ### Keys and salts -/

/-- The first segment that encloses an LBA is the sector's. -/
theorem segmentAt_eq {c : Context} {before after : List Segment} {g : Segment} {lba : Nat}
    (hc : c.segments = before ++ g :: after) (hbefore : ∀ h ∈ before, ¬(h.first ≤ lba ∧ lba ≤ h.last))
    (hfirst : g.first ≤ lba) (hlast : lba ≤ g.last) : c.segmentAt lba = some g := by
  have hnone : (before.find? fun g => decide (g.first ≤ lba) && decide (lba ≤ g.last)) = none :=
    List.find?_eq_none.2 fun h hh => by simpa using hbefore h hh
  rw [Context.segmentAt, hc, List.find?_append, hnone, Option.none_or, List.find?_cons_of_pos (by simp [hfirst, hlast])]

/-- Settles O42. -/
theorem watermarksAndKeyChoice : Obligations.WatermarksAndKeyChoice := by
  refine ⟨fun s i w h => placeFor_of_locking s w h, fun s ns w v covered hcovered => ?placed,
    fun s i b r w announce hb hr => ⟨fun hw => ?below, fun hw => ?ends⟩,
    fun s c before after g lba hc hbefore hfirst hlast => ?segment, fun s dir migrate g lba => ⟨fun ht => ?alone, fun target ht =>
      ⟨fun hm => ?migrates, fun hm => ⟨fun hr => ?gone, fun r hr => ?record⟩⟩⟩⟩
  case placed =>
    have hlocks : ∀ x, covered x ↔ s.locks ns x := fun x => (hcovered x).trans locks_iff_locking.symm
    simp only [hlocks]
    exact placeFor_eq_iff s ns w v
  case below =>
    rw [moveWatermark_below hb hr w announce hw]
    exact ⟨congrArg (fun v : Vector (Option Band) 32 => v.set i _) (announce_bands s announce i w), rfl, rfl⟩
  case ends =>
    rw [moveWatermark_end hb hr w announce hw]
    refine ⟨(report_bands _ _).trans (congrArg (fun v : Vector (Option Band) 32 => v.set i _) (announce_bands s announce i w)),
      ?_, report_sameNotices (s := s.announce announce i w) (t := (s.announce announce i w).setBand i _) ⟨rfl, rfl⟩ rfl _⟩
    exact (report_latest _ (.migrate i .complete w)).trans (by rw [setBand_linkTime, announce_linkTime])
  case segment =>
    have hat := segmentAt_eq hc hbefore hfirst hlast
    refine ⟨?_, fun hb => ?_, fun b hb => ?_⟩
    · rw [State.slotFor, hat]
    · rw [State.saltFor, hat]
      dsimp only
      rw [hb]
      rfl
    · rw [State.saltFor, hat]
      dsimp only
      rw [hb]
      rfl
  case alone =>
    rw [State.choose, ht]
  case migrates =>
    rw [State.choose, ht]
    dsimp only
    rw [if_pos hm]
    cases dir <;> rfl
  case gone =>
    rw [State.choose, ht]
    dsimp only
    rw [hm, if_neg Bool.false_ne_true, hr]
  case record =>
    rw [State.choose, ht]
    dsimp only
    rw [hm, if_neg Bool.false_ne_true, hr]

/-! ### Segments -/

section Runs

variable {s : State} (hl : s.LayoutOk) {ns : Ns}
include hl

/-- The locking bands of a namespace share no LBA, so the band found at an LBA is the one that contains it (R61). -/
theorem lockingAt_of_contains {i : BandId} {b : Band} {e : Nat × Nat} {x : Nat} (hb : s.bands[i] = some b)
    (he : b.presentLocking ns = some e) (hle : e.1 ≤ x) (hge : x ≤ e.2) : s.lockingAt ns x = some (i, e.2) := by
  obtain ⟨_, _, hapart⟩ := hl
  cases hat : s.lockingAt ns x with
  | none => exact absurd ⟨i, b, e, hb, he, hle, hge⟩ (lockingAt_eq_none.1 hat)
  | some found =>
    obtain ⟨j, last⟩ := found
    obtain ⟨b', e', hb', he', hle', hge', rfl⟩ := lockingAt_of_some hat
    by_cases hij : i = j
    · subst hij
      cases hb.symm.trans hb'
      cases he.symm.trans he'
      rfl
    · have := hapart i j b b' ns e e' hij hb hb' (.inl he) (.inl he')
      omega

/-- A band that locks LBAs is no base band (R51). -/
theorem ne_baseBand_of_lockingAt {i : BandId} {x last : Nat} (h : s.lockingAt ns x = some (i, last)) (ns' : Ns) :
    i ≠ baseBand ns' := by
  rintro rfl
  obtain ⟨b, e, hb, he, _⟩ := lockingAt_of_some h
  have hkind := ((hl.1 _ b hb).1).trans (isBase_baseBand ns')
  cases (lockingIn_of_base hkind ns).symm.trans he

omit hl in
theorem owner_of_lockingAt {i : BandId} {x last : Nat} (h : s.lockingAt ns x = some (i, last)) :
    s.owner ns x = i := by
  rw [State.owner, h]

omit hl in
theorem owner_of_free {x : Nat} (h : s.lockingAt ns x = none) : s.owner ns x = baseBand ns := by
  rw [State.owner, h]

/-- A locking band owns its run, and not the LBA behind it. -/
theorem owner_lockingRun {i : BandId} {x last : Nat} (h : s.lockingAt ns x = some (i, last)) :
    (∀ y, x ≤ y → y ≤ last → s.owner ns y = i) ∧ s.owner ns (last + 1) ≠ i := by
  obtain ⟨b, e, hb, he, hle, _, rfl⟩ := lockingAt_of_some h
  refine ⟨fun y hx hy => owner_of_lockingAt (lockingAt_of_contains hl hb ((presentLocking_eq b ns).trans he)
    (hle.trans hx) hy), fun howner => ?_⟩
  cases hat : s.lockingAt ns (e.2 + 1) with
  | none => exact ne_baseBand_of_lockingAt hl h ns (howner.symm.trans (owner_of_free hat))
  | some found =>
    obtain ⟨j, last⟩ := found
    obtain rfl : j = i := (owner_of_lockingAt hat).symm.trans howner
    obtain ⟨b', e', hb', he', _, hge', rfl⟩ := lockingAt_of_some hat
    cases hb.symm.trans hb'
    cases he.symm.trans he'
    exact absurd hge' (Nat.not_succ_le_self _)

end Runs

/-- The LBAs that a band of the table locks in a namespace. -/
def State.lockedBy (s : State) (ns : Ns) (i : BandId) : Option (Nat × Nat) :=
  (s.bands[i]).bind fun b => b.fields.extent.lockingIn ns

theorem lockedBy_eq_some {s : State} {ns : Ns} {i : BandId} {e : Nat × Nat} : s.lockedBy ns i = some e ↔
    ∃ b, s.bands[i] = some b ∧ b.fields.extent.lockingIn ns = some e := Option.bind_eq_some_iff

/-- One step of the search for the end of a base band's run: a band ahead cuts the run off before its first LBA. -/
def State.cutRun (s : State) (ns : Ns) (lba acc : Nat) (i : BandId) : Nat :=
  match s.lockedBy ns i with
  | none => acc
  | some e => if lba < e.1 ∧ e.1 ≤ acc then e.1 - 1 else acc

theorem baseRunEnd_eq (s : State) (ns : Ns) (lba limit : Nat) :
    s.baseRunEnd ns lba limit = allBands.foldl (s.cutRun ns lba) limit := by
  unfold State.baseRunEnd
  congr 1
  funext acc i
  unfold State.cutRun State.lockedBy Extent.lockingIn
  cases s.bands[i] with
  | none => rfl
  | some b =>
    dsimp only [Option.bind_some]
    cases b.fields.extent with
    | base => rfl
    | locking n first last =>
      by_cases hn : n = ns <;> simp [hn]

/-- The run ends at the limit or before the next locking band, and passes none. -/
theorem foldl_cutRun (s : State) (ns : Ns) {lba limit : Nat} (h : lba ≤ limit) (is : List BandId) :
    lba ≤ is.foldl (s.cutRun ns lba) limit ∧ is.foldl (s.cutRun ns lba) limit ≤ limit ∧
    (∀ i ∈ is, ∀ e, s.lockedBy ns i = some e → lba < e.1 → is.foldl (s.cutRun ns lba) limit < e.1) ∧
    (is.foldl (s.cutRun ns lba) limit = limit ∨
      ∃ i e, s.lockedBy ns i = some e ∧ e.1 = is.foldl (s.cutRun ns lba) limit + 1) := by
  induction is generalizing limit with
  | nil => exact ⟨h, Nat.le_refl _, nofun, .inl rfl⟩
  | cons i is ih =>
    rw [List.foldl_cons]
    have hstep : lba ≤ s.cutRun ns lba limit i ∧ s.cutRun ns lba limit i ≤ limit ∧
        (∀ e, s.lockedBy ns i = some e → lba < e.1 → s.cutRun ns lba limit i < e.1) ∧
        (s.cutRun ns lba limit i = limit ∨ ∃ e, s.lockedBy ns i = some e ∧ e.1 = s.cutRun ns lba limit i + 1) := by
      unfold State.cutRun
      cases he : s.lockedBy ns i with
      | none => exact ⟨h, Nat.le_refl _, nofun, .inl rfl⟩
      | some e =>
        dsimp only
        split
        · refine ⟨by omega, by omega, fun e' he' hlt => ?_, .inr ⟨e, rfl, by omega⟩⟩
          cases he'
          omega
        · refine ⟨h, Nat.le_refl _, fun e' he' hlt => ?_, .inl rfl⟩
          cases he'
          omega
    obtain ⟨h1, h2, h3, h4⟩ := hstep
    obtain ⟨i1, i2, i3, i4⟩ := ih h1
    refine ⟨i1, i2.trans h2, fun j hj e he hlt => ?_, ?_⟩
    · obtain rfl | hj := List.mem_cons.1 hj
      · exact i2.trans_lt (h3 e he hlt)
      · exact i3 j hj e he hlt
    · obtain heq | hnext := i4
      · rw [heq]
        exact h4.imp id fun ⟨e, he⟩ => ⟨i, e, he⟩
      · exact .inr hnext

/-- The base band owns its run, and not the LBA behind it, where the run ends before its limit. -/
theorem owner_baseRun {s : State} (hl : s.LayoutOk) {ns : Ns} {x limit : Nat} (h : s.lockingAt ns x = none)
    (hx : x ≤ limit) : x ≤ s.baseRunEnd ns x limit ∧ s.baseRunEnd ns x limit ≤ limit ∧
      (∀ y, x ≤ y → y ≤ s.baseRunEnd ns x limit → s.owner ns y = baseBand ns) ∧
      (s.baseRunEnd ns x limit ≠ limit → s.owner ns (s.baseRunEnd ns x limit + 1) ≠ baseBand ns) := by
  obtain ⟨h1, h2, h3, h4⟩ := foldl_cutRun s ns hx allBands
  rw [← baseRunEnd_eq] at h1 h2 h3 h4
  refine ⟨h1, h2, fun y hy hlast => owner_of_free (lockingAt_eq_none.2 ?_), fun hne => ?_⟩
  · rintro ⟨j, b, e, hb, he, hle, hge⟩
    refine lockingAt_eq_none.1 h ⟨j, b, e, hb, he, Nat.not_lt.1 fun hlt => ?_, hy.trans hge⟩
    have := h3 j (List.mem_finRange j) e (lockedBy_eq_some.2 ⟨b, hb, he⟩) hlt
    omega
  · obtain ⟨i, e, he, hfirst⟩ := h4.resolve_left hne
    obtain ⟨b, hb, he⟩ := lockedBy_eq_some.1 he
    have hpresent := (presentLocking_eq b ns).trans he
    have horder := (hl.2.1 i b ns e hb (.inl hpresent)).1
    have hat := lockingAt_of_contains hl hb hpresent hfirst.le (hfirst ▸ horder)
    rw [owner_of_lockingAt hat]
    exact ne_baseBand_of_lockingAt hl hat ns

/-- Runs from an LBA to a last one: contiguous, each owned throughout by its band, two neighbours by different
bands. -/
def State.RunsFrom (s : State) (ns : Ns) (last lba : Nat) (gs : List Span) : Prop :=
  gs.head?.map (·.first) = some lba ∧ gs.getLast?.map (·.last) = some last ∧
  (∀ g ∈ gs, g.first ≤ g.last ∧ ∀ x, g.first ≤ x → x ≤ g.last → s.owner ns x = g.band) ∧
  (∀ k a b, gs[k]? = some a → gs[k + 1]? = some b → b.first = a.last + 1 ∧ b.band ≠ a.band)

section RunsFrom

variable {s : State} {ns : Ns} {last lba e : Nat} {i : BandId} (hle : lba ≤ e)
  (howned : ∀ x, lba ≤ x → x ≤ e → s.owner ns x = i)
include hle howned

theorem runsFrom_single (hlast : e = last) : s.RunsFrom ns last lba [⟨i, lba, e⟩] := by
  refine ⟨rfl, congrArg some hlast, fun g hg => ?_, fun k a b ha hb => by simp at hb⟩
  obtain rfl := List.mem_singleton.1 hg
  exact ⟨hle, howned⟩

theorem runsFrom_cons {gs : List Span} (hnext : s.owner ns (e + 1) ≠ i) (h : s.RunsFrom ns last (e + 1) gs) :
    s.RunsFrom ns last lba (⟨i, lba, e⟩ :: gs) := by
  obtain ⟨hhead, hend, hall, hpairs⟩ := h
  cases gs with
  | nil => cases hhead
  | cons g gs =>
    refine ⟨rfl, hend, fun h hh => ?_, fun k a b ha hb => ?_⟩
    · obtain rfl | hh := List.mem_cons.1 hh
      · exact ⟨hle, howned⟩
      · exact hall h hh
    · cases k with
      | zero =>
        cases ha
        cases hb
        have hfirst : g.first = e + 1 := Option.some.inj hhead
        obtain ⟨hspan, howner⟩ := hall g List.mem_cons_self
        refine ⟨hfirst, fun hband => hnext ?_⟩
        rw [← hfirst, howner g.first (Nat.le_refl _) hspan, hband]
      | succ k => exact hpairs k a b ha hb

end RunsFrom

theorem spansFrom_runs {s : State} (hl : s.LayoutOk) {ns : Ns} {last : Nat} (fuel : Nat) {lba : Nat} (hle : lba ≤ last)
    (hfuel : last < lba + fuel) : s.RunsFrom ns last lba (s.spansFrom ns last fuel lba) := by
  induction fuel generalizing lba with
  | zero => omega
  | succ fuel ih =>
    have hend : s.spansFrom ns last fuel (last + 1) = [] := by
      cases fuel with
      | zero => rfl
      | succ fuel => exact if_pos (Nat.lt_succ_self last)
    rw [State.spansFrom, if_neg (Nat.not_lt.2 hle)]
    cases hat : s.lockingAt ns lba with
    | some found =>
      obtain ⟨i, bandLast⟩ := found
      obtain ⟨howned, hnext⟩ := owner_lockingRun hl hat
      obtain ⟨_, e, _, _, _, hge, rfl⟩ := lockingAt_of_some hat
      have howned' : ∀ x, lba ≤ x → x ≤ min e.2 last → s.owner ns x = i := fun x hx hy => howned x hx (by omega)
      dsimp only
      by_cases hcut : last ≤ e.2
      · rw [Nat.min_eq_right hcut] at howned' ⊢
        rw [hend]
        exact runsFrom_single hle howned' rfl
      · rw [Nat.min_eq_left (by omega)] at howned' ⊢
        exact runsFrom_cons hge howned' hnext (ih (by omega) (by omega))
    | none =>
      obtain ⟨h1, h2, howned, hnext⟩ := owner_baseRun hl hat hle
      dsimp only
      by_cases hcut : s.baseRunEnd ns lba last = last
      · rw [hcut] at howned ⊢
        rw [hend]
        exact runsFrom_single hle howned rfl
      · exact runsFrom_cons h1 howned (hnext hcut) (ih (by omega) (by omega))

/-- Settles O19. -/
theorem segmentsFollowTheOwners : Obligations.SegmentsFollowTheOwners :=
  fun s ns first count hl hpos => spansFrom_runs hl count (by omega) (by omega)

end Sys2Proof.Machine

/-! PROOFS. The application of BAND-SET and MIGRATE-START (R63, R65, R111 to R114, R121, R125): what an application does
to its band, to a watermark that its extent would contain, and to everything else. -/

namespace Sys2Proof.Machine

/-! ### Work on bands and notices -/

/-- Between two states at most the band table and the notice unit differ. -/
def State.ChangesBands (s t : State) : Prop :=
  ∃ bands classes noticeSlots, t = { s with bands := bands, classes := classes, noticeSlots := noticeSlots }

theorem State.ChangesBands.refl (s : State) : s.ChangesBands s := ⟨_, _, _, rfl⟩

theorem State.ChangesBands.trans {s t u : State} (h : s.ChangesBands t) (h' : t.ChangesBands u) : s.ChangesBands u := by
  obtain ⟨_, _, _, rfl⟩ := h
  obtain ⟨_, _, _, rfl⟩ := h'
  exact ⟨_, _, _, rfl⟩

theorem State.ChangesBands.restored {s t : State} (h : s.ChangesBands t) :
    { t with bands := s.bands, classes := s.classes, noticeSlots := s.noticeSlots } = s := by
  obtain ⟨_, _, _, rfl⟩ := h
  rfl

theorem setBand_changesBands (s : State) (i : BandId) (b : Option Band) : s.ChangesBands (s.setBand i b) :=
  ⟨_, _, _, rfl⟩

theorem report_changesBands (s : State) (d : Detail) : s.ChangesBands (s.report d) := by
  unfold State.report
  dsimp only
  split
  · exact ⟨_, _, _, rfl⟩
  · exact ⟨_, _, _, rfl⟩

theorem setBand_setBand (s : State) (i : BandId) (b b' : Option Band) :
    (s.setBand i b).setBand i b' = s.setBand i b' := by
  simp [State.setBand]

theorem moveWatermark_changesBands (s : State) (i : BandId) (w : Nat) (announce : Bool) :
    s.ChangesBands (s.moveWatermark i w announce) := by
  have hannounce : ∀ announce, s.ChangesBands (s.announce announce i w) := by
    intro announce
    cases announce
    · exact .refl s
    · exact report_changesBands s _
  cases hr : (s.bands[i]).bind (·.migration) with
  | none =>
    rw [moveWatermark_of_idle hr]
    exact .refl s
  | some r =>
    obtain ⟨b, hb, hr⟩ := Option.bind_eq_some_iff.1 hr
    by_cases hw : w = b.fields.extent.endLba
    · rw [moveWatermark_end hb hr w announce hw]
      exact ((hannounce announce).trans (setBand_changesBands _ _ _)).trans (report_changesBands _ _)
    · rw [moveWatermark_below hb hr w announce hw]
      exact (hannounce announce).trans (setBand_changesBands _ _ _)

/-! ### The place of a watermark under an application -/

theorem placeFor_of_locks {s t : State} (h : t.locks = s.locks) : t.placeFor = s.placeFor := by
  funext i w
  by_cases hi : i.val < 8
  · refine (placeFor_eq_iff t ⟨i.val, hi⟩ w (s.placeFor i w)).2 ?_
    rw [h]
    exact (placeFor_eq_iff s ⟨i.val, hi⟩ w (s.placeFor i w)).1 rfl
  · rw [placeFor_of_locking t w (Nat.not_lt.1 hi), placeFor_of_locking s w (Nat.not_lt.1 hi)]

theorem placeFor_of_bands {s t : State} (h : t.bands = s.bands) : t.placeFor = s.placeFor :=
  placeFor_of_locks (locks_of_extents (by unfold State.extents; rw [h]))

theorem replaceWatermark_of_idle {s : State} {ns : Ns} (h : (s.bands[baseBand ns]).bind (·.migration) = none) :
    s.replaceWatermark ns = s := by
  rw [State.replaceWatermark, h]

theorem replaceWatermark_of_record {s : State} {ns : Ns} {b : Band} {r : Migration} (hb : s.bands[baseBand ns] = some b)
    (hr : b.migration = some r) : s.replaceWatermark ns =
      if s.placeFor (baseBand ns) r.w = r.w then s
      else s.moveWatermark (baseBand ns) (s.placeFor (baseBand ns) r.w) true := by
  rw [State.replaceWatermark, hb, Option.bind_some, hr]

theorem replaceWatermark_changesBands (s : State) (ns : Ns) : s.ChangesBands (s.replaceWatermark ns) := by
  unfold State.replaceWatermark
  split
  · exact .refl s
  · dsimp only
    split
    · exact .refl s
    · exact moveWatermark_changesBands s _ _ _

theorem moveWatermark_get_ne (s : State) {i j : BandId} (w : Nat) (announce : Bool) (h : i ≠ j) :
    (s.moveWatermark i w announce).bands[j] = s.bands[j] := by
  cases hr : (s.bands[i]).bind (·.migration) with
  | none => rw [moveWatermark_of_idle hr]
  | some r =>
    obtain ⟨b, hb, hr⟩ := Option.bind_eq_some_iff.1 hr
    rw [moveWatermark_bands_get hb hr, if_neg h]

theorem replaceWatermark_get_ne (s : State) {ns : Ns} {j : BandId} (h : j ≠ baseBand ns) :
    (s.replaceWatermark ns).bands[j] = s.bands[j] := by
  unfold State.replaceWatermark
  split
  · rfl
  · dsimp only
    split
    · rfl
    · exact moveWatermark_get_ne s _ _ h.symm

/-! ### BAND-SET applies -/

theorem applyBandSet_changesBands (s : State) (i : BandId) (new : Option BandFields) :
    s.ChangesBands (s.applyBandSet i new) := by
  cases new with
  | none => exact setBand_changesBands s i none
  | some f =>
    rw [applyBandSet_some]
    split
    · exact (setBand_changesBands _ _ _).trans (replaceWatermark_changesBands _ _)
    · exact setBand_changesBands _ _ _

theorem applyBandSet_get_self (s : State) (i : BandId) (new : Option BandFields) :
    (s.applyBandSet i new).bands[i] = new.map (s.entered i) := by
  cases new with
  | none => exact setBand_get_self s i none
  | some f =>
    have hself := setBand_get_self s i (some (s.entered i f))
    rw [applyBandSet_some]
    split
    · rename_i ns _ _ _
      by_cases hi : i = baseBand ns
      · subst hi
        rw [replaceWatermark_of_idle (by rw [hself]; rfl)]
        exact hself
      · exact (replaceWatermark_get_ne _ hi).trans hself
    · exact hself

/-- The bands that an application leaves: all others, but for a migrating base band under a new locking band. -/
theorem applyBandSet_get_ne (s : State) {i j : BandId} (new : Option BandFields) (hj : j ≠ i)
    (hidle : ∀ g ns first last, new = some g → g.extent = .locking ns first last → j = baseBand ns →
      (s.bands[j]).bind (·.migration) = none) : (s.applyBandSet i new).bands[j] = s.bands[j] := by
  cases new with
  | none => exact setBand_get_ne s none hj.symm
  | some f =>
    have hset := setBand_get_ne s (some (s.entered i f)) hj.symm
    rw [applyBandSet_some]
    split
    · rename_i ns first last hx
      by_cases hbase : j = baseBand ns
      · have hnone := hidle f ns first last rfl hx hbase
        subst hbase
        rw [replaceWatermark_of_idle (by rw [hset]; exact hnone)]
        exact hset
      · exact (replaceWatermark_get_ne _ hbase).trans hset
    · exact hset

theorem applyBandSet_placedAgain (s : State) {i : BandId} (new : Option BandFields)
    (hi : ∀ g ns first last, new = some g → g.extent = .locking ns first last → i ≠ baseBand ns) :
    s.WatermarkPlacedAgain (s.applyBandSet i new) new := by
  refine ⟨fun g ns first last b r w hnew hx hb hr hw => ?_, fun h => ?_⟩
  · subst hnew
    have hne := hi g ns first last rfl hx
    have happly : s.applyBandSet i (some g) = (s.setBand i (some (s.entered i g))).replaceWatermark ns := by
      rw [applyBandSet_some, hx]
    rw [happly, placeFor_of_locks (locks_of_extents (extents_of_shapes (replaceWatermark_shapes _ ns)))] at hw
    rw [happly]
    have hb' : (s.setBand i (some (s.entered i g))).bands[baseBand ns] = some b :=
      (setBand_get_ne s _ hne).trans hb
    rw [replaceWatermark_of_record hb' hr, ← hw]
    refine ⟨fun h => ?_, fun h hend => ?_, fun h hend => ?_⟩
    · rw [if_pos h]
      exact ⟨hb', rfl, rfl⟩
    · rw [if_neg h, moveWatermark_below hb' hr w true hend]
      exact ⟨setBand_get_self _ _ _, report_sameNotices (s := s) (t := s.setBand i _) ⟨rfl, rfl⟩ rfl _⟩
    · rw [if_neg h, moveWatermark_end hb' hr w true hend]
      refine ⟨?_, ?_⟩
      · rw [report_bands]
        exact setBand_get_self _ _ _
      · have hadvance := report_sameNotices (s := s) (t := s.setBand i (some (s.entered i g))) ⟨rfl, rfl⟩ rfl
          (.migrate (baseBand ns) .advance w)
        refine report_sameNotices (s := s.report _) (t := State.setBand _ (baseBand ns) _) hadvance ?_ _
        exact (announce_linkTime _ true _ _).trans (congrArg State.linkTime (report_outside s _) :).symm
  · cases new with
    | none => exact ⟨rfl, rfl⟩
    | some g =>
      rw [applyBandSet_some]
      split
      · rename_i ns first last hx
        have hset := setBand_get_ne s (some (s.entered i g)) (hi g ns first last rfl hx)
        rw [replaceWatermark_of_idle]
        · exact ⟨rfl, rfl⟩
        · rw [hset]
          exact Option.bind_eq_none_iff.2 fun b hb => h g ns first last b rfl hx hb
      · exact ⟨rfl, rfl⟩

/-- The fields that an application gives: those of the request, with set locks kept under the trip gate (R65). -/
theorem gatedFields_eq (s : State) (old : Option Band) (g : BandFields) : s.gatedFields old g =
    { g with
      readLock := g.readLock || (old.any fun b => b.fields.readLock &&
        (s.gateHolds b.fields.tripMask || s.gateHolds g.tripMask)),
      writeLock := g.writeLock || (old.any fun b => b.fields.writeLock &&
        (s.gateHolds b.fields.tripMask || s.gateHolds g.tripMask)) } := by
  cases old with
  | none => simp [State.gatedFields]
  | some b => cases hgate : (s.gateHolds b.fields.tripMask || s.gateHolds g.tripMask) <;> simp [State.gatedFields, hgate]

theorem entered_of_idle {s : State} {i : BandId} (h : ∀ b, s.bands[i] = some b → b.openCount = 0) (g : BandFields) :
    s.entered i g = ⟨s.gatedFields s.bands[i] g, 0, none, none, none⟩ := by
  have hcount : ((s.bands[i]).map (·.openCount)).getD 0 = 0 := by
    cases hb : s.bands[i] with
    | none => rfl
    | some b => exact h b hb
  rw [State.entered, hcount]

/-! ### MIGRATE-START applies -/

/-- A band with the record of a migration that has just begun, its watermark not yet placed. -/
def Band.begun (b : Band) (target : SlotId) (generation : BitVec 16) : Band :=
  { b with migration := some ⟨target, generation, b.fields.extent.firstLba⟩, writer := none, pending := none }

section Start

variable {s : State} {i : BandId} {b : Band} (hb : s.bands[i] = some b) (target : SlotId) (generation : BitVec 16)
include hb

theorem startWatermark_eq : s.startWatermark i = s.placeFor i b.fields.extent.firstLba := by
  rw [State.startWatermark, hb]

theorem applyMigrateStart_below (hw : s.placeFor i b.fields.extent.firstLba ≠ b.fields.extent.endLba) :
    s.applyMigrateStart i target generation = s.setBand i (some { b with
      migration := some ⟨target, generation, s.placeFor i b.fields.extent.firstLba⟩, writer := none, pending := none }) := by
  rw [State.applyMigrateStart, startWatermark_eq hb, hb]
  dsimp only
  have hself := setBand_get_self s i (some (b.begun target generation))
  refine (moveWatermark_below hself rfl _ false hw).trans ?_
  exact setBand_setBand _ _ _ _

/-- The watermark is placed at the band's last LBA + 1: the migration has completed (R113, R125). -/
theorem applyMigrateStart_end (hw : s.placeFor i b.fields.extent.firstLba = b.fields.extent.endLba) :
    s.applyMigrateStart i target generation = (s.setBand i (some { b with
      fields := { b.fields with binding := some ⟨target, generation⟩ },
      migration := none, writer := none, pending := none })).report (.migrate i .complete b.fields.extent.endLba) := by
  rw [State.applyMigrateStart, startWatermark_eq hb, hb]
  dsimp only
  have hself := setBand_get_self s i (some (b.begun target generation))
  refine (moveWatermark_end hself rfl _ false hw).trans ?_
  rw [hw]
  exact congrArg (fun t : State => t.report _) (setBand_setBand _ _ _ _)

end Start

theorem applyMigrateStart_changesBands (s : State) (i : BandId) (target : SlotId) (generation : BitVec 16) :
    s.ChangesBands (s.applyMigrateStart i target generation) := by
  unfold State.applyMigrateStart
  split
  · exact .refl s
  · exact (setBand_changesBands _ _ _).trans (moveWatermark_changesBands _ _ _ _)

/-! ### The checks of MIGRATE-START -/

theorem bandOpen_of_some {s : State} {i : BandId} {b : Band} (hb : s.bands[i] = some b) :
    s.bandOpen i = (b.openCount != 0) := by
  rw [State.bandOpen, hb]

theorem isSome_bind_iff {α β : Type} {x : Option α} {f : α → Option β} :
    (x.bind f).isSome = true ↔ ∃ a, x = some a ∧ f a ≠ none := by
  cases x <;> simp [Option.isSome_iff_ne_none]

theorem any_bind_iff {α β : Type} {x : Option α} {f : α → Option β} {p : β → Bool} :
    (x.bind f).any p = true ↔ ∃ a y, x = some a ∧ f a = some y ∧ p y = true := by
  cases x <;> simp [Option.any_eq_true]

/-- The checks of MIGRATE-START in the words of the statement (R111). -/
theorem migrateStartRefusal_firstToHold (s : State) (i : BandId) (target : SlotId) (generation : BitVec 16) : FirstToHold [
    (∃ b, s.bands[i] = some b ∧ b.pending ≠ none, .busy),
    (∃ b, s.bands[i] = some b ∧ b.migration ≠ none, .migrating),
    (∀ b, s.bands[i] = some b → b.fields.binding = none, .noKey),
    (∃ b x, s.bands[i] = some b ∧ b.fields.binding = some x ∧ x.slot = target, .badRequest),
    ((s.slots[target]).isReady = false, .notReady),
    ((s.slots[target]).generation ≠ generation, .genMismatch)]
    (s.migrateStartRefusal i target generation) :=
  .cons isSome_bind_iff fun _ => .cons isSome_bind_iff fun _ => .cons (by simp) fun _ =>
    .cons (any_bind_iff.trans (by simp only [beq_iff_eq])) fun _ => .cons (by simp) fun _ => .cons (by simp) fun _ => rfl

/-- Settles O41. -/
theorem migrateStartIsRefusedStagedOrApplied : Obligations.MigrateStartIsRefusedStagedOrApplied := by
  refine ⟨migrateStartRefusal_firstToHold, fun s tag f ht hback => ?_⟩
  have hexec := exec_settled_request (c := .migrateStart tag (.fields f)) rfl rfl ht hback
  simp only [hexec]
  refine ⟨fun hbad => congrArg Host.Outcome.next ?_, fun i target hi htarget => ?_⟩
  · unfold takeFrame takeMigrateStart
    rcases hbad with h | h
    · simp only [h]
      rfl
    · cases hband : bandOf f.band <;> simp only [hband, h] <;> rfl
  have htaken : takeFrame (.migrateStart tag (.fields f)) s = match s.migrateStartRefusal i target f.generation with
      | some status => s.answered tag .migrateStart status (.migrateStart 0 0)
      | none => if s.bandOpen i then s.reserve.stage i (.migrateStart target f.generation) tag
        else (s.reserve.applyMigrateStart i target f.generation).reply tag RequestCode.migrateStart.byte .ok
          (.migrateStart (bandByte i) (BitVec.ofNat 64 (s.startWatermark i))) := by
    unfold takeFrame takeMigrateStart
    simp only [hi, htarget]
    rfl
  rw [htaken]
  refine ⟨fun status h => by rw [h], fun b h hb => ?_⟩
  have happlied : b.openCount = 0 → (if s.bandOpen i then s.reserve.stage i (.migrateStart target f.generation) tag
      else (s.reserve.applyMigrateStart i target f.generation).reply tag RequestCode.migrateStart.byte .ok
        (.migrateStart (bandByte i) (BitVec.ofNat 64 (s.startWatermark i)))) =
      (s.reserve.applyMigrateStart i target f.generation).reply tag RequestCode.migrateStart.byte .ok
        (.migrateStart (bandByte i) (BitVec.ofNat 64 (s.placeFor i b.fields.extent.firstLba))) := fun hcount => by
    rw [bandOpen_of_some hb, hcount, startWatermark_eq hb]
    rfl
  have hplace : s.reserve.placeFor = s.placeFor := placeFor_of_bands rfl
  rw [h]
  refine ⟨fun hcount => congrArg Host.Outcome.next ?staged, fun hcount hw => congrArg Host.Outcome.next ?below,
    fun hcount hw => ⟨_, congrArg Host.Outcome.next (happlied hcount), ?ends⟩⟩
  case staged =>
    dsimp only
    rw [bandOpen_of_some hb, if_pos (bne_iff_ne.2 hcount), State.stage, reserve_bands, hb]
    rfl
  case below =>
    dsimp only
    rw [happlied hcount, applyMigrateStart_below (s := s.reserve) hb target f.generation (by rw [hplace]; exact hw), hplace]
    rfl
  case ends =>
    rw [applyMigrateStart_end (s := s.reserve) hb target f.generation (by rw [hplace]; exact hw), hw]
    have hreport := report_changesBands (s.reserve.setBand i (some { b with
      fields := { b.fields with binding := some ⟨target, f.generation⟩ },
      migration := none, writer := none, pending := none })) (.migrate i .complete b.fields.extent.endLba)
    refine ⟨report_bands _ _, report_latest _ (.migrate i .complete b.fields.extent.endLba),
      report_sameNotices (s := s) (t := s.reserve.setBand i _) ⟨rfl, rfl⟩ rfl _, ?_⟩
    obtain ⟨_, _, _, heq⟩ := hreport
    rw [heq]
    rfl

end Sys2Proof.Machine

/-! PROOFS. The application of staged changes (R58, R65, R113, R133): each as if by its own event, in increasing order of
band index. -/

namespace Sys2Proof.Machine

/-! ### One staged change -/

section Pending

variable {s : State} {i : BandId} {b : Band}

theorem applyPending_of_kept (h : ∀ b, s.bands[i] = some b → b.openCount ≠ 0 ∨ b.pending = none) :
    s.applyPending i = s := by
  unfold State.applyPending
  split
  · rfl
  · rename_i b hb
    split
    · rfl
    · rename_i p hp
      exact if_neg ((h b hb).resolve_right (by rw [hp]; exact nofun))

theorem applyPending_of_bandSet (hb : s.bands[i] = some b) (hcount : b.openCount = 0) {new : Option BandFields}
    {owed : Option Byte} (hp : b.pending = some ⟨.bandSet new, owed⟩) :
    s.applyPending i = (s.applyBandSet i new).payReply owed .bandSet .ok (.band (bandByte i)) := by
  rw [State.applyPending, hb]
  dsimp only
  rw [hp]
  exact if_pos hcount

theorem applyPending_of_migrateStart (hb : s.bands[i] = some b) (hcount : b.openCount = 0) {target : SlotId}
    {generation : BitVec 16} {owed : Option Byte} (hp : b.pending = some ⟨.migrateStart target generation, owed⟩) :
    s.applyPending i = (s.applyMigrateStart i target generation).payReply owed .migrateStart .ok
      (.migrateStart (bandByte i) (BitVec.ofNat 64 (s.placeFor i b.fields.extent.firstLba))) := by
  rw [← startWatermark_eq hb, State.applyPending, hb]
  dsimp only
  rw [hp]
  exact if_pos hcount

omit b in
/-- The three cases of an application. -/
theorem pending_cases (s : State) (i : BandId) : (∀ b, s.bands[i] = some b → b.openCount ≠ 0 ∨ b.pending = none) ∨
    (∃ b new owed, s.bands[i] = some b ∧ b.openCount = 0 ∧ b.pending = some ⟨.bandSet new, owed⟩) ∨
    ∃ b target generation owed, s.bands[i] = some b ∧ b.openCount = 0 ∧
      b.pending = some ⟨.migrateStart target generation, owed⟩ := by
  by_cases h : ∀ b, s.bands[i] = some b → b.openCount ≠ 0 ∨ b.pending = none
  · exact .inl h
  · simp only [not_forall, not_or, not_not] at h
    obtain ⟨b, hb, hcount, hp⟩ := h
    obtain ⟨⟨change, owed⟩, hp⟩ := Option.ne_none_iff_exists'.1 hp
    cases change with
    | bandSet new => exact .inr (.inl ⟨b, new, owed, hb, hcount, hp⟩)
    | migrateStart target generation => exact .inr (.inr ⟨b, target, generation, owed, hb, hcount, hp⟩)

theorem exec_pendingChangeApply (hf : s.frontHead = none) (hb : s.backHead = none) :
    exec (.pendingChangeApply i) s = .next (s.applyPending i) := by
  have hout := applyPending_outside s i
  exact congrArg Host.Outcome.next (settle_of_noHeads _ ((congrArg State.frontHead hout :).trans hf)
    ((congrArg State.backHead hout :).trans hb))

end Pending

/-! ### What is staged elsewhere -/

/-- The open count and the staged change of a band. -/
def State.staged (s : State) (i : BandId) : Option (Nat × Option Pending) :=
  (s.bands[i]).map fun b => (b.openCount, b.pending)

theorem staged_of_get {s t : State} {i : BandId} (h : t.bands[i] = s.bands[i]) : t.staged i = s.staged i := by
  rw [State.staged, h]
  rfl

theorem moveWatermark_staged (s : State) (i : BandId) (w : Nat) (announce : Bool) :
    (s.moveWatermark i w announce).staged = s.staged := by
  funext j
  by_cases hj : i = j
  · subst hj
    cases hr : (s.bands[i]).bind (·.migration) with
    | none => rw [moveWatermark_of_idle hr]
    | some r =>
      obtain ⟨b, hb, hr⟩ := Option.bind_eq_some_iff.1 hr
      rw [State.staged, moveWatermark_bands_get hb hr, if_pos rfl, State.staged, hb, Band.moved]
      split <;> rfl
  · exact staged_of_get (moveWatermark_get_ne s w announce hj)

theorem replaceWatermark_staged (s : State) (ns : Ns) : (s.replaceWatermark ns).staged = s.staged := by
  unfold State.replaceWatermark
  split
  · rfl
  · dsimp only
    split
    · rfl
    · exact moveWatermark_staged s _ _ _

theorem setBand_staged_ne (s : State) {i j : BandId} (b : Option Band) (h : i ≠ j) :
    (s.setBand i b).staged j = s.staged j := staged_of_get (setBand_get_ne s b h)

theorem applyPending_staged_ne (s : State) {i j : BandId} (h : i ≠ j) : (s.applyPending i).staged j = s.staged j := by
  refine applyPending_elim (P := fun t => t.staged j = s.staged j) rfl (fun b new owed _ _ _ => ?_)
    fun b target generation owed hb _ _ => ?_
  · rw [staged_of_get (congrArg (fun v : Vector (Option Band) 32 => v[j]) (payReply_bands _ owed _ _ _))]
    cases new with
    | none => exact setBand_staged_ne s none h
    | some f =>
      rw [applyBandSet_some]
      split
      · rw [replaceWatermark_staged]
        exact setBand_staged_ne s _ h
      · exact setBand_staged_ne s _ h
  · rw [staged_of_get (congrArg (fun v : Vector (Option Band) 32 => v[j]) (payReply_bands _ owed _ _ _)),
      State.applyMigrateStart, hb]
    dsimp only
    rw [moveWatermark_staged]
    exact setBand_staged_ne s _ h

/-- A band whose change, if one is staged, waits for open contexts. -/
def State.Applied (s : State) (i : BandId) : Prop := ∀ p, s.staged i ≠ some (0, some p)

theorem applied_of_get {s : State} {i : BandId} (h : ∀ b, s.bands[i] = some b → b.openCount ≠ 0 ∨ b.pending = none) :
    s.Applied i := by
  intro p hp
  obtain ⟨b, hb, heq⟩ := Option.map_eq_some_iff.1 hp
  obtain ⟨hcount, hpending⟩ := Prod.mk.inj heq
  exact (h b hb).elim (fun h0 => h0 hcount) fun hnone => by rw [hnone] at hpending; cases hpending

theorem State.Applied.pending_eq_none {s : State} {i : BandId} (h : s.Applied i) {b : Band} (hb : s.bands[i] = some b)
    (hcount : b.openCount = 0) : b.pending = none := by
  cases hp : b.pending with
  | none => rfl
  | some p => exact absurd (by rw [State.staged, hb, Option.map_some, hcount, hp]) (h p)

theorem applyMigrateStart_get_self {s : State} {i : BandId} {b : Band} (hb : s.bands[i] = some b) (target : SlotId)
    (generation : BitVec 16) : ∃ b', (s.applyMigrateStart i target generation).bands[i] = some b' ∧ b'.pending = none := by
  by_cases hw : s.placeFor i b.fields.extent.firstLba = b.fields.extent.endLba
  · rw [applyMigrateStart_end hb _ _ hw, report_bands]
    exact ⟨_, setBand_get_self _ _ _, rfl⟩
  · rw [applyMigrateStart_below hb _ _ hw]
    exact ⟨_, setBand_get_self _ _ _, rfl⟩

theorem applyPending_applied (s : State) (i : BandId) : (s.applyPending i).Applied i := by
  refine applied_of_get fun b' hb' => ?_
  obtain hkept | ⟨b, new, owed, hb, hcount, hp⟩ | ⟨b, target, generation, owed, hb, hcount, hp⟩ := pending_cases s i
  · rw [applyPending_of_kept hkept] at hb'
    exact hkept b' hb'
  · rw [applyPending_of_bandSet hb hcount hp, payReply_bands, applyBandSet_get_self] at hb'
    obtain ⟨g, _, rfl⟩ := Option.map_eq_some_iff.1 hb'
    exact .inr rfl
  · obtain ⟨b'', hb'', hnone⟩ := applyMigrateStart_get_self hb target generation
    rw [applyPending_of_migrateStart hb hcount hp, payReply_bands, hb''] at hb'
    cases hb'
    exact .inr hnone

/-! ### All bands in order -/

/-- The reply that a band's change owes where it can apply. -/
def State.owedAt (s : State) (i : BandId) : Option Byte :=
  (s.bands[i]).bind fun b => if b.openCount = 0 then b.pending.bind (·.owed) else none

theorem owedAt_of_staged {s t : State} {i : BandId} (h : t.staged i = s.staged i) : t.owedAt i = s.owedAt i := by
  have hbind : ∀ u : State, u.owedAt i = (u.staged i).bind fun x => if x.1 = 0 then x.2.bind (·.owed) else none :=
    fun u => by rw [State.owedAt, State.staged, Option.bind_map]; rfl
  rw [hbind, hbind, h]

/-- The OK replies that an application appends: the one its change owes. -/
theorem applyPending_replies (s : State) (i : BandId) : ∃ ok : List Reply,
    (s.applyPending i).replies = s.replies ++ ok ∧ (∀ r ∈ ok, r.status = .ok) ∧ ok.map (·.tag) = (s.owedAt i).toList := by
  have hpaid : ∀ (t : State) (owed : Option Byte) (code : RequestCode) (result : Result), t.replies = s.replies →
      ∃ ok : List Reply, (t.payReply owed code .ok result).replies = s.replies ++ ok ∧ (∀ r ∈ ok, r.status = .ok) ∧
        ok.map (·.tag) = owed.toList := by
    intro t owed code result ht
    cases owed with
    | none => exact ⟨[], ht.trans (List.append_nil _).symm, nofun, rfl⟩
    | some tag =>
      exact ⟨[⟨tag, code.byte, .ok, result⟩], congrArg (· ++ _) ht, fun r hr => by rw [List.mem_singleton.1 hr], rfl⟩
  have howed : ∀ {b : Band} {change : Change} {owed : Option Byte}, s.bands[i] = some b → b.openCount = 0 →
      b.pending = some ⟨change, owed⟩ → s.owedAt i = owed := by
    intro b change owed hb hcount hp
    rw [State.owedAt, hb, Option.bind_some, if_pos hcount, hp, Option.bind_some]
  obtain hkept | ⟨b, new, owed, hb, hcount, hp⟩ | ⟨b, target, generation, owed, hb, hcount, hp⟩ := pending_cases s i
  · rw [applyPending_of_kept hkept]
    have hnone : s.owedAt i = none := Option.bind_eq_none_iff.2 fun b hb => by
      obtain hcount | hp := hkept b hb
      · exact if_neg hcount
      · rw [hp, Option.bind_none, ite_self]
    rw [hnone]
    exact ⟨[], (List.append_nil _).symm, nofun, rfl⟩
  · rw [applyPending_of_bandSet hb hcount hp, howed hb hcount hp]
    exact hpaid _ owed _ _ (applyBandSet_replies s i new)
  · rw [applyPending_of_migrateStart hb hcount hp, howed hb hcount hp]
    exact hpaid _ owed _ _ (applyMigrateStart_replies s i target generation)

theorem inOrder_applyPending_replies (is : List BandId) (hn : is.Nodup) (s : State) : ∃ ok : List Reply,
    (inOrder (fun i t => t.applyPending i) is s).replies = s.replies ++ ok ∧ (∀ r ∈ ok, r.status = .ok) ∧
      ok.map (·.tag) = is.filterMap s.owedAt := by
  induction is generalizing s with
  | nil => exact ⟨[], (List.append_nil _).symm, nofun, rfl⟩
  | cons i is ih =>
    obtain ⟨hi, hn⟩ := List.nodup_cons.1 hn
    obtain ⟨ok, hok, hall, htags⟩ := applyPending_replies s i
    obtain ⟨ok', hok', hall', htags'⟩ := ih hn (s.applyPending i)
    have hrest : is.filterMap (s.applyPending i).owedAt = is.filterMap s.owedAt :=
      List.filterMap_congr fun j hj => owedAt_of_staged (applyPending_staged_ne s fun h => hi (h ▸ hj))
    refine ⟨ok ++ ok', ?_, fun r hr => (List.mem_append.1 hr).elim (hall r) (hall' r), ?_⟩
    · rw [inOrder_cons, hok', hok, List.append_assoc]
    · rw [List.map_append, htags, htags', hrest, List.filterMap_cons]
      cases s.owedAt i <;> rfl

theorem inOrder_applyPending_applied (is : List BandId) (s : State) : ∀ i,
    (s.Applied i ∨ i ∈ is) → (inOrder (fun i t => t.applyPending i) is s).Applied i := by
  induction is generalizing s with
  | nil => exact fun i hi => hi.resolve_right List.not_mem_nil
  | cons j is ih =>
    intro i hi
    rw [inOrder_cons]
    refine ih _ i ?_
    by_cases hj : j = i
    · subst hj
      exact .inl (applyPending_applied s j)
    · refine hi.imp (fun h p => ?_) fun h => (List.mem_cons.1 h).resolve_left (Ne.symm hj)
      rw [applyPending_staged_ne s hj]
      exact h p

theorem foldl_pendingChangeApply (is : List BandId) {s : State} (hf : s.frontHead = none) (hb : s.backHead = none) :
    inOrder (fun i t => t.applyPending i) is s =
      is.foldl (fun (u : State) (i : BandId) => match exec (.pendingChangeApply i) u with
        | .next v => v
        | _ => u) s := by
  induction is generalizing s with
  | nil => rfl
  | cons i is ih =>
    have hout := applyPending_outside s i
    rw [inOrder_cons, List.foldl_cons, exec_pendingChangeApply hf hb]
    exact ih ((congrArg State.frontHead hout :).trans hf) ((congrArg State.backHead hout :).trans hb)

/-! ### The statement -/

theorem payReply_restored {s t : State} (h : s.ChangesBands t) (owed : Option Byte) (code : RequestCode)
    (status : ReplyStatus) (result : Result) :
    { t.payReply owed code status result with
      bands := s.bands, classes := s.classes, noticeSlots := s.noticeSlots, replies := s.replies } = s := by
  obtain ⟨_, _, _, rfl⟩ := h
  cases owed <;> rfl

theorem payReply_replies {s t : State} (h : t.replies = s.replies) (owed : Option Byte) (code : RequestCode)
    (status : ReplyStatus) (result : Result) : (t.payReply owed code status result).replies =
      s.replies ++ owed.toList.map fun tag => ⟨tag, code.byte, status, result⟩ := by
  cases owed with
  | none => exact h.trans (List.append_nil _).symm
  | some tag => exact congrArg (· ++ _) h

theorem report_linkTime (s : State) (d : Detail) : (s.report d).linkTime = s.linkTime :=
  (congrArg State.linkTime (report_outside s d) :)

theorem State.WatermarkPlacedAgain.congr {s s' t t' : State} {new : Option BandFields} (h : s.WatermarkPlacedAgain t new)
    (hs : s'.bands = s.bands) (hn : s'.SameNotices s) (hl : s'.linkTime = s.linkTime) (ht : t'.bands = t.bands)
    (hn' : t.SameNotices t') : s'.WatermarkPlacedAgain t' new := by
  obtain ⟨hplaced, hquiet⟩ := h
  refine ⟨fun g ns first last b r w hnew hx hb hr hw => ?_, fun hidle => ?_⟩
  · rw [hs] at hb
    rw [placeFor_of_bands ht] at hw
    obtain ⟨hsame, hbelow, hends⟩ := hplaced g ns first last b r w hnew hx hb hr hw
    have hadvance := report_sameNotices hn hl.symm (.migrate (baseBand ns) .advance w)
    rw [ht]
    refine ⟨fun h => ?_, fun h h' => ?_, fun h h' => ?_⟩
    · exact (hsame h).imp id fun hk => (hn.trans hk).trans hn'
    · exact (hbelow h h').imp id fun hk => (hadvance.trans hk).trans hn'
    · refine (hends h h').imp id fun hk => ((report_sameNotices hadvance ?_ _).trans hk).trans hn'
      rw [report_linkTime, report_linkTime, hl]
  · exact (hn.trans (hquiet fun g ns first last b hnew hx hb => hidle g ns first last b hnew hx (by rw [hs]; exact hb))).trans hn'

/-- Settles O43. -/
theorem stagedChangesApplyAtOpenCountZero : Obligations.StagedChangesApplyAtOpenCountZero := by
  refine ⟨fun s => ⟨inOrder_applyPending_replies allBands (List.nodup_finRange 32) s, fun i b hb hcount =>
    (inOrder_applyPending_applied allBands s i (.inr (List.mem_finRange i))).pending_eq_none hb hcount,
    foldl_pendingChangeApply allBands⟩, fun s i hf hback => ?_⟩
  rw [exec_pendingChangeApply hf hback]
  refine ⟨fun h => by rw [applyPending_of_kept h], fun b new owed hb hcount hp => ⟨_, rfl, ?_⟩,
    fun b target generation owed w hb hcount hp hw => ⟨_, rfl, ?_⟩⟩
  · rw [applyPending_of_bandSet hb hcount hp, payReply_bands]
    refine ⟨?_, fun j hj hidle => ?_, fun hi => ?_, ?_, payReply_restored (applyBandSet_changesBands s i new) _ _ _ _⟩
    · rw [applyBandSet_get_self]
      refine congrArg (fun f => new.map f) (funext fun g => ?_)
      rw [entered_of_idle (fun b' hb' => by cases hb.symm.trans hb'; exact hcount), gatedFields_eq, hb]
      rfl
    · exact applyBandSet_get_ne s new hj fun g ns first last hnew hx hbase =>
        Option.bind_eq_none_iff.2 fun x hx' => hidle g ns first last x hnew hx hbase hx'
    · exact (applyBandSet_placedAgain s new hi).congr rfl ⟨rfl, rfl⟩ rfl (payReply_bands _ _ _ _ _)
        (payReply_sameNotices _ _ _ _ _)
    · rw [payReply_replies (applyBandSet_replies s i new)]
      cases owed <;> rfl
  · subst hw
    rw [applyPending_of_migrateStart hb hcount hp, payReply_bands]
    refine ⟨fun hw => ?_, fun hw => ?_, ?_, payReply_restored (applyMigrateStart_changesBands s i target generation) _ _ _ _⟩
    · rw [applyMigrateStart_below hb _ _ hw]
      exact ⟨rfl, State.SameNotices.trans (t := s.setBand i _) ⟨rfl, rfl⟩ (payReply_sameNotices _ _ _ _ _)⟩
    · rw [applyMigrateStart_end hb _ _ hw, report_bands, hw]
      exact ⟨rfl, (report_sameNotices (s := s) (t := s.setBand i _) ⟨rfl, rfl⟩ rfl _).trans
        (payReply_sameNotices _ _ _ _ _)⟩
    · rw [payReply_replies (applyMigrateStart_replies s i target generation)]
      cases owed <;> rfl

end Sys2Proof.Machine

/-! PROOFS. The operands of BAND-SET, each against its encoding (R59, R173, 11.5). -/

namespace Sys2Proof.Machine

/-! ### Code bytes -/

theorem actionOf_eq (b : Byte) : actionOf b = [LatchedAction.none, .lock, .cut, .purge][b.toNat]? := by
  unfold actionOf
  rcases b.toNat with _ | _ | _ | _ | n <;> rfl

theorem pfailOf_eq (b : Byte) : pfailOf b = [PfailResponse.none, .hold][b.toNat]? := by
  unfold pfailOf
  rcases b.toNat with _ | _ | n <;> rfl

theorem formatOf_eq (b : Byte) : formatOf b = [Format.f512, .f520, .f4096, .f4104, .f4160][b.toNat]? := by
  unfold formatOf
  rcases b.toNat with _ | _ | _ | _ | _ | n <;> rfl

theorem metaModeOf_eq (b : Byte) : metaModeOf b = [MetaMode.ciphered, .clear][b.toNat]? := by
  unfold metaModeOf
  rcases b.toNat with _ | _ | n <;> rfl

theorem presentOf_eq (b : Byte) : presentOf b = [false, true][b.toNat]? := by
  unfold presentOf
  rcases b.toNat with _ | _ | n <;> rfl

theorem presentOf_eq_none (b : Byte) : presentOf b = none ↔ 1 < b.toNat := by
  rw [presentOf_eq]
  exact List.getElem?_eq_none_iff

/-- A present byte is 0 or 1, or lies outside its encoding. -/
theorem presentOf_cases (b : Byte) : (b = 0 ∧ presentOf b = some false) ∨ (b = 1 ∧ presentOf b = some true) ∨
    (1 < b.toNat ∧ presentOf b = none) := by
  obtain h | h | h : b.toNat = 0 ∨ b.toNat = 1 ∨ 1 < b.toNat := by omega
  · exact .inl ⟨BitVec.eq_of_toNat_eq h, by rw [presentOf_eq, h]; rfl⟩
  · exact .inr (.inl ⟨BitVec.eq_of_toNat_eq h, by rw [presentOf_eq, h]; rfl⟩)
  · exact .inr (.inr ⟨h, (presentOf_eq_none b).2 h⟩)

theorem sourceSetOf_eq_none (b : Byte) : sourceSetOf b = none ↔ 7 < b.toNat := by
  rw [sourceSetOf_eq]
  split
  · exact iff_of_false nofun (by omega)
  · exact iff_of_true rfl (by omega)

theorem nsOf_eq_some {b : Byte} {ns : Ns} (h : nsOf b = some ns) : ns.val + 1 = b.toNat := by
  unfold nsOf at h
  split at h
  · cases h
    dsimp only
    omega
  · cases h

theorem nsOf_eq_none (b : Byte) : nsOf b = none ↔ b = 0 ∨ 8 < b.toNat := by
  have hzero : b = 0 ↔ b.toNat = 0 := ⟨fun h => by rw [h]; rfl, fun h => BitVec.eq_of_toNat_eq h⟩
  rw [hzero]
  unfold nsOf
  split
  · exact iff_of_false nofun (by omega)
  · exact iff_of_true rfl (by omega)

/-! ### The parts of a BAND-SET -/

theorem bindingOf_eq_none (f : BandSetFields) : bindingOf f = none ↔
    1 < f.bindingPresent.toNat ∨ (f.bindingPresent = 1 ∧ 31 < f.slot.toNat) := by
  unfold bindingOf
  obtain ⟨h, hp⟩ | ⟨h, hp⟩ | ⟨h, hp⟩ := presentOf_cases f.bindingPresent
  · rw [hp, h]
    exact iff_of_false nofun (by simp)
  · rw [hp, h]
    simp only [Option.map_eq_none_iff, slotOf, finOf_eq_none, true_and]
    exact ⟨.inr, fun h => h.resolve_left (by decide)⟩
  · rw [hp]
    exact iff_of_true rfl (.inl h)

theorem saltOf_eq_none (f : BandSetFields) : saltOf f = none ↔ 1 < f.saltPresent.toNat :=
  Option.map_eq_none_iff.trans (presentOf_eq_none _)

theorem extentOf_base {i : BandId} (hi : i.val < 8) (f : BandSetFields) : extentOf i f =
    (formatOf f.format).bind fun format => (metaModeOf f.metaMode).bind fun mode =>
      if f.extentA.toNat = 0 ∨ 2 ^ 48 < f.extentA.toNat then none else some (.base f.extentA.toNat format mode) := by
  rw [extentOf, if_pos (show isBase i = true from decide_eq_true hi)]
  cases formatOf f.format with
  | none => rfl
  | some format => cases metaModeOf f.metaMode <;> rfl

theorem extentOf_locking {i : BandId} (hi : 8 ≤ i.val) (f : BandSetFields) : extentOf i f =
    (nsOf f.namespaceNumber).bind fun ns =>
      if 2 ^ 48 - 1 < f.extentA.toNat ∨ 2 ^ 48 - 1 < f.extentB.toNat then none
      else some (.locking ns f.extentA.toNat f.extentB.toNat) := by
  rw [extentOf, if_neg (show ¬isBase i = true by simpa [isBase] using hi)]
  cases nsOf f.namespaceNumber <;> rfl

/-- A chain of parts is `none` where one of them is. -/
theorem bind_eq_none_of {α β : Type} {x : Option α} {f : α → Option β} {p : Prop} (h : ∀ a, f a = none ↔ p) :
    x.bind f = none ↔ x = none ∨ p := by
  cases x <;> simp [h]

theorem ite_none_eq_none {α : Type} {p : Prop} [Decidable p] {a : α} :
    (if p then none else some a) = none ↔ p := by
  split
  · exact iff_of_true rfl ‹p›
  · exact iff_of_false nofun ‹¬p›

theorem extentOf_base_eq_none {i : BandId} (hi : i.val < 8) (f : BandSetFields) : extentOf i f = none ↔
    f.extentA = 0 ∨ 2 ^ 48 < f.extentA.toNat ∨ 4 < f.format.toNat ∨ 1 < f.metaMode.toNat := by
  have hzero : f.extentA = 0 ↔ f.extentA.toNat = 0 := ⟨fun h => by rw [h]; rfl, fun h => BitVec.eq_of_toNat_eq h⟩
  have hformat : formatOf f.format = none ↔ 4 < f.format.toNat := by
    rw [formatOf_eq]
    exact List.getElem?_eq_none_iff
  have hmode : metaModeOf f.metaMode = none ↔ 1 < f.metaMode.toNat := by
    rw [metaModeOf_eq]
    exact List.getElem?_eq_none_iff
  rw [extentOf_base hi, bind_eq_none_of fun _ => bind_eq_none_of fun _ => ite_none_eq_none, hformat, hmode, hzero]
  tauto

theorem extentOf_locking_eq_none {i : BandId} (hi : 8 ≤ i.val) (f : BandSetFields) : extentOf i f = none ↔
    f.namespaceNumber = 0 ∨ 8 < f.namespaceNumber.toNat ∨ 2 ^ 48 ≤ f.extentA.toNat ∨ 2 ^ 48 ≤ f.extentB.toNat := by
  rw [extentOf_locking hi, bind_eq_none_of fun _ => ite_none_eq_none, nsOf_eq_none, or_assoc]
  exact or_congr_right (or_congr_right (by omega))

theorem bandFieldsOf_eq (i : BandId) (f : BandSetFields) : bandFieldsOf i f =
    (extentOf i f).bind fun extent => (bindingOf f).bind fun binding => (locksOf f.locks).bind fun locks =>
      (saltOf f).bind fun salt => (sourceSetOf f.tripMask).bind fun mask => (actionOf f.latchedAction).bind fun action =>
        (pfailOf f.pfailResponse).map fun pfail =>
          { extent := extent, binding := binding, readLock := locks.1, writeLock := locks.2, salt := salt,
            tripMask := mask, action := action, pfail := pfail } := by
  unfold bandFieldsOf
  cases extentOf i f with
  | none => rfl
  | some extent =>
    cases bindingOf f with
    | none => rfl
    | some binding =>
      cases locksOf f.locks with
      | none => rfl
      | some locks =>
        cases saltOf f with
        | none => rfl
        | some salt =>
          cases sourceSetOf f.tripMask with
          | none => rfl
          | some mask =>
            cases actionOf f.latchedAction with
            | none => rfl
            | some action => cases pfailOf f.pfailResponse <;> rfl

theorem bandFieldsOf_eq_none (i : BandId) (f : BandSetFields) : bandFieldsOf i f = none ↔
    extentOf i f = none ∨ bindingOf f = none ∨ locksOf f.locks = none ∨ saltOf f = none ∨ sourceSetOf f.tripMask = none ∨
      actionOf f.latchedAction = none ∨ pfailOf f.pfailResponse = none := by
  rw [bandFieldsOf_eq]
  exact bind_eq_none_of fun _ => bind_eq_none_of fun _ => bind_eq_none_of fun _ => bind_eq_none_of fun _ =>
    bind_eq_none_of fun _ => bind_eq_none_of fun _ => Option.map_eq_none_iff

/-! ### The operands judged -/

theorem bandSetOf_unknown {f : BandSetFields} (h : 31 < f.band.toNat ∨ 1 < f.state.toNat) : bandSetOf f = none := by
  unfold bandSetOf
  split
  · rfl
  · rename_i i hi
    have hband := (finOf_eq_some f.band i).1 hi
    have hlt := i.isLt
    split
    · omega
    · omega
    · rfl

theorem bandSetOf_unused {f : BandSetFields} {i : BandId} (hi : bandOf f.band = some i) (h : f.state = 0) :
    bandSetOf f = some (i, none) := by
  rw [bandSetOf, hi, h]
  rfl

theorem bandSetOf_active {f : BandSetFields} {i : BandId} (hi : bandOf f.band = some i) (h : f.state = 1) :
    bandSetOf f = (bandFieldsOf i f).map fun fields => (i, some fields) := by
  rw [bandSetOf, hi, h]
  rfl

/-- The values outside their encoding (R59). -/
theorem bandSetOf_eq_none (f : BandSetFields) : bandSetOf f = none ↔
    31 < f.band.toNat ∨ 1 < f.state.toNat ∨ (f.state = 1 ∧
      (3 < f.locks.toNat ∨ 7 < f.tripMask.toNat ∨ 3 < f.latchedAction.toNat ∨ 1 < f.pfailResponse.toNat ∨
        1 < f.saltPresent.toNat ∨ 1 < f.bindingPresent.toNat ∨ (f.bindingPresent = 1 ∧ 31 < f.slot.toNat) ∨
        (f.band.toNat < 8 ∧ (f.extentA = 0 ∨ 2 ^ 48 < f.extentA.toNat ∨ 4 < f.format.toNat ∨
          1 < f.metaMode.toNat)) ∨
        (8 ≤ f.band.toNat ∧ (f.namespaceNumber = 0 ∨ 8 < f.namespaceNumber.toNat ∨ 2 ^ 48 ≤ f.extentA.toNat ∨
          2 ^ 48 ≤ f.extentB.toNat)))) := by
  by_cases hout : 31 < f.band.toNat ∨ 1 < f.state.toNat
  · exact iff_of_true (bandSetOf_unknown hout) (hout.imp id .inl)
  obtain ⟨hband, hstate⟩ := not_or.1 hout
  obtain ⟨i, hi⟩ : ∃ i : BandId, i.val = f.band.toNat := ⟨⟨f.band.toNat, by omega⟩, rfl⟩
  have hbandOf : bandOf f.band = some i := (finOf_eq_some f.band i).2 hi
  obtain h | h : f.state.toNat = 0 ∨ f.state.toNat = 1 := by omega
  · have hzero : f.state = 0 := BitVec.eq_of_toNat_eq h
    rw [bandSetOf_unused hbandOf hzero, hzero]
    exact iff_of_false nofun (by simp [hband])
  · have hone : f.state = 1 := BitVec.eq_of_toNat_eq h
    have hextent : extentOf i f = none ↔
        (f.band.toNat < 8 ∧ (f.extentA = 0 ∨ 2 ^ 48 < f.extentA.toNat ∨ 4 < f.format.toNat ∨
          1 < f.metaMode.toNat)) ∨
        (8 ≤ f.band.toNat ∧ (f.namespaceNumber = 0 ∨ 8 < f.namespaceNumber.toNat ∨ 2 ^ 48 ≤ f.extentA.toNat ∨
          2 ^ 48 ≤ f.extentB.toNat)) := by
      by_cases hbase : i.val < 8
      · rw [extentOf_base_eq_none hbase]
        rw [hi] at hbase
        simp only [hbase, true_and, Nat.not_le.2 hbase, false_and, or_false]
      · rw [extentOf_locking_eq_none (Nat.not_lt.1 hbase)]
        rw [hi] at hbase
        simp only [hbase, false_and, false_or, Nat.not_lt.1 hbase, true_and]
    have haction : actionOf f.latchedAction = none ↔ 3 < f.latchedAction.toNat := by
      rw [actionOf_eq]
      exact List.getElem?_eq_none_iff
    have hpfail : pfailOf f.pfailResponse = none ↔ 1 < f.pfailResponse.toNat := by
      rw [pfailOf_eq]
      exact List.getElem?_eq_none_iff
    rw [bandSetOf_active hbandOf hone, Option.map_eq_none_iff, bandFieldsOf_eq_none, hextent, bindingOf_eq_none,
      locksOf_eq_none, saltOf_eq_none, sourceSetOf_eq_none, haction, hpfail]
    simp only [hband, hone, false_or, true_and, show ¬1 < (1 : Byte).toNat by decide]
    exact Iff.of_eq (by ac_rfl)

theorem bandSetOf_eq_some {f : BandSetFields} {i : BandId} {new : Option BandFields} (h : bandSetOf f = some (i, new)) :
    bandOf f.band = some i ∧ ((f.state = 0 ∧ new = none) ∨ (f.state = 1 ∧ ∃ g, bandFieldsOf i f = some g ∧ new = some g)) := by
  have hknown : ¬(31 < f.band.toNat ∨ 1 < f.state.toNat) := fun hout => by rw [bandSetOf_unknown hout] at h; cases h
  obtain ⟨hband, hstate⟩ := not_or.1 hknown
  obtain ⟨j, hj⟩ : ∃ j : BandId, j.val = f.band.toNat := ⟨⟨f.band.toNat, by omega⟩, rfl⟩
  have hbandOf : bandOf f.band = some j := (finOf_eq_some f.band j).2 hj
  obtain hs | hs : f.state.toNat = 0 ∨ f.state.toNat = 1 := by omega
  · have hzero : f.state = 0 := BitVec.eq_of_toNat_eq hs
    rw [bandSetOf_unused hbandOf hzero] at h
    cases h
    exact ⟨hbandOf, .inl ⟨hzero, rfl⟩⟩
  · have hone : f.state = 1 := BitVec.eq_of_toNat_eq hs
    rw [bandSetOf_active hbandOf hone, Option.map_eq_some_iff] at h
    obtain ⟨g, hg, heq⟩ := h
    cases heq
    exact ⟨hbandOf, .inr ⟨hone, g, hg, rfl⟩⟩

section Fields

variable {i : BandId} {f : BandSetFields} {g : BandFields}

/-- The fields that a BAND-SET to ACTIVE gives, part by part. -/
theorem bandFieldsOf_parts (h : bandFieldsOf i f = some g) : extentOf i f = some g.extent ∧ bindingOf f = some g.binding ∧
    locksOf f.locks = some (g.readLock, g.writeLock) ∧ saltOf f = some g.salt ∧ sourceSetOf f.tripMask = some g.tripMask ∧
    actionOf f.latchedAction = some g.action ∧ pfailOf f.pfailResponse = some g.pfail := by
  simp only [bandFieldsOf_eq, Option.bind_eq_some_iff, Option.map_eq_some_iff] at h
  obtain ⟨extent, hextent, binding, hbinding, locks, hlocks, salt, hsalt, mask, hmask, action, haction, pfail, hpfail, rfl⟩ := h
  exact ⟨hextent, hbinding, hlocks, hsalt, hmask, haction, hpfail⟩

theorem base_extent_of_fields (hi : i.val < 8) (h : extentOf i f = some g.extent) :
    ∃ format mode, g.extent = .base f.extentA.toNat format mode ∧
      [Format.f512, .f520, .f4096, .f4104, .f4160][f.format.toNat]? = some format ∧
      [MetaMode.ciphered, .clear][f.metaMode.toNat]? = some mode := by
  rw [extentOf_base hi, formatOf_eq, metaModeOf_eq] at h
  obtain ⟨format, hformat, h⟩ := Option.bind_eq_some_iff.1 h
  obtain ⟨mode, hmode, h⟩ := Option.bind_eq_some_iff.1 h
  exact ⟨format, mode, (Option.some.inj (Option.ite_none_left_eq_some.1 h).2).symm, hformat, hmode⟩

theorem locking_extent_of_fields (hi : 8 ≤ i.val) (h : extentOf i f = some g.extent) :
    ∃ ns : Ns, ns.val + 1 = f.namespaceNumber.toNat ∧ g.extent = .locking ns f.extentA.toNat f.extentB.toNat := by
  rw [extentOf_locking hi] at h
  obtain ⟨ns, hns, h⟩ := Option.bind_eq_some_iff.1 h
  exact ⟨ns, nsOf_eq_some hns, (Option.some.inj (Option.ite_none_left_eq_some.1 h).2).symm⟩

theorem binding_absent_of_fields (hp : f.bindingPresent = 0) (h : bindingOf f = some g.binding) : g.binding = none := by
  rw [bindingOf, hp] at h
  exact (Option.some.inj h).symm

theorem binding_present_of_fields (hp : f.bindingPresent = 1) (h : bindingOf f = some g.binding) :
    ∃ k : SlotId, k.val = f.slot.toNat ∧ g.binding = some ⟨k, f.generation⟩ := by
  rw [bindingOf, hp] at h
  obtain ⟨k, hk, heq⟩ := Option.map_eq_some_iff.1 (show (slotOf f.slot).map _ = some g.binding from h)
  exact ⟨k, (finOf_eq_some f.slot k).1 hk, heq.symm⟩

theorem locks_of_fields (h : locksOf f.locks = some (g.readLock, g.writeLock)) :
    g.readLock = f.locks.getLsbD 0 ∧ g.writeLock = f.locks.getLsbD 1 := by
  obtain ⟨_, h⟩ := Option.ite_none_right_eq_some.1 h
  obtain ⟨hread, hwrite⟩ := Prod.mk.inj (Option.some.inj h)
  exact ⟨hread.symm, hwrite.symm⟩

theorem salt_of_fields (h : saltOf f = some g.salt) : g.salt = if f.saltPresent = 1 then some f.salt else none := by
  rw [saltOf] at h
  obtain ⟨hs, hp⟩ | ⟨hs, hp⟩ | ⟨_, hp⟩ := presentOf_cases f.saltPresent
  · rw [hp] at h
    rw [hs]
    exact (Option.some.inj h).symm
  · rw [hp] at h
    rw [if_pos hs]
    exact (Option.some.inj h).symm
  · rw [hp] at h
    cases h

theorem mask_of_fields (h : sourceSetOf f.tripMask = some g.tripMask) :
    g.tripMask = ⟨f.tripMask.getLsbD 0, f.tripMask.getLsbD 1, f.tripMask.getLsbD 2⟩ :=
  (Option.some.inj (Option.ite_none_right_eq_some.1 h).2).symm

end Fields

/-- What an accepted BAND-SET gives: the band of its byte, and for ACTIVE the fields it spells (R59, 11.5). -/
theorem bandSetOf_gives {f : BandSetFields} {i : BandId} {new : Option BandFields} (h : bandSetOf f = some (i, new)) :
    i.val = f.band.toNat ∧ (f.state = 0 → new = none) ∧ (f.state = 1 → ∃ g, new = some g ∧
      (i.val < 8 → ∃ format mode, g.extent = .base f.extentA.toNat format mode ∧
        [Format.f512, .f520, .f4096, .f4104, .f4160][f.format.toNat]? = some format ∧
        [MetaMode.ciphered, .clear][f.metaMode.toNat]? = some mode) ∧
      (8 ≤ i.val → ∃ ns : Ns, ns.val + 1 = f.namespaceNumber.toNat ∧
        g.extent = .locking ns f.extentA.toNat f.extentB.toNat) ∧
      (f.bindingPresent = 0 → g.binding = none) ∧
      (f.bindingPresent = 1 → ∃ k : SlotId, k.val = f.slot.toNat ∧ g.binding = some ⟨k, f.generation⟩) ∧
      g.readLock = f.locks.getLsbD 0 ∧ g.writeLock = f.locks.getLsbD 1 ∧
      g.salt = (if f.saltPresent = 1 then some f.salt else none) ∧
      g.tripMask = ⟨f.tripMask.getLsbD 0, f.tripMask.getLsbD 1, f.tripMask.getLsbD 2⟩ ∧
      [LatchedAction.none, .lock, .cut, .purge][f.latchedAction.toNat]? = some g.action ∧
      [PfailResponse.none, .hold][f.pfailResponse.toNat]? = some g.pfail) := by
  obtain ⟨hi, ⟨hs, rfl⟩ | ⟨hs, g, hg, rfl⟩⟩ := bandSetOf_eq_some h
  · exact ⟨(finOf_eq_some f.band i).1 hi, fun _ => rfl, fun h1 => absurd (hs.symm.trans h1) (by decide)⟩
  · refine ⟨(finOf_eq_some f.band i).1 hi, fun h0 => absurd (h0.symm.trans hs) (by decide), fun _ => ⟨g, rfl, ?_⟩⟩
    obtain ⟨hextent, hbinding, hlocks, hsalt, hmask, haction, hpfail⟩ := bandFieldsOf_parts hg
    obtain ⟨hread, hwrite⟩ := locks_of_fields hlocks
    rw [actionOf_eq] at haction
    rw [pfailOf_eq] at hpfail
    exact ⟨fun hbase => base_extent_of_fields hbase hextent, fun hlock => locking_extent_of_fields hlock hextent,
      fun hp => binding_absent_of_fields hp hbinding, fun hp => binding_present_of_fields hp hbinding, hread, hwrite,
      salt_of_fields hsalt, mask_of_fields hmask, haction, hpfail⟩

end Sys2Proof.Machine

/-! PROOFS. BAND-SET (R60 to R65, R68): its ordered checks in the words of the statement, and what a taken one does. -/

namespace Sys2Proof.Machine

/-! ### The checks -/

/-- The namespace and the LBAs of a locking band's BAND-SET to ACTIVE. -/
def lockingPart (new : Option BandFields) : Option (Ns × Nat × Nat) :=
  new.bind fun g => match g.extent with
    | .locking ns first last => some (ns, first, last)
    | .base _ _ _ => none

theorem lockingPart_eq_some {new : Option BandFields} {x : Ns × Nat × Nat} : lockingPart new = some x ↔
    ∃ g, new = some g ∧ g.extent = .locking x.1 x.2.1 x.2.2 := by
  refine Option.bind_eq_some_iff.trans (exists_congr fun g => and_congr_right fun _ => ?_)
  obtain ⟨ns, first, last⟩ := x
  cases g.extent <;> simp

theorem lockingPart_any {new : Option BandFields} {p : Ns × Nat × Nat → Bool} : (lockingPart new).any p = true ↔
    ∃ g ns first last, new = some g ∧ g.extent = .locking ns first last ∧ p (ns, first, last) = true := by
  simp only [Option.any_eq_true, lockingPart_eq_some]
  constructor
  · rintro ⟨⟨ns, first, last⟩, ⟨g, hg, hx⟩, hp⟩
    exact ⟨g, ns, first, last, hg, hx, hp⟩
  · rintro ⟨g, ns, first, last, hg, hx, hp⟩
    exact ⟨(ns, first, last), ⟨g, hg, hx⟩, hp⟩

theorem bandSetRefusal_eq (s : State) (i : BandId) (new : Option BandFields) : s.bandSetRefusal i new = firstFailing [
    (((s.bands[i]).bind (·.pending)).isSome, .busy),
    (((s.bands[i]).bind (·.migration)).isSome, .migrating),
    ((lockingPart new).any fun x => s.baseMissing x.1, .noBand),
    ((lockingPart new).any fun x => !s.extentFits x.1 x.2.1 x.2.2, .outOfRange),
    (s.strands i new, .outOfRange),
    ((lockingPart new).any fun x => s.overlaps i x.1 x.2.1 x.2.2, .overlap),
    ((new.bind (·.binding)).any fun x => !(s.slots[x.slot]).isReady, .notReady),
    ((new.bind (·.binding)).any fun x => (s.slots[x.slot]).generation != x.generation, .genMismatch),
    (new.any fun f => s.clearsGated i f, .tripped)] := by
  cases new with
  | none => rfl
  | some g => cases hx : g.extent <;> simp only [State.bandSetRefusal, lockingPart, Option.bind_some, hx]

theorem stagedSet_eq_some {b : Band} {new : Option BandFields} : b.stagedSet = some new ↔
    ∃ owed, b.pending = some ⟨.bandSet new, owed⟩ := by
  unfold Band.stagedSet
  rcases b.pending with _ | ⟨_ | _, _⟩ <;> simp

theorem baseMissing_iff (s : State) (ns : Ns) : s.baseMissing ns = true ↔
    ∀ b, s.bands[baseBand ns] = some b → ∃ owed, b.pending = some ⟨.bandSet none, owed⟩ := by
  unfold State.baseMissing
  cases hb : s.bands[baseBand ns] with
  | none => exact ⟨fun _ b h => absurd h nofun, fun _ => rfl⟩
  | some b =>
    refine beq_iff_eq.trans (stagedSet_eq_some.trans ⟨fun h b' hb' => ?_, fun h => h b rfl⟩)
    cases hb'
    exact h

theorem extentFits_iff (s : State) (ns : Ns) (first last : Nat) : s.extentFits ns first last = true ↔
    ∃ b, s.bands[baseBand ns] = some b ∧ first ≤ last ∧ last + 1 ≤ b.fields.extent.endLba ∧
      ∀ h owed, b.pending = some ⟨.bandSet (some h), owed⟩ → last + 1 ≤ h.extent.endLba := by
  unfold State.extentFits
  cases hb : s.bands[baseBand ns] with
  | none => exact iff_of_false Bool.false_ne_true fun ⟨_, h, _⟩ => absurd h nofun
  | some b =>
    have hstaged : (match b.stagedSet with
        | some (some f) => decide (last + 1 ≤ f.extent.endLba)
        | _ => true) = true ↔ ∀ h owed, b.pending = some ⟨.bandSet (some h), owed⟩ → last + 1 ≤ h.extent.endLba := by
      have hset : ∀ h, (∃ owed, b.pending = some ⟨.bandSet (some h), owed⟩) ↔ b.stagedSet = some (some h) :=
        fun h => stagedSet_eq_some.symm
      simp only [← exists_imp, hset]
      rcases b.stagedSet with _ | _ | f <;> simp
    refine (Bool.and_eq_true_iff.trans (and_congr (Bool.and_eq_true_iff.trans
      (and_congr decide_eq_true_iff decide_eq_true_iff)) hstaged)).trans ⟨fun h => ⟨b, rfl, h.1.1, h.1.2, h.2⟩, ?_⟩
    rintro ⟨b', hb', hle, hend, hall⟩
    cases hb'
    exact ⟨⟨hle, hend⟩, hall⟩

theorem overlaps_iff (s : State) (i : BandId) (ns : Ns) (first last : Nat) : s.overlaps i ns first last = true ↔
    ∃ (j : BandId) (b : Band) (e : Nat × Nat), j ≠ i ∧ s.bands[j] = some b ∧ b.claims ns e ∧ e.1 ≤ last ∧ first ≤ e.2 := by
  have hentry (b : Band) (p : Nat × Nat → Bool) : ((b.presentLocking ns).any p || (b.stagedLocking ns).any p) = true ↔
      ∃ e, b.claims ns e ∧ p e = true := by
    simp [Band.claims, Option.any_eq_true, or_and_right, exists_or]
  simp only [State.overlaps, State.anyLocking, List.any_eq_true, List.mem_finRange, true_and, Bool.and_eq_true]
  refine exists_congr fun j => ?_
  cases hj : s.bands[j] with
  | none => exact iff_of_false (fun h => Bool.false_ne_true h.2) fun ⟨_, _, _, h, _⟩ => absurd h nofun
  | some b =>
    have hne : (some i != some j) = true ↔ j ≠ i := by rw [bne_iff_ne, ne_eq, Option.some.injEq, ne_comm]
    refine (and_congr hne (hentry b _)).trans ⟨fun ⟨hj, e, he, hp⟩ => ⟨b, e, hj, rfl, he, decide_eq_true_iff.1 hp⟩, ?_⟩
    rintro ⟨b', e, hj, hb', he, hp⟩
    cases hb'
    exact ⟨hj, e, he, decide_eq_true_iff.2 hp⟩

theorem strands_iff (s : State) (i : BandId) (new : Option BandFields) : s.strands i new = true ↔
    ∃ (ns : Ns) (j : BandId) (b : Band) (e : Nat × Nat), i = baseBand ns ∧ s.bands[j] = some b ∧
      b.claims ns e ∧ ∀ g, new = some g → g.extent.endLba < e.2 + 1 := by
  by_cases hi : i.val < 8
  · obtain ⟨ns, rfl⟩ : ∃ ns : Ns, i = baseBand ns := ⟨⟨i.val, hi⟩, rfl⟩
    rw [strands_baseBand_iff]
    constructor
    · rintro ⟨j, b, e, h⟩
      exact ⟨ns, j, b, e, rfl, h⟩
    · rintro ⟨ns', j, b, e, hns, h⟩
      obtain rfl : ns = ns' := Fin.ext (congrArg (fun x : BandId => x.val) hns)
      exact ⟨j, b, e, h⟩
  · refine iff_of_false ?_ ?_
    · rw [State.strands, dif_neg hi]
      exact Bool.false_ne_true
    · rintro ⟨ns, _, _, _, rfl, _⟩
      exact hi ns.isLt

theorem clearsGated_iff (s : State) (i : BandId) (g : BandFields) : s.clearsGated i g = true ↔
    ∃ b, s.bands[i] = some b ∧
      ((b.fields.readLock = true ∧ g.readLock = false) ∨ (b.fields.writeLock = true ∧ g.writeLock = false)) ∧
      (s.gateHolds b.fields.tripMask = true ∨ s.gateHolds g.tripMask = true) := by
  unfold State.clearsGated
  cases hb : s.bands[i] with
  | none => simp
  | some b => simp

/-- The checks of BAND-SET in the words of the statement (R60). -/
theorem bandSetRefusal_firstToHold (s : State) (i : BandId) (new : Option BandFields) : FirstToHold [
    (∃ b, s.bands[i] = some b ∧ b.pending ≠ none, .busy),
    (∃ b, s.bands[i] = some b ∧ b.migration ≠ none, .migrating),
    (∃ g ns first last, new = some g ∧ g.extent = .locking ns first last ∧
      ∀ b, s.bands[baseBand ns] = some b → ∃ owed, b.pending = some ⟨.bandSet none, owed⟩, .noBand),
    (∃ g ns first last b, new = some g ∧ g.extent = .locking ns first last ∧ s.bands[baseBand ns] = some b ∧
      ¬(first ≤ last ∧ last + 1 ≤ b.fields.extent.endLba ∧
        ∀ h owed, b.pending = some ⟨.bandSet (some h), owed⟩ → last + 1 ≤ h.extent.endLba), .outOfRange),
    (∃ (ns : Ns) (j : BandId) (b : Band) (e : Nat × Nat), i = baseBand ns ∧ s.bands[j] = some b ∧
      b.claims ns e ∧ ∀ g, new = some g → g.extent.endLba < e.2 + 1, .outOfRange),
    (∃ (g : BandFields) (ns : Ns) (first last : Nat) (j : BandId) (b : Band) (e : Nat × Nat), new = some g ∧
      g.extent = .locking ns first last ∧ j ≠ i ∧ s.bands[j] = some b ∧ b.claims ns e ∧ e.1 ≤ last ∧ first ≤ e.2, .overlap),
    (∃ g x, new = some g ∧ g.binding = some x ∧ (s.slots[x.slot]).isReady = false, .notReady),
    (∃ g x, new = some g ∧ g.binding = some x ∧ (s.slots[x.slot]).generation ≠ x.generation, .genMismatch),
    (∃ g b, new = some g ∧ s.bands[i] = some b ∧
      ((b.fields.readLock = true ∧ g.readLock = false) ∨ (b.fields.writeLock = true ∧ g.writeLock = false)) ∧
      (s.gateHolds b.fields.tripMask = true ∨ s.gateHolds g.tripMask = true), .tripped)]
    (s.bandSetRefusal i new) := by
  rw [bandSetRefusal_eq]
  refine .cons isSome_bind_iff fun _ => .cons isSome_bind_iff fun _ =>
    .cons (lockingPart_any.trans (by simp only [baseMissing_iff])) fun hmissing => .cons (lockingPart_any.trans ?range) fun _ =>
    .cons (strands_iff s i new) fun _ => .cons (lockingPart_any.trans ?overlap) fun _ =>
    .cons (any_bind_iff.trans ?notReady) fun _ => .cons (any_bind_iff.trans ?generation) fun _ =>
    .cons ((Option.any_eq_true _ _).trans ?gate) fun _ => rfl
  case range =>
    simp only [Bool.not_eq_true', ← Bool.not_eq_true, extentFits_iff]
    constructor
    · rintro ⟨g, ns, first, last, hg, hx, hfit⟩
      have hpresent : ¬s.baseMissing ns = true := fun h =>
        Bool.eq_false_iff.1 hmissing (lockingPart_any.2 ⟨g, ns, first, last, hg, hx, h⟩)
      cases hb : s.bands[baseBand ns] with
      | none => exact absurd ((baseMissing_iff s ns).2 fun b h => by rw [hb] at h; cases h) hpresent
      | some b => exact ⟨g, ns, first, last, b, hg, hx, hb, fun h => hfit ⟨b, hb, h⟩⟩
    · rintro ⟨g, ns, first, last, b, hg, hx, hb, hfit⟩
      refine ⟨g, ns, first, last, hg, hx, fun ⟨b', hb', h⟩ => hfit ?_⟩
      cases hb.symm.trans hb'
      exact h
  case overlap =>
    simp only [overlaps_iff]
    constructor
    · rintro ⟨g, ns, first, last, hg, hx, j, b, e, h⟩
      exact ⟨g, ns, first, last, j, b, e, hg, hx, h⟩
    · rintro ⟨g, ns, first, last, j, b, e, hg, hx, h⟩
      exact ⟨g, ns, first, last, hg, hx, j, b, e, h⟩
  case notReady => simp only [Bool.not_eq_true']
  case generation => simp only [bne_iff_ne]
  case gate =>
    simp only [clearsGated_iff]
    constructor
    · rintro ⟨g, hg, b, h⟩
      exact ⟨g, b, hg, h⟩
    · rintro ⟨g, b, hg, h⟩
      exact ⟨g, hg, b, h⟩

/-! ### A BAND-SET taken -/

section Taken

variable {s : State} {tag : Byte} {f : BandSetFields} {i : BandId} {new : Option BandFields}

theorem takeBandSet_unjudged (hf : bandSetOf f = none) :
    takeBandSet tag (.fields f) s = s.answered tag .bandSet .badRequest (.band 0) := by
  rw [takeBandSet]
  simp only [hf] <;> rfl

theorem takeBandSet_passed (hf : bandSetOf f = some (i, new)) (h : s.bandSetRefusal i new = none) :
    takeBandSet tag (.fields f) s = if s.bandOpen i then s.reserve.stage i (.bandSet new) tag
      else (s.reserve.applyBandSet i new).reply tag RequestCode.bandSet.byte .ok (.band (bandByte i)) := by
  rw [takeBandSet]
  simp only [hf, h]

end Taken

theorem stage_eq {s : State} {i : BandId} {b : Band} (hb : s.bands[i] = some b) (change : Change) (tag : Byte) :
    s.reserve.stage i change tag = { s with
      reservations := s.reservations + 1,
      bands := s.bands.set i (some { b with pending := some { change := change, owed := some tag } }) } := by
  rw [State.stage, reserve_bands, hb]
  rfl

/-- A locking band's extent is no base band's (R51, R59). -/
theorem ne_baseBand_of_bandSetOf {f : BandSetFields} {i : BandId} {new : Option BandFields}
    (hf : bandSetOf f = some (i, new)) : ∀ g ns first last, new = some g → g.extent = .locking ns first last →
      ∀ ns', i ≠ baseBand ns' := by
  rintro g ns first last rfl hx ns' rfl
  have hkind := (bandSetOf_isBaseExtent hf).trans (isBase_baseBand ns')
  rw [hx] at hkind
  cases hkind

/-- Settles O38. -/
theorem bandSetIsRefusedStagedOrApplied : Obligations.BandSetIsRefusedStagedOrApplied := by
  refine ⟨bandSetOf_eq_none, fun f i new h => bandSetOf_gives h, bandSetRefusal_firstToHold, fun s tag f ht hback => ?_⟩
  rw [exec_bandSet ht hback]
  refine ⟨fun hf => by rw [takeBandSet_unjudged hf], fun i new hf => ⟨fun status h => by rw [takeBandSet_refused hf h],
    fun b h hb hcount => ?_, fun h hidle => ⟨_, rfl, ?_⟩⟩⟩
  · rw [takeBandSet_passed hf h, bandOpen_of_some hb, if_pos (bne_iff_ne.2 hcount), stage_eq hb]
  · have hopen : s.bandOpen i = false := by
      cases hb : s.bands[i] with
      | none => rw [State.bandOpen, hb]
      | some b => rw [bandOpen_of_some hb, hidle b hb]; rfl
    rw [takeBandSet_passed hf h, hopen, if_neg Bool.false_ne_true]
    refine ⟨?_, fun j hj hlock => ?_, fun j hj hmigration => ?_, ?_, ?_⟩
    · refine (applyBandSet_get_self s.reserve i new).trans (congrArg (fun f => new.map f) (funext fun g => ?_))
      rw [entered_of_idle (s := s.reserve) hidle, gatedFields_eq]
      rfl
    · refine applyBandSet_get_ne s.reserve new hj fun _ ns _ _ _ _ hbase => ?_
      rw [hbase, isBase_baseBand] at hlock
      cases hlock
    · exact applyBandSet_get_ne s.reserve new hj fun g ns first last hnew hx hbase =>
        Option.bind_eq_none_iff.2 fun b hb => hmigration g ns first last b hnew hx hbase hb
    · exact (applyBandSet_placedAgain s.reserve new fun g ns first last hnew hx =>
        ne_baseBand_of_bandSetOf hf g ns first last hnew hx ns).congr (s' := s) rfl ⟨rfl, rfl⟩ rfl rfl ⟨rfl, rfl⟩
    · obtain ⟨_, _, _, heq⟩ := applyBandSet_changesBands s.reserve i new
      rw [heq]
      rfl

end Sys2Proof.Machine

/-! PROOFS. The end of a load (R78 to R81): what the unwrap says of altered blobs and other keys, its three outcomes, and
the latching of KEYFAULT where the wrapping key failed its parity check. -/

namespace Sys2Proof.Machine

/-! ### The unwrap (R78) -/

theorem unwrap_other_key {blob : BitVec 576} {key key' : BitVec 256} (h : key ≠ key') :
    unwrap blob key = none ∨ unwrap blob key' = none := by
  cases hm : unwrap blob key with
  | none => exact .inl rfl
  | some m =>
    cases hm' : unwrap blob key' with
    | none => exact .inr rfl
    | some m' =>
      have hmade := (made_of_unwrap hm).1.symm.trans (made_of_unwrap hm').1
      simp only [Option.some.injEq, MadeBlob.mk.injEq] at hmade
      exact absurd hmade.1 h

theorem unwrap_other_integrity {blob blob' : BitVec 576} {key key' : BitVec 256} (hne : blob ≠ blob')
    (hw : wrappedPart blob = wrappedPart blob') : unwrap blob key = none ∨ unwrap blob' key' = none := by
  cases hm : unwrap blob key with
  | none => exact .inl rfl
  | some m =>
    cases hm' : unwrap blob' key' with
    | none => exact .inr rfl
    | some m' => exact absurd (eq_of_parts hw (integrityPart_eq_of_unwrap hw hm hm')) hne

theorem altered_ne (blob : BitVec 576) (i : Fin 72) {d : Byte} (hd : d ≠ 0) :
    blob ≠ blob ^^^ (d.setWidth 576 <<< (8 * i.val)) := by
  intro h
  refine hd (BitVec.eq_of_getLsbD_eq fun n hn => ?_)
  have hin : 8 * i.val + n < 576 := by omega
  have hbit : (blob ^^^ (d.setWidth 576 <<< (8 * i.val))).getLsbD (8 * i.val + n) =
      (blob.getLsbD (8 * i.val + n) ^^ d.getLsbD n) := by simp [hin]
  rw [← h] at hbit
  have hcancel : ∀ x y : Bool, x = (x ^^ y) → y = false := by decide
  exact (hcancel _ _ hbit).trans BitVec.getLsbD_zero.symm

theorem unwrap_altered {blob : BitVec 576} (i : Fin 72) {d : Byte} (key key' : BitVec 256) (hd : d ≠ 0) :
    unwrap blob key = none ∨ unwrap (blob ^^^ (d.setWidth 576 <<< (8 * i.val))) key' = none := by
  by_cases hi : i.val < 64
  · cases hm : unwrap blob key with
    | none => exact .inl rfl
    | some m =>
      refine .inr (unwrap_eq_none_of_altered key' hm ?_ (integrityPart_altered_low blob i d hi))
      rw [wrappedPart_altered_low blob i d hi]
      exact mem_alteredMaterials _ _ d hd
  · exact unwrap_other_integrity (altered_ne blob i hd) (wrappedPart_altered_high blob i d (Nat.not_lt.1 hi)).symm

/-! ### The outcomes of a load (R79) -/

theorem exec_unwrapComplete {s : State} {k : SlotId} (hf : s.frontHead = none) (hb : s.backHead = none) :
    exec (.unwrapComplete k) s = .next (s.completeLoad k) :=
  congrArg Host.Outcome.next (settle_of_rim (completeLoad_rim s k) ⟨hf, hb⟩)

theorem completeLoad_of_idle {s : State} {k : SlotId} (h : ∀ l, (s.slots[k]).state ≠ .loading l) :
    s.completeLoad k = s := by
  unfold State.completeLoad
  split
  · rename_i l hl
    exact absurd hl (h l)
  · rfl

theorem completeLoad_of_pass {s : State} {k : SlotId} {l : Load} (hl : (s.slots[k]).state = .loading l)
    (hp : allPass l.words = true) :
    s.completeLoad k = s.unwrapOutcome k l.owed (unwrap l.blob (wrapKey l.words)) := by
  rw [State.completeLoad, hl]
  exact if_pos hp

/-- Settles O33. -/
theorem unwrapEndsTheLoad : Obligations.UnwrapEndsTheLoad := by
  refine ⟨fun s tag code status result => ⟨rfl, rfl⟩, fun blob key key' h => unwrap_other_key h,
    fun blob i d key key' hd => unwrap_altered i key key' hd,
    fun blob blob' key key' hne hw => unwrap_other_integrity hne hw, fun s k hf hb => ?_⟩
  rw [exec_unwrapComplete hf hb]
  refine ⟨fun h => by rw [completeLoad_of_idle h], fun l hl hp => congrArg Host.Outcome.next ?_⟩
  rw [completeLoad_of_pass hl hp]
  unfold State.unwrapOutcome
  cases unwrap l.blob (wrapKey l.words) with
  | none => rfl
  | some m => rfl

/-! ### A failed parity check of a wrapping key (R80) -/

theorem completeLoad_of_fault {s : State} {k : SlotId} {l : Load} (hl : (s.slots[k]).state = .loading l)
    (hp : allPass l.words = false) : s.completeLoad k =
      (((s.endLoad k).setWrap l.wrapSlot (s.wraps[l.wrapSlot]).fault).wrapFaultReply l.owed
        (s.slots[k]).generation).report (.keyfault (.wrapSlot l.wrapSlot) 0) := by
  rw [State.completeLoad, hl]
  exact if_neg (Bool.eq_false_iff.1 hp)

/-- The reply and the latching of a wrap fault, in one order or the other (log 14). -/
theorem wrapFaultReply_cases (s : State) (owed : Option Byte) (generation : BitVec 16) : ∃ n,
    let u : State := { s with choices := n }
    s.wrapFaultReply owed generation = (u.latch .keyfault).payReply owed .keyLoad .wrapFault (.keyLoad 0 generation) ∨
    s.wrapFaultReply owed generation = (u.payReply owed .keyLoad .wrapFault (.keyLoad 0 generation)).latch .keyfault := by
  unfold State.wrapFaultReply
  dsimp only
  split
  · exact ⟨s.choices, .inl rfl⟩
  · obtain ⟨ys, n, hperm, heq⟩ := inAnyOrder_perm (fun first (t : State) =>
      if first = true then t.payReply owed .keyLoad .wrapFault (.keyLoad 0 generation) else t.latch .keyfault)
      [true, false] s
    rw [heq]
    have hys : ys = [true, false] ∨ ys = [false, true] := by
      obtain ⟨a, b, rfl⟩ := List.length_eq_two.1 (hperm.length_eq.trans rfl)
      revert hperm
      cases a <;> cases b <;> decide
    obtain rfl | rfl := hys
    · exact ⟨n, .inr rfl⟩
    · exact ⟨n, .inl rfl⟩

/-- An EMPTY slot keeps its state and its generation under the work of the blocks. -/
def emptyAt (k : SlotId) (generation : BitVec 16) (j : SlotId) (v : KeySlot) : Prop :=
  j = k → v.state = .empty ∧ v.generation = generation

theorem emptyAt_kept (k : SlotId) (generation : BitVec 16) : SlotKept (emptyAt k generation) where
  enter j v kind h hj := by
    obtain ⟨hs, hg⟩ := h hj
    exact ⟨by dsimp only; rw [hs]; cases kind <;> rfl, hg⟩
  erase j v _ h hj := ⟨rfl, (h hj).2⟩
  abandon j v l _ h hj := ⟨rfl, (h hj).2⟩
  start j v m account hm h hj := by
    rw [(h hj).1] at hm
    obtain hm | hm := hm <;> cases hm
  zero j v m a hm h hj := by
    rw [(h hj).1] at hm
    cases hm
  poison j v h hj := by
    obtain ⟨hs, hg⟩ := h hj
    exact ⟨by dsimp only; rw [hs]; rfl, hg⟩

/-- A reply once appended stays in the queue under the work of the blocks. -/
def State.HasReply (r : Reply) (s : State) : Prop := r ∈ s.replies

theorem hasReply_payReply {r : Reply} {t : State} (owed : Option Byte) (code : RequestCode) (status : ReplyStatus)
    (result : Result) (h : t.HasReply r) : (t.payReply owed code status result).HasReply r := by
  cases owed with
  | none => exact h
  | some tag => exact List.mem_append_left _ h

theorem hasReply_report {r : Reply} {t : State} (d : Detail) (h : t.HasReply r) : (t.report d).HasReply r := by
  rw [State.HasReply, report_replies]
  exact h

theorem State.HasReply.endPurge {r : Reply} {s : State} (h : s.HasReply r) (k : SlotId) : (s.endPurge k).HasReply r := by
  unfold State.endPurge
  split
  · refine hasReply_report _ (hasReply_payReply _ _ _ _ ?_)
    exact h
  · exact h

theorem State.HasReply.endAs {r : Reply} {s : State} (h : s.HasReply r) (kind : EndKind) (id : CtxId)
    (status : TransferStatus) : (s.endAs kind id status).HasReply r := by
  unfold State.endAs
  split
  · exact h
  · dsimp only
    split <;> exact h

theorem State.HasReply.dropPending {r : Reply} {s : State} (h : s.HasReply r) (i : BandId) :
    (s.dropPending i).HasReply r := by
  unfold State.dropPending
  split
  · exact h
  · split
    · exact h
    · dsimp only
      split
      · refine hasReply_payReply _ _ _ _ ?_
        exact h
      · refine hasReply_payReply _ _ _ _ ?_
        exact h

theorem hasReply_kept (r : Reply) : Kept (State.HasReply r) where
  choices _ _ h := h
  report _ d h := hasReply_report d h
  discards _ _ h := h
  latched _ _ h := h
  setWrap _ _ _ h := h
  endAs _ kind id status h := h.endAs kind id status
  applyPending s i h := by
    obtain ⟨ok, hok, _⟩ := applyPending_replies s i
    exact (congrArg (r ∈ ·) hok).mpr (List.mem_append_left _ h)
  dropPending _ i h := h.dropPending i
  abandonLoad s k h := by
    unfold State.abandonLoad
    split
    · refine hasReply_payReply _ _ _ _ ?_
      exact h
    · exact h
  endPurge _ k _ h := h.endPurge k
  lockBand _ _ h := h
  startPurge s k m account _ _ h := (congrArg (r ∈ ·) (unbind_replies _ k)).mpr
    (inOrder_induct (P := State.HasReply r) _ _ _ (fun i _ t ht => by
      split
      · exact ht
      · split
        · exact ht.dropPending i
        · exact ht) h)
  zeroGrace _ _ _ _ _ h := h
  poisonAndCut _ _ h := inAnyOrder_induct (P := State.HasReply r) _ _ _ (fun _ _ ht => ht)
    (fun id _ _ ht => ht.endAs _ id _) h

/-- The reply is in the queue whichever stands first. -/
theorem wrapFaultReply_hasReply (s : State) {owed : Option Byte} {tag : Byte} (h : owed = some tag)
    (generation : BitVec 16) :
    (s.wrapFaultReply owed generation).HasReply ⟨tag, RequestCode.keyLoad.byte, .wrapFault, .keyLoad 0 generation⟩ := by
  subst h
  obtain ⟨n, heq | heq⟩ := wrapFaultReply_cases s (some tag) generation
  · rw [heq]
    exact List.mem_append_right _ List.mem_cons_self
  · rw [heq]
    exact (hasReply_kept _).latch _ _ (List.mem_append_right _ List.mem_cons_self)

theorem wrapFaultReply_slots {s : State} {R : SlotId → KeySlot → Prop} (hR : SlotKept R) (hs : s.Slots R)
    (owed : Option Byte) (generation : BitVec 16) : (s.wrapFaultReply owed generation).Slots R := by
  obtain ⟨n, heq | heq⟩ := wrapFaultReply_cases s owed generation
  · intro j
    rw [heq, payReply_slots]
    exact (slots_kept hR).latch { s with choices := n } .keyfault hs j
  · rw [heq]
    refine (slots_kept hR).latch _ .keyfault fun j => ?_
    rw [payReply_slots]
    exact hs j

theorem wrapFaultReply_latched (s : State) (owed : Option Byte) (generation : BitVec 16) :
    (s.wrapFaultReply owed generation).latched = s.latched.insert .keyfault ∧
      (s.wrapFaultReply owed generation).wraps = s.wraps := by
  have hwraps : ∀ t : State, (t.latch .keyfault).wraps = t.wraps := fun t =>
    (congrArg State.wraps (latch_outside_latched t .keyfault) :)
  have hpay : ∀ t : State, (t.payReply owed .keyLoad .wrapFault (.keyLoad 0 generation)).outside = t.outside :=
    fun t => payReply_outside t _ _ _ _
  obtain ⟨n, heq | heq⟩ := wrapFaultReply_cases s owed generation
  · rw [heq]
    exact ⟨(congrArg State.latched (hpay _) :).trans (latch_latched _ _),
      (congrArg State.wraps (hpay _) :).trans (hwraps _)⟩
  · rw [heq]
    exact ⟨(latch_latched _ _).trans (congrArg (fun t : State => t.latched.insert .keyfault) (hpay _) :),
      (hwraps _).trans (congrArg State.wraps (hpay _) :)⟩

/-- Settles O34. -/
theorem wrapFaultLatchesKeyfault : Obligations.WrapFaultLatchesKeyfault := by
  intro s k l hf hb hl hp
  have hrim := completeLoad_rim s k
  obtain ⟨hlines, hcontrol, hdiscards, hreservations⟩ := sameLines_of_rim hrim
  have hcomplete := completeLoad_of_fault hl hp
  generalize hfailed : (s.endLoad k).setWrap l.wrapSlot (s.wraps[l.wrapSlot]).fault = failed at hcomplete
  obtain ⟨n, hcases⟩ := wrapFaultReply_cases failed l.owed (s.slots[k]).generation
  obtain ⟨hlatched, hwraps⟩ := wrapFaultReply_latched failed l.owed (s.slots[k]).generation
  have hslots := wrapFaultReply_slots (emptyAt_kept k (s.slots[k]).generation) (s := failed)
    (fun j hj => by subst hfailed; subst hj; exact (congrArg (fun v : KeySlot => v.state = .empty ∧ v.generation = _)
      (setSlot_get_self s j _)).mpr ⟨rfl, rfl⟩) l.owed (s.slots[k]).generation k rfl
  have hout := report_outside (failed.wrapFaultReply l.owed (s.slots[k]).generation) (.keyfault (.wrapSlot l.wrapSlot) 0)
  have hwraps' : (s.completeLoad k).wraps = s.wraps.set l.wrapSlot (s.wraps[l.wrapSlot]).fault := by
    rw [hcomplete]
    exact (congrArg State.wraps hout :).trans (hwraps.trans (by subst hfailed; rfl))
  have hslot : (s.completeLoad k).slots[k] = (failed.wrapFaultReply l.owed (s.slots[k]).generation).slots[k] := by
    rw [hcomplete, report_slots]
  refine ⟨s.completeLoad k, { failed with choices := n }, n, exec_unwrapComplete hf hb, ?state, ?order,
    hslot ▸ hslots.1, hslot ▸ hslots.2, fun words hw => ?loaded, fun w hw => ?others, ?latched, fun tag ht => ?reply,
    ?event, hlines, hcontrol, hdiscards, hreservations⟩
  case state => subst hfailed; rfl
  case order =>
    rw [hcomplete]
    exact hcases.imp (fun h => by rw [h]) fun h => by rw [h]
  case loaded =>
    rw [hwraps', hw]
    exact Vector.getElem_set_self _
  case others =>
    rw [hwraps']
    exact Vector.getElem_set_ne _ _ fun h => hw (Fin.ext h.symm)
  case latched =>
    rw [hcomplete]
    exact (congrArg State.latched hout :).trans (hlatched.trans (by subst hfailed; rfl))
  case reply =>
    rw [hcomplete, report_replies]
    exact wrapFaultReply_hasReply failed ht _
  case event =>
    rw [hcomplete]
    refine (report_latest _ (.keyfault (.wrapSlot l.wrapSlot) 0)).trans ?_
    rw [linkTime_of_rim (wrapFaultReply_rim failed _ _)]
    subst hfailed
    rfl

end Sys2Proof.Machine

/-! PROOFS. A microsecond (R78, R100, R102, R162): what is due is done, and what is not due waits. -/

namespace Sys2Proof.Machine

/-! ### No purge is left running by a latching -/

/-- No slot but at most one is PURGING. -/
def idleBut (k j : SlotId) (v : KeySlot) : Prop := j ≠ k → v.isPurging = false

theorem isPurging_enter {v : KeySlot} (h : v.isPurging = false) (n : Nat) (kind : EndKind) :
    ({ v with holders := n, state := v.state.enter kind } : KeySlot).isPurging = false := by
  obtain ⟨_, _, state⟩ := v
  cases state with
  | purging => cases h
  | _ => rfl

theorem idleBut_ends (k : SlotId) : SlotEnds (idleBut k) where
  enter _ _ kind h hj := isPurging_enter (h hj) _ kind
  erase _ _ _ _ _ := rfl

/-- No slot is PURGING. -/
def idleSlot (_ : SlotId) (v : KeySlot) : Prop := v.isPurging = false

theorem idleSlot_ends : SlotEnds idleSlot where
  enter _ _ kind h := isPurging_enter h _ kind
  erase _ _ _ _ := rfl

theorem endPurge_isPurging (s : State) (k : SlotId) : ((s.endPurge k).slots[k]).isPurging = false := by
  rw [endPurge_slots_get]
  split
  · rfl
  · rename_i hne
    exact Bool.eq_false_iff.2 fun hp => hne ⟨rfl, hp⟩

/-- A purge that has ended leaves no other slot PURGING than there were. -/
theorem endPurge_idle {s : State} {k : SlotId} (h : s.Slots (idleBut k)) : (s.endPurge k).Slots idleSlot := by
  intro j
  by_cases hj : j = k
  · subst hj
    exact endPurge_isPurging s j
  · exact h.endPurge (idleBut_ends k) k j hj

theorem finishPurge_zero (s : State) (deferred : Bool) (k : SlotId) : s.finishPurge deferred k 0 =
    ((s.cutAll .keyPurged (s.holdersOf k)).settleCuts deferred (some k)).endPurge k := by
  unfold State.finishPurge
  dsimp only
  rw [if_pos (.inr rfl), if_pos rfl]

theorem purgeSteps_idle {s : State} (h : s.Slots idleSlot) (deferred : Bool) (k : SlotId) (m : Material)
    {account : Account} (hg : account.grace = 0) : (s.purgeSteps deferred k m account).Slots idleSlot := by
  have hbut : s.Slots (idleBut k) := fun j _ => h j
  have hstart : (s.startPurge k m account).Slots (idleBut k) :=
    (hbut.setSlot fun hj => absurd rfl hj).of_slots (startPurge_slots s k m account)
  have hcut := inAnyOrder_induct (P := State.Slots (idleBut k)) (fun id t => State.endContext t id .keyPurged)
    ((s.startPurge k m account).namingAny
      (((s.setSlot k { s.slots[k] with state := .purging m account }).dropNaming k).failing k)) _ (fun _ _ ht => ht)
    (fun id _ _ ht => ht.endAs (idleBut_ends k) _ id _) hstart
  rw [purgeSteps_eq, hg, finishPurge_zero]
  exact endPurge_idle ((hcut.cutAll (idleBut_ends k) _ _).settleCuts (idleBut_ends k) _ _)

theorem tripPurge_idle {s : State} (h : s.Slots idleSlot) (k : SlotId) : (s.tripPurge k).Slots idleSlot := by
  unfold State.tripPurge State.beginPurge
  cases hk : (s.slots[k]).state with
  | ready m => exact purgeSteps_idle h true k m rfl
  | poisoned m => exact purgeSteps_idle h true k m rfl
  | purging m a =>
    have hidle := h k
    rw [idleSlot, KeySlot.isPurging, hk] at hidle
    cases hidle
  | _ => exact h

theorem cutBand_idle {s : State} (h : s.Slots idleSlot) (kind : EndKind) (i : BandId) :
    (s.cutBand kind i).Slots idleSlot := by
  have hlock : (s.lockBand i).Slots idleSlot := h.of_slots rfl
  have hcut := inOrder_induct (P := State.Slots idleSlot) (fun id t => State.endAs t kind id .tripped)
    ((s.lockBand i).naming i) _ (fun id _ _ ht => ht.endAs idleSlot_ends kind id _) hlock
  exact hcut.settleCuts idleSlot_ends _ _

theorem bandAction_idle {s : State} (h : s.Slots idleSlot) (src : TripSource) (i : BandId) :
    (s.bandAction src i).Slots idleSlot := by
  unfold State.bandAction
  split
  · exact h
  · split
    · split
      · exact h
      · exact h
      · exact cutBand_idle h _ i
      · exact inOrder_induct (P := State.Slots idleSlot) _ _ _ (fun k _ _ ht => tripPurge_idle ht k) (cutBand_idle h _ i)
    · exact h

theorem latch_idle {s : State} (h : s.Slots idleSlot) (src : TripSource) : (s.latch src).Slots idleSlot := by
  unfold State.latch
  split
  · exact h
  · refine State.Slots.of_slots ?_ (report_slots _ _)
    exact inOrder_induct (P := State.Slots idleSlot) _ _ _ (fun i _ t ht => ht.of_slots (applyPending_slots t i))
      (inOrder_induct (P := State.Slots idleSlot) _ _ _ (fun i _ _ ht => bandAction_idle ht src i) h)

theorem completeLoad_idle {s : State} (h : s.Slots idleSlot) (k : SlotId) : (s.completeLoad k).Slots idleSlot :=
  completeLoad_elim (P := State.Slots idleSlot) (fun _ _ ht => ht) (fun _ _ ht => ht.of_slots (report_slots _ _))
    (fun _ _ _ ht => ht) (fun _ ht => latch_idle ht _) (fun _ _ _ _ _ ht => ht) (fun _ _ => h.setSlot rfl)
    (fun _ _ _ _ => h.setSlot rfl) fun _ => h

/-! ### What is due is done -/

/-- A slot's purge is not due for expiry. -/
def notDueAt (k j : SlotId) (v : KeySlot) : Prop := j = k → ∀ m a, v.state = .purging m a → a.grace = 0 → v.holders = 0

theorem notDueAt_ends (k : SlotId) : SlotEnds (notDueAt k) where
  enter j v kind h hj m a hs hg := by
    cases hv : v.state with
    | purging m' a' =>
      rw [hv] at hs
      have h0 : v.holders = 0 := h hj m' a' hv (by cases kind <;> cases hs <;> exact hg)
      exact Nat.sub_eq_zero_of_le (h0 ▸ Nat.zero_le 1)
    | _ => rw [hv] at hs; cases hs
  erase _ _ _ _ _ _ _ _ _ := rfl

theorem expiryDue_iff (s : State) (k : SlotId) : s.expiryDue k = true ↔
    ∃ m a, (s.slots[k]).state = .purging m a ∧ a.grace = 0 ∧ (s.slots[k]).holders ≠ 0 := by
  unfold State.expiryDue
  cases (s.slots[k]).state <;> simp

theorem expiryDue_eq_false {s : State} {k : SlotId} : s.expiryDue k = false ↔ notDueAt k k s.slots[k] := by
  rw [← Bool.not_eq_true, expiryDue_iff]
  constructor
  · exact fun h _ m a hs hg => by_contra fun hh => h ⟨m, a, hs, hg, hh⟩
  · rintro h ⟨m, a, hs, hg, hh⟩
    exact hh (h rfl m a hs hg)

theorem slots_notDueAt {s : State} {k : SlotId} (h : s.expiryDue k = false) : s.Slots (notDueAt k) := by
  intro j hj
  subst hj
  exact expiryDue_eq_false.1 h rfl

theorem expireSlot_notDue (s : State) (k : SlotId) : (s.expireSlot k).expiryDue k = false := by
  unfold State.expireSlot
  split
  · unfold State.expire
    split
    · rw [expiryDue_eq_false]
      intro _ m a hs hg
      have hidle := endPurge_isPurging ((s.cutAll .keyPurged (s.holdersOf k)).settleCuts false (some k)) k
      rw [KeySlot.isPurging, hs] at hidle
      cases hidle
    · rename_i hs
      refine Bool.eq_false_iff.2 fun hdue => ?_
      obtain ⟨m, a, h, _⟩ := (expiryDue_iff s k).1 hdue
      exact hs m a h
  · exact Bool.eq_false_iff.2 ‹_›

theorem expiries_notDue (s : State) (k : SlotId) :
    (inAnyOrder (fun k t => State.expireSlot t k) s.expiriesDue s).expiryDue k = false := by
  have hkeep : ∀ (x y : SlotId) (t : State), t.expiryDue y = false → (t.expireSlot x).expiryDue y = false := fun x y t ht =>
    expiryDue_eq_false.2 ((slots_notDueAt ht).expireSlot (notDueAt_ends y) x y)
  by_cases hk : k ∈ s.expiriesDue
  · exact (inAnyOrder_establish (P := fun _ => True) (D := fun k t => t.expiryDue k = false) _ _ s (fun _ _ _ => trivial)
      (fun _ _ _ _ => trivial) (fun x _ t _ => expireSlot_notDue t x) (fun x _ y t _ => hkeep x y t) trivial).2 k hk
  · exact inAnyOrder_induct (P := fun t => t.expiryDue k = false) _ _ _ (fun _ _ ht => ht)
      (fun x _ t ht => hkeep x k t ht) (Bool.eq_false_iff.2 fun h => hk (mem_expiriesDue.2 h))

/-- A load that has ended is over, and the others are those there were. -/
theorem completeLoad_ends (s : State) (k : SlotId) : (s.completeLoad k).Slots (loadsOf (s.endLoad k)) := by
  have hself : (s.endLoad k).Slots (loadsOf (s.endLoad k)) := fun _ _ h => h
  have hne : ∀ j, k ≠ j → (s.endLoad k).slots[j] = s.slots[j] := fun j hj => setSlot_get_ne s _ hj
  refine (slots_kept (loadsOf_kept (s.endLoad k))).completeLoad (fun _ _ _ _ _ ht => ht) (fun _ _ => hself)
    (fun l g m hl j l' hl' => ?_) fun hidle j l' hl' => ?_
  · by_cases hj : k = j
    · subst hj
      rw [setSlot_get_self] at hl'
      cases hl'
    · rw [setSlot_get_ne s _ hj] at hl'
      rw [hne j hj]
      exact hl'
  · by_cases hj : k = j
    · subst hj
      exact absurd hl' (hidle l')
    · rw [hne j hj]
      exact hl'

theorem completeLoad_loaded (s : State) (k : SlotId) (l : Load) : ((s.completeLoad k).slots[k]).state ≠ .loading l := by
  intro h
  have hend := completeLoad_ends s k k l h
  rw [State.endLoad, setSlot_get_self] at hend
  cases hend

/-- The unwraps at their bound have completed, and no load has begun. -/
theorem unwraps_loads {s : State} (hs : s.NoHeads) (k : SlotId) (l : Load)
    (h : ((inAnyOrder (fun k t => (State.completeLoad t k).settle) s.unwrapsDue s).slots[k]).state = .loading l) :
    (s.slots[k]).state = .loading l ∧ k ∉ s.unwrapsDue := by
  have hfree : ∀ t : State, t.rim = s.rim → ∀ x, (t.completeLoad x).settle = t.completeLoad x := fun t ht x =>
    settle_of_rim ((completeLoad_rim t x).trans ht) hs
  have hkeep : ∀ x ∈ s.unwrapsDue, ∀ t : State, t.rim = s.rim ∧ t.Slots (loadsOf s) →
      (t.completeLoad x).settle.rim = s.rim ∧ (t.completeLoad x).settle.Slots (loadsOf s) := fun x _ t ht => by
    rw [hfree t ht.1 x]
    exact ⟨(completeLoad_rim t x).trans ht.1, fun j l hl => ht.2 j l (completeLoad_loadsOf t x j l hl)⟩
  have hself : ∀ x ∈ s.unwrapsDue, ∀ t : State, t.rim = s.rim ∧ t.Slots (loadsOf s) →
      ∀ l, (((t.completeLoad x).settle).slots[x]).state ≠ .loading l := fun x _ t ht l => by
    rw [hfree t ht.1 x]
    exact completeLoad_loaded t x l
  have hothers : ∀ x ∈ s.unwrapsDue, ∀ (y : SlotId) (t : State), t.rim = s.rim ∧ t.Slots (loadsOf s) →
      (∀ l, (t.slots[y]).state ≠ .loading l) → ∀ l, (((t.completeLoad x).settle).slots[y]).state ≠ .loading l :=
    fun x _ y t ht hy l hl => by
      rw [hfree t ht.1 x] at hl
      exact hy l (completeLoad_loadsOf t x y l hl)
  obtain ⟨⟨_, hloads⟩, hdone⟩ := inAnyOrder_establish (P := fun t => t.rim = s.rim ∧ t.Slots (loadsOf s))
    (D := fun k t => ∀ l, (t.slots[k]).state ≠ .loading l) (fun k t => (State.completeLoad t k).settle) s.unwrapsDue s
    (fun _ _ ht => ht) hkeep hself hothers ⟨rfl, fun _ _ h => h⟩
  exact ⟨hloads k l h, fun hk => hdone k hk l h⟩

theorem tick_loading {s : State} {k : SlotId} {l : Load} (h : (s.tick.slots[k]).state = .loading l) :
    ∃ l', (s.slots[k]).state = .loading l' ∧ l.timeLeft = l'.timeLeft - 1 := by
  have hslot : s.tick.slots[k] = { s.slots[k] with state := (s.slots[k]).state.tick } := by simp [State.tick]
  rw [hslot] at h
  cases hs : (s.slots[k]).state with
  | loading l' =>
    rw [hs] at h
    cases h
    exact ⟨l', rfl, rfl⟩
  | _ =>
    rw [hs] at h
    cases h

/-! ### The statement -/

theorem inAnyOrder_nil {α : Type} (f : α → State → State) (s : State) : inAnyOrder f [] s = s := rfl

theorem inAnyOrder_singleton {α : Type} (f : α → State → State) (x : α) (s : State) : inAnyOrder f [x] s = f x s := rfl

/-- Settles O50. -/
theorem microsecondsCount : Obligations.MicrosecondsCount := by
  refine ⟨fun s hf hb => ⟨fun hp => congrArg Host.Outcome.next (if_pos hp), fun hp => ⟨⟨_, rfl, ?time⟩, fun hl hg =>
    congrArg Host.Outcome.next ?quiet⟩⟩, fun s t hf hb hp hl ht => ?bounds, fun s ticked hf hb hp htick => ?single⟩
  case time => exact microsecond_linkTime ⟨hf, hb⟩ hp
  case quiet =>
    have hdue : s.tick.expiriesDue = [] := expiriesDue_eq_nil fun k => Bool.eq_false_iff.2 fun h => by
      obtain ⟨m, a, hs, hle, hh⟩ := (tick_expiryDue s k).1 h
      exact absurd (hg k m a hs hh) (Nat.not_lt.2 hle)
    rw [microsecond_of_low hp, unwrapsDue_eq_nil hl]
    simp only [inAnyOrder_nil]
    rw [hdue, inAnyOrder_nil, tick_eq]
    exact settle_of_noHeads _ hf hb
  case bounds =>
    cases ht
    have hu := unwraps_rim ⟨hf, hb⟩ s.unwrapsDue
    have hloads := unwraps_loads (s := s) ⟨hf, hb⟩
    rw [microsecond_of_low hp]
    generalize inAnyOrder (fun k t => (State.completeLoad t k).settle) s.unwrapsDue s = u at hu hloads
    have hheads : u.NoHeads := noHeads_of_rim hu ⟨hf, hb⟩
    rw [settle_of_rim (rim_of_outside (expiries_outside u.tick u.tick.expiriesDue)) (s := u.tick) ⟨hheads.1, hheads.2⟩]
    refine ⟨expiries_notDue u.tick, fun k l h => ?_⟩
    have hkept := inAnyOrder_induct (P := State.Slots (loadsOf u.tick)) (fun k t => State.expireSlot t k)
      u.tick.expiriesDue u.tick (fun _ _ ht => ht) (fun k _ _ ht => ht.expireSlot (loadsOf_kept _).toSlotEnds k)
      (fun _ _ h => h)
    obtain ⟨l', hl', htime⟩ := tick_loading (hkept k l h)
    obtain ⟨hs, hk⟩ := hloads k l' hl'
    have hbound : ¬l'.timeLeft ≤ 1 := fun hle => hk (mem_unwrapsDue.2 ⟨l', hs, hle⟩)
    omega
  case single =>
    have hticked : ∀ u, ticked u = u.tick := fun u => (htick u).trans (tick_eq u).symm
    refine ⟨fun k hl hk => congrArg Host.Outcome.next ?expiry, fun k hk hload hidle =>
      ⟨_, exec_unwrapComplete hf hb, congrArg Host.Outcome.next ?unwrap⟩⟩
    case expiry =>
      have hdue : s.tick.expiriesDue = [k] := eq_singleton_of_nodup ((List.nodup_finRange 32).filter _) fun x => by
        rw [mem_expiriesDue, ← hticked]
        exact hk x
      rw [microsecond_of_low hp, unwrapsDue_eq_nil hl]
      simp only [inAnyOrder_nil]
      rw [hdue, inAnyOrder_singleton, hticked]
    case unwrap =>
      have hdue : s.unwrapsDue = [k] := by
        refine eq_singleton_of_nodup ((List.nodup_finRange 32).filter _) fun x => ?_
        rw [mem_unwrapsDue]
        constructor
        · rintro ⟨l, hl, hle⟩
          exact (hk x l hl).1 hle
        · rintro rfl
          obtain ⟨l, hl⟩ := (isLoading_iff _).1 hload
          exact ⟨l, hl, (hk x l hl).2 rfl⟩
      have hnone : (s.completeLoad k).tick.expiriesDue = [] := expiriesDue_eq_nil fun x => Bool.eq_false_iff.2 fun h => by
        obtain ⟨m, a, hs, _⟩ := (tick_expiryDue _ x).1 h
        have hx := completeLoad_idle (s := s) hidle k x
        rw [idleSlot, KeySlot.isPurging, hs] at hx
        cases hx
      rw [microsecond_of_low hp, hdue]
      simp only [inAnyOrder_singleton]
      rw [settle_of_rim (completeLoad_rim s k) ⟨hf, hb⟩, hnone, inAnyOrder_nil, hticked]
      have hheads : (s.completeLoad k).NoHeads := noHeads_of_rim (completeLoad_rim s k) ⟨hf, hb⟩
      exact settle_of_noHeads _ hheads.1 hheads.2

end Sys2Proof.Machine

/-! PROOFS. The ends of contexts and what follows from them (R41, R42, R58, R94, R101): the bands, the key slots and the
queues after any number of ends, and after the staged changes and the drains behind them. -/

namespace Sys2Proof.Machine

/-! ### Any number of ends -/

/-- An account after the ends of `n` holders. -/
def Account.entered (kind : EndKind) (a : Account) (n : Nat) : Account :=
  match kind with
  | .drained => { a with drained := a.drained + n }
  | .cut => { a with cut := a.cut + n }
  | .uncounted => a

/-- A slot's state after the ends of `n` holders. -/
def SlotState.entered (kind : EndKind) (n : Nat) : SlotState → SlotState
  | .purging m a => .purging m (a.entered kind n)
  | other => other

/-- A slot after the ends of `n` holders. -/
def KeySlot.after (kind : EndKind) (n : Nat) (v : KeySlot) : KeySlot :=
  { v with holders := v.holders - n, state := v.state.entered kind n }

theorem after_zero (kind : EndKind) (v : KeySlot) : v.after kind 0 = v := by
  obtain ⟨generation, holders, state⟩ := v
  cases state with
  | purging m a => cases kind <;> rfl
  | _ => rfl

theorem after_succ (kind : EndKind) (n : Nat) (v : KeySlot) : v.after kind (n + 1) =
    { v.after kind n with holders := (v.after kind n).holders - 1, state := (v.after kind n).state.enter kind } := by
  obtain ⟨generation, holders, state⟩ := v
  cases state with
  | purging m a => cases kind <;> simp [KeySlot.after, SlotState.entered, Account.entered, SlotState.enter, Nat.sub_sub, Nat.add_assoc]
  | _ => simp [KeySlot.after, SlotState.entered, SlotState.enter, Nat.sub_sub]

/-- Between two states contexts have ended, all entered alike, and what they counted is withdrawn. -/
structure State.Ended (kind : EndKind) (s t : State) : Prop where
  contexts : ∀ id : CtxId, t.contexts[id] = none ∨ t.contexts[id] = s.contexts[id]
  bands : ∀ i : BandId, t.bands[i] = (s.bands[i]).map (s.withoutEnded t i)
  slots : ∀ k : SlotId, t.slots[k] = (s.slots[k]).after kind (s.endedWith t fun c => c.holds k)

theorem endedWith_congr {s t t' : State} (h : t'.contexts = t.contexts) (p : Context → Bool) :
    s.endedWith t' p = s.endedWith t p := by
  rw [State.endedWith, h]
  rfl

theorem withoutEnded_congr {s t t' : State} (h : t'.contexts = t.contexts) (i : BandId) :
    s.withoutEnded t' i = s.withoutEnded t i := by
  funext b
  rw [State.withoutEnded, endedWith_congr h, h]
  rfl

theorem endedWith_self (s : State) (p : Context → Bool) : s.endedWith s p = 0 := by
  refine List.countP_eq_zero.2 fun id _ => ?_
  cases s.contexts[id] <;> simp

theorem withoutEnded_self (s : State) (i : BandId) (b : Band) : s.withoutEnded s i b = b := by
  have hwriter : (b.writer.any fun id => (s.contexts[id]).any (fun c => c.names i) && (s.contexts[id]).isNone) = false := by
    cases b.writer with
    | none => rfl
    | some id =>
      show ((s.contexts[id]).any (fun c => c.names i) && (s.contexts[id]).isNone) = false
      cases s.contexts[id] with
      | none => rfl
      | some c => exact Bool.and_false _
  rw [State.withoutEnded, endedWith_self, hwriter]
  rfl

theorem State.Ended.refl (kind : EndKind) (s : State) : s.Ended kind s where
  contexts _ := .inr rfl
  bands i := by
    cases s.bands[i] with
    | none => rfl
    | some b => exact congrArg some (withoutEnded_self s i b).symm
  slots k := by rw [endedWith_self, after_zero]

/-- The contexts, the bands and the slots are what counts. -/
theorem State.Ended.congr {kind : EndKind} {s t t' : State} (h : s.Ended kind t) (hc : t'.contexts = t.contexts)
    (hb : t'.bands = t.bands) (hk : t'.slots = t.slots) : s.Ended kind t' where
  contexts id := by rw [hc]; exact h.contexts id
  bands i := by rw [hb, withoutEnded_congr hc]; exact h.bands i
  slots k := by rw [hk, endedWith_congr hc]; exact h.slots k

theorem endedWith_endOpen {s t : State} {id : CtxId} {c : Context} (hs : s.contexts[id] = some c)
    (hc : t.contexts[id] = some c) (kind : EndKind) (status : TransferStatus) (p : Context → Bool) : s.endedWith (t.endAs kind id status) p =
    s.endedWith t p + if p c then 1 else 0 := by
  have hne : ∀ j, j ≠ id → (t.endAs kind id status).contexts[j] = t.contexts[j] := fun j hj => by
    rw [endAs_contexts, if_neg (Ne.symm hj)]
  have hself : (t.endAs kind id status).contexts[id] = none := by rw [endAs_contexts, if_pos rfl]
  unfold State.endedWith
  by_cases hp : p c = true
  · rw [if_pos hp]
    exact countP_update (List.nodup_finRange 64) (List.mem_finRange id) (fun j hj => by rw [hne j hj]) (by rw [hs, hc]; simp)
      (by rw [hs, hself]; simpa using hp)
  · rw [if_neg hp, Nat.add_zero]
    refine List.countP_congr fun j _ => ?_
    by_cases hj : j = id
    · subst hj
      rw [hs, hc, hself]
      simp [hp]
    · rw [hne j hj]

section Step

variable {s t : State} {kind : EndKind} {id : CtxId} {c : Context} {status : TransferStatus} (h : s.Ended kind t)
  (hc : t.contexts[id] = some c)
include h hc

theorem Ended.open_before : s.contexts[id] = some c := by
  obtain hnone | hsame := h.contexts id
  · rw [hnone] at hc
    cases hc
  · exact hsame.symm.trans hc

theorem Ended.endedWith_endAs (p : Context → Bool) : s.endedWith (t.endAs kind id status) p =
    s.endedWith t p + if p c then 1 else 0 := endedWith_endOpen (Ended.open_before h hc) hc kind status p

/-- Whether a context that named a band has ended. -/
def State.endedNaming (s t : State) (i : BandId) (id : CtxId) : Bool :=
  (s.contexts[id]).any (fun c => c.names i) && (t.contexts[id]).isNone

theorem Ended.withoutEnded_endAs (i : BandId) (b : Band) : s.withoutEnded (t.endAs kind id status) i b =
    if c.names i then (s.withoutEnded t i b).closed id else s.withoutEnded t i b := by
  have hs := Ended.open_before h hc
  have hcount := Ended.endedWith_endAs (status := status) h hc fun x => x.names i
  have hwriter : (if b.writer.any (s.endedNaming (t.endAs kind id status) i) then none else b.writer) =
      if c.names i then
        if (if b.writer.any (s.endedNaming t i) then none else b.writer) = some id then none
        else if b.writer.any (s.endedNaming t i) then none else b.writer
      else if b.writer.any (s.endedNaming t i) then none else b.writer := by
    cases b.writer with
    | none => simp
    | some w =>
      by_cases hw : w = id
      · subst hw
        have hafter : s.endedNaming (t.endAs kind w status) i w = c.names i := by
          rw [State.endedNaming, endAs_contexts, if_pos rfl, hs]
          simp
        have hbefore : s.endedNaming t i w = false := by
          rw [State.endedNaming, hc]
          exact Bool.and_false _
        rw [Option.any_some, Option.any_some, hafter, hbefore]
        cases c.names i <;> simp
      · have hsame : s.endedNaming (t.endAs kind id status) i w = s.endedNaming t i w := by
          rw [State.endedNaming, endAs_contexts, if_neg (Ne.symm hw)]
          rfl
        rw [Option.any_some, Option.any_some, hsame]
        cases s.endedNaming t i w <;> simp [hw]
  unfold State.withoutEnded
  unfold State.endedNaming at hwriter
  rw [hcount, hwriter]
  cases c.names i <;> simp [Band.closed, Nat.sub_sub]

theorem State.Ended.endAs : s.Ended kind (t.endAs kind id status) := by
  have hs := Ended.open_before h hc
  refine ⟨fun j => ?_, fun i => ?_, fun k => ?_⟩
  · rw [endAs_contexts]
    split
    · exact .inl rfl
    · exact h.contexts j
  · rw [endAs_bands_get hc, h.bands i, Option.map_map]
    refine congrArg (fun f => Option.map f s.bands[i]) (funext fun b => ?_)
    exact (Ended.withoutEnded_endAs h hc i b).symm
  · rw [endAs_slots_get hc, h.slots k, Ended.endedWith_endAs h hc]
    split
    · exact (after_succ kind _ _).symm
    · rfl

end Step

theorem State.Ended.endOne {s t : State} {kind : EndKind} (h : s.Ended kind t) (id : CtxId) (status : TransferStatus) :
    s.Ended kind (t.endAs kind id status) := by
  cases hc : t.contexts[id] with
  | none =>
    rw [endAs_of_free hc]
    exact h
  | some c => exact h.endAs hc

theorem State.Ended.endEach {s t : State} {kind : EndKind} (h : s.Ended kind t) (ids : List CtxId)
    (status : TransferStatus) : s.Ended kind (inOrder (fun id t => State.endAs t kind id status) ids t) :=
  inOrder_induct (P := s.Ended kind) _ _ _ (fun id _ _ ht => ht.endOne id status) h

theorem State.Ended.endEachFree {s t : State} {kind : EndKind} (h : s.Ended kind t) (ids : List CtxId)
    (status : TransferStatus) : s.Ended kind (inAnyOrder (fun id t => State.endAs t kind id status) ids t) :=
  inAnyOrder_induct (P := s.Ended kind) _ _ _ (fun _ _ ht => ht.congr rfl rfl rfl) (fun id _ _ ht => ht.endOne id status) h

/-! ### Queues and places -/

/-- The DONE of a context that ends with a status. -/
def State.doneFor (s : State) (status : TransferStatus) (id : CtxId) : Option FrontEntry :=
  (s.contexts[id]).map fun c => .done id status c.sectorsDone (s.linkTime - c.openTime)

/-- The END of a write that ends with a status. -/
def State.endFor (s : State) (status : TransferStatus) (id : CtxId) : Option BackEntry :=
  (s.contexts[id]).bind fun c => if c.dir = .write then some (.ended id status c.sectorsDone) else none

/-- Between two states contexts have ended, and nothing else has happened. -/
def State.OnlyEnds (s t : State) : Prop :=
  ∃ contexts bands slots frontQueue backQueue donePlaces endPlaces choices, t = { s with
    contexts := contexts, bands := bands, slots := slots, frontQueue := frontQueue, backQueue := backQueue,
    donePlaces := donePlaces, endPlaces := endPlaces, choices := choices }

theorem State.OnlyEnds.refl (s : State) : s.OnlyEnds s := ⟨_, _, _, _, _, _, _, _, rfl⟩

theorem State.OnlyEnds.trans {s t u : State} (h : s.OnlyEnds t) (h' : t.OnlyEnds u) : s.OnlyEnds u := by
  obtain ⟨_, _, _, _, _, _, _, _, rfl⟩ := h
  obtain ⟨_, _, _, _, _, _, _, _, rfl⟩ := h'
  exact ⟨_, _, _, _, _, _, _, _, rfl⟩

theorem State.OnlyEnds.same {s t : State} (h : s.OnlyEnds t) : s.SameNotices t ∧ t.replies = s.replies ∧
    t.linkTime = s.linkTime ∧ t.outside = s.outside := by
  obtain ⟨_, _, _, _, _, _, _, _, rfl⟩ := h
  exact ⟨⟨rfl, rfl⟩, rfl, rfl, rfl⟩

theorem endAs_onlyEnds (s : State) (kind : EndKind) (id : CtxId) (status : TransferStatus) :
    s.OnlyEnds (s.endAs kind id status) := by
  unfold State.endAs
  split
  · exact .refl s
  · dsimp only
    split
    · exact ⟨_, _, _, _, _, _, _, _, rfl⟩
    · exact ⟨_, _, _, _, _, _, _, _, rfl⟩

theorem endEach_onlyEnds (s : State) (kind : EndKind) (ids : List CtxId) (status : TransferStatus) :
    s.OnlyEnds (inOrder (fun id t => State.endAs t kind id status) ids s) :=
  inOrder_induct (P := s.OnlyEnds) _ _ _ (fun id _ t ht => ht.trans (endAs_onlyEnds t kind id status)) (.refl s)

theorem endEachFree_onlyEnds (s : State) (kind : EndKind) (ids : List CtxId) (status : TransferStatus) :
    s.OnlyEnds (inAnyOrder (fun id t => State.endAs t kind id status) ids s) :=
  inAnyOrder_induct (P := s.OnlyEnds) _ _ _ (fun _ _ ht => ht.trans ⟨_, _, _, _, _, _, _, _, rfl⟩)
    (fun id _ t ht => ht.trans (endAs_onlyEnds t kind id status)) (.refl s)

/-- What one end appends. -/
theorem endAs_queues (s : State) (kind : EndKind) (id : CtxId) (status : TransferStatus) :
    (s.endAs kind id status).frontQueue = s.frontQueue ++ (s.doneFor status id).toList ∧
    (s.endAs kind id status).backQueue = s.backQueue ++ (s.endFor status id).toList := by
  cases hc : s.contexts[id] with
  | none =>
    rw [endAs_of_free hc, State.doneFor, State.endFor, hc]
    exact ⟨(List.append_nil _).symm, (List.append_nil _).symm⟩
  | some c =>
    rw [endAs_frontQueue hc, endAs_backQueue hc, State.doneFor, State.endFor, hc]
    refine ⟨rfl, congrArg (s.backQueue ++ ·) ?_⟩
    rw [Option.bind_some]
    split <;> rfl

/-- The queues after the ends of a list of contexts, in its order (R42, R148, R149). -/
theorem endEach_queues (kind : EndKind) (status : TransferStatus) {ids : List CtxId} (hn : ids.Nodup) (s : State) :
    (inOrder (fun id t => State.endAs t kind id status) ids s).frontQueue =
      s.frontQueue ++ ids.filterMap (s.doneFor status) ∧
    (inOrder (fun id t => State.endAs t kind id status) ids s).backQueue =
      s.backQueue ++ ids.filterMap (s.endFor status) := by
  induction ids generalizing s with
  | nil => exact ⟨(List.append_nil _).symm, (List.append_nil _).symm⟩
  | cons id ids ih =>
    obtain ⟨hid, hn⟩ := List.nodup_cons.1 hn
    have hrest : ∀ j ∈ ids, (s.endAs kind id status).contexts[j] = s.contexts[j] := fun j hj => by
      rw [endAs_contexts, if_neg (show ¬id = j from fun h => hid (h ▸ hj))]
    have htime := (endAs_onlyEnds s kind id status).same.2.2.1
    have hdone : ids.filterMap ((s.endAs kind id status).doneFor status) = ids.filterMap (s.doneFor status) :=
      List.filterMap_congr fun j hj => by rw [State.doneFor, hrest j hj, htime]; rfl
    have hend : ids.filterMap ((s.endAs kind id status).endFor status) = ids.filterMap (s.endFor status) :=
      List.filterMap_congr fun j hj => by rw [State.endFor, hrest j hj]; rfl
    obtain ⟨hfront, hback⟩ := endAs_queues s kind id status
    obtain ⟨ihfront, ihback⟩ := ih hn (s.endAs kind id status)
    rw [inOrder_cons, ihfront, ihback, hdone, hend, hfront, hback, List.append_assoc, List.append_assoc,
      List.filterMap_cons, List.filterMap_cons]
    cases s.doneFor status id <;> cases s.endFor status id <;> exact ⟨rfl, rfl⟩

/-- Each context that has ended between two states has its DONE place filled, and a write its END place. -/
def State.EndPlaced (s t : State) : Prop := ∀ id : CtxId,
  t.donePlaces[id] = (if (s.contexts[id]).isSome && (t.contexts[id]).isNone then .filled else s.donePlaces[id]) ∧
  t.endPlaces[id] = (if (s.contexts[id]).any (fun c => c.dir == .write) && (t.contexts[id]).isNone then .filled
    else s.endPlaces[id])

theorem State.EndPlaced.refl (s : State) : s.EndPlaced s := fun id => by
  cases s.contexts[id] <;> simp

theorem State.EndPlaced.endOne {s t : State} {kind : EndKind} (h : s.EndPlaced t) (he : s.Ended kind t) (id : CtxId)
    (status : TransferStatus) : s.EndPlaced (t.endAs kind id status) := by
  cases hc : t.contexts[id] with
  | none =>
    rw [endAs_of_free hc]
    exact h
  | some c =>
    intro j
    have hs := Ended.open_before he hc
    rw [endAs_contexts, endAs_donePlaces hc, endAs_endPlaces hc]
    by_cases hj : id = j
    · subst hj
      obtain ⟨_, hend⟩ := h id
      rw [hc, Option.isNone_some, Bool.and_false, if_neg Bool.false_ne_true] at hend
      rw [hs, if_pos rfl]
      refine ⟨Vector.getElem_set_self _, ?_⟩
      cases hd : c.dir with
      | write =>
        rw [if_pos rfl]
        refine (Vector.getElem_set_self _).trans ?_
        simp [hd]
      | read =>
        rw [if_neg nofun, hend]
        simp [hd]
    · rw [if_neg hj]
      have hval : id.val ≠ j.val := fun hv => hj (Fin.ext hv)
      refine ⟨(Vector.getElem_set_ne _ _ hval).trans (h j).1, ?_⟩
      split
      · exact (Vector.getElem_set_ne _ _ hval).trans (h j).2
      · exact (h j).2

theorem endEach_endPlaced (s : State) (kind : EndKind) (ids : List CtxId) (status : TransferStatus) :
    s.EndPlaced (inOrder (fun id t => State.endAs t kind id status) ids s) :=
  (inOrder_induct (P := fun t => s.EndPlaced t ∧ s.Ended kind t) _ _ _
    (fun id _ _ ht => ⟨ht.1.endOne ht.2 id status, ht.2.endOne id status⟩) ⟨.refl s, .refl kind s⟩).1

theorem endEachFree_endPlaced (s : State) (kind : EndKind) (ids : List CtxId) (status : TransferStatus) :
    s.EndPlaced (inAnyOrder (fun id t => State.endAs t kind id status) ids s) :=
  (inAnyOrder_induct (P := fun t => s.EndPlaced t ∧ s.Ended kind t) _ _ _
    (fun _ _ ht => ⟨ht.1, ht.2.congr rfl rfl rfl⟩)
    (fun id _ _ ht => ⟨ht.1.endOne ht.2 id status, ht.2.endOne id status⟩) ⟨.refl s, .refl kind s⟩).1

end Sys2Proof.Machine

/-! PROOFS. What follows from the ends of contexts (R41, R58, R65, R101): the classes that stay, the bands that the
staged changes leave, and the slots that drain. -/

namespace Sys2Proof.Machine

/-! ### One class of the notice unit -/

/-- Two states agree on one class and its notice slot. -/
def State.SameClass (s t : State) (k : NoticeClass) : Prop :=
  t.classOf k = s.classOf k ∧ t.noticeSlots[k.idx] = s.noticeSlots[k.idx]

theorem State.SameClass.refl (s : State) (k : NoticeClass) : s.SameClass s k := ⟨rfl, rfl⟩

theorem State.SameClass.trans {s t u : State} {k : NoticeClass} (h : s.SameClass t k) (h' : t.SameClass u k) :
    s.SameClass u k := ⟨h'.1.trans h.1, h'.2.trans h.2⟩

theorem State.SameNotices.sameClass {s t : State} (h : s.SameNotices t) (k : NoticeClass) : s.SameClass t k := by
  obtain ⟨hc, hn⟩ := h
  refine ⟨?_, by rw [hn]⟩
  rw [State.classOf, hc]
  rfl

theorem report_sameClass (s : State) (d : Detail) {k : NoticeClass} (h : k ≠ d.noticeClass) : s.SameClass (s.report d) k :=
  report_other s d h

/-- A report into a class depends on the class and link time alone. -/
theorem State.SameClass.report {s t : State} {d : Detail} (h : s.SameClass t d.noticeClass)
    (hl : t.linkTime = s.linkTime) : (s.report d).SameClass (t.report d) d.noticeClass := by
  obtain ⟨hclass, hslot⟩ := h
  refine ⟨?_, ?_⟩
  · rw [report_classOf_self, report_classOf_self, hclass, hl]
  · rw [report_noticeSlots, report_noticeSlots, hclass, hl]
    split
    · exact (Vector.getElem_set_self _).trans (Vector.getElem_set_self _).symm
    · exact hslot

theorem inOrder_sameClass {α : Type} {f : α → State → State} {xs : List α} {s : State} {k : NoticeClass}
    (h : ∀ x ∈ xs, ∀ t : State, t.SameClass (f x t) k) : s.SameClass (inOrder f xs s) k :=
  inOrder_induct (P := fun t => s.SameClass t k) f xs s (fun x hx t ht => ht.trans (h x hx t)) (.refl s k)

theorem inAnyOrder_sameClass {α : Type} {f : α → State → State} {xs : List α} {s : State} {k : NoticeClass}
    (h : ∀ x ∈ xs, ∀ t : State, t.SameClass (f x t) k) : s.SameClass (inAnyOrder f xs s) k :=
  inAnyOrder_induct (P := fun t => s.SameClass t k) f xs s (fun _ _ ht => ht) (fun x hx t ht => ht.trans (h x hx t))
    (.refl s k)

section OtherClasses

variable {k : NoticeClass} (hk : k ≠ .migrate)
include hk

theorem moveWatermark_sameClass (s : State) (i : BandId) (w : Nat) (announce : Bool) :
    s.SameClass (s.moveWatermark i w announce) k := by
  have hannounce : s.SameClass (s.announce announce i w) k := by
    cases announce
    · exact .refl s k
    · exact report_sameClass s _ hk
  cases hr : (s.bands[i]).bind (·.migration) with
  | none =>
    rw [moveWatermark_of_idle hr]
    exact .refl s k
  | some r =>
    obtain ⟨b, hb, hr⟩ := Option.bind_eq_some_iff.1 hr
    by_cases hw : w = b.fields.extent.endLba
    · rw [moveWatermark_end hb hr w announce hw]
      exact hannounce.trans (State.SameClass.trans (t := (s.announce announce i w).setBand i _) ⟨rfl, rfl⟩
        (report_sameClass _ _ hk))
    · rw [moveWatermark_below hb hr w announce hw]
      exact hannounce.trans ⟨rfl, rfl⟩

theorem replaceWatermark_sameClass (s : State) (ns : Ns) : s.SameClass (s.replaceWatermark ns) k := by
  unfold State.replaceWatermark
  split
  · exact .refl s k
  · dsimp only
    split
    · exact .refl s k
    · exact moveWatermark_sameClass hk s _ _ _

theorem applyPending_sameClass (s : State) (i : BandId) : s.SameClass (s.applyPending i) k := by
  refine applyPending_elim (P := fun t => s.SameClass t k) (.refl s k) (fun b new owed _ _ _ => ?_)
    fun b target generation owed hb _ _ => ?_
  · refine State.SameClass.trans ?_ ((payReply_sameNotices _ owed _ _ _).sameClass k)
    cases new with
    | none => exact ⟨rfl, rfl⟩
    | some f =>
      rw [applyBandSet_some]
      split
      · exact State.SameClass.trans (t := s.setBand i _) ⟨rfl, rfl⟩ (replaceWatermark_sameClass hk _ _)
      · exact ⟨rfl, rfl⟩
  · refine State.SameClass.trans ?_ ((payReply_sameNotices _ owed _ _ _).sameClass k)
    rw [State.applyMigrateStart, hb]
    exact State.SameClass.trans (t := s.setBand i _) ⟨rfl, rfl⟩ (moveWatermark_sameClass hk _ _ _ _)

theorem applyIdleChanges_sameClass (s : State) : s.SameClass s.applyIdleChanges k :=
  inOrder_sameClass fun i _ t => applyPending_sameClass hk t i

end OtherClasses

theorem endPurge_sameClass {k : NoticeClass} (hk : k ≠ .purge) (s : State) (j : SlotId) :
    s.SameClass (s.endPurge j) k := by
  unfold State.endPurge
  split
  · exact State.SameClass.trans (State.SameClass.trans (t := s.erase j) ⟨rfl, rfl⟩
      ((payReply_sameNotices _ _ _ _ _).sameClass k)) (report_sameClass _ _ hk)
  · exact .refl s k

theorem drainIdle_sameClass {k : NoticeClass} (hk : k ≠ .purge) (s : State) (except : Option SlotId) :
    s.SameClass (s.drainIdle except) k :=
  inAnyOrder_sameClass fun j _ t => endPurge_sameClass hk t j

theorem settleCuts_sameClass {k : NoticeClass} (hk : k ≠ .purge) (hm : k ≠ .migrate) (s : State) (deferred : Bool)
    (except : Option SlotId) : s.SameClass (s.settleCuts deferred except) k := by
  unfold State.settleCuts
  refine State.SameClass.trans ?_ (drainIdle_sameClass hk _ except)
  split
  · exact .refl s k
  · exact applyIdleChanges_sameClass hm s

/-! ### The bands that staged changes leave -/

/-- What another band's change may do to a band: its watermark moves, or its migration completes (R114). -/
def Band.MayMove (b b' : Band) : Prop :=
  b' = b ∨ ∃ binding migration writer, (writer = b.writer ∨ writer = none) ∧
    b' = { b with fields := { b.fields with binding := binding }, migration := migration, writer := writer }

theorem applyPending_get_unstaged {s : State} {i : BandId} (j : BandId) {b : Band} (hb : s.bands[i] = some b)
    (hp : b.pending = none) (hbase : isBase i = false ∨ b.migration = none) : (s.applyPending j).bands[i] = some b := by
  by_cases hij : j = i
  · subst hij
    rw [applyPending_of_unstaged (by rw [hb]; exact hp)]
    exact hb
  · refine applyPending_elim (P := fun t => t.bands[i] = some b) hb (fun b' new owed _ _ _ => ?_)
      fun b' target generation owed hb' _ _ => ?_
    · rw [payReply_bands]
      refine (applyBandSet_get_ne s new (Ne.symm hij) fun g ns first last _ _ hi => ?_).trans hb
      obtain hbase | hbase := hbase
      · rw [hi, isBase_baseBand] at hbase
        cases hbase
      · rw [hb]
        exact hbase
    · rw [payReply_bands, State.applyMigrateStart, hb']
      exact (moveWatermark_get_ne _ _ _ hij).trans ((setBand_get_ne s _ hij).trans hb)

theorem inOrder_applyPending_get {s : State} (is : List BandId) {i : BandId} {b : Band} (hb : s.bands[i] = some b)
    (hp : b.pending = none) (hbase : isBase i = false ∨ b.migration = none) :
    (inOrder (fun j t => State.applyPending t j) is s).bands[i] = some b :=
  inOrder_induct (P := fun t => t.bands[i] = some b) _ _ _ (fun j _ _ ht => applyPending_get_unstaged j ht hp hbase) hb

theorem applyIdleChanges_of_unstaged {s : State} (h : ∀ (j : BandId) (x : Band), s.bands[j] = some x → x.pending = none) :
    s.applyIdleChanges = s :=
  inOrder_of_fixed fun j _ => applyPending_of_unstaged (Option.bind_eq_none_iff.2 fun x hx => h j x hx)

/-- A band without a staged change stays as it is, but for a base band's watermark where another change applies. -/
theorem applyIdleChanges_get {s : State} {i : BandId} {b : Band} (hb : s.bands[i] = some b) (hp : b.pending = none)
    (hbase : isBase i = false ∨ b.migration = none ∨ ∀ (j : BandId) (x : Band), s.bands[j] = some x → x.pending = none) :
    s.applyIdleChanges.bands[i] = some b := by
  obtain h | h | h := hbase
  · exact inOrder_applyPending_get allBands hb hp (.inl h)
  · exact inOrder_applyPending_get allBands hb hp (.inr h)
  · rw [applyIdleChanges_of_unstaged h]
    exact hb

theorem Band.MayMove.refl (b : Band) : b.MayMove b := .inl rfl

theorem Band.MayMove.trans {b b' b'' : Band} (h : b.MayMove b') (h' : b'.MayMove b'') : b.MayMove b'' := by
  obtain rfl | ⟨_, _, writer, hw, rfl⟩ := h
  · exact h'
  · obtain rfl | ⟨_, _, writer', hw', rfl⟩ := h'
    · exact .inr ⟨_, _, _, hw, rfl⟩
    · exact .inr ⟨_, _, writer', hw'.elim (fun h => h ▸ hw) .inr, rfl⟩

theorem moved_mayMove (b : Band) (r : Migration) (w : Nat) : b.MayMove (b.moved r w) := by
  unfold Band.moved
  split
  · exact .inr ⟨_, _, _, .inr rfl, rfl⟩
  · exact .inr ⟨_, _, _, .inl rfl, rfl⟩

theorem moveWatermark_mayMove {s : State} {i j : BandId} {b : Band} (hb : s.bands[j] = some b) (w : Nat)
    (announce : Bool) : ∃ b', (s.moveWatermark i w announce).bands[j] = some b' ∧ b.MayMove b' := by
  by_cases hij : i = j
  · subst hij
    cases hr : b.migration with
    | none => exact ⟨b, by rw [moveWatermark_of_idle (by rw [hb]; exact hr)]; exact hb, .refl b⟩
    | some r => exact ⟨_, by rw [moveWatermark_bands_get hb hr, if_pos rfl], moved_mayMove b r w⟩
  · exact ⟨b, (moveWatermark_get_ne s w announce hij).trans hb, .refl b⟩

theorem replaceWatermark_mayMove {s : State} {ns : Ns} {j : BandId} {b : Band} (hb : s.bands[j] = some b) :
    ∃ b', (s.replaceWatermark ns).bands[j] = some b' ∧ b.MayMove b' := by
  unfold State.replaceWatermark
  split
  · exact ⟨b, hb, .refl b⟩
  · dsimp only
    split
    · exact ⟨b, hb, .refl b⟩
    · exact moveWatermark_mayMove hb _ _

/-- Another band's change moves at most a watermark. -/
theorem applyPending_mayMove_ne {s : State} {i j : BandId} (hij : j ≠ i) {b : Band} (hb : s.bands[i] = some b) :
    ∃ b', (s.applyPending j).bands[i] = some b' ∧ b.MayMove b' := by
  refine applyPending_elim (P := fun t => ∃ b', t.bands[i] = some b' ∧ b.MayMove b') ⟨b, hb, .refl b⟩
    (fun b' new owed _ _ _ => ?_) fun b' target generation owed hb' _ _ => ?_
  · rw [payReply_bands]
    cases new with
    | none => exact ⟨b, (setBand_get_ne s none hij).trans hb, .refl b⟩
    | some f =>
      have hset := (setBand_get_ne s (some (s.entered j f)) hij).trans hb
      rw [applyBandSet_some]
      split
      · exact replaceWatermark_mayMove hset
      · exact ⟨b, hset, .refl b⟩
  · rw [payReply_bands, State.applyMigrateStart, hb']
    exact ⟨b, (moveWatermark_get_ne _ _ _ hij).trans ((setBand_get_ne s _ hij).trans hb), .refl b⟩

theorem applyPending_mayMove {s : State} {i : BandId} (j : BandId) {b : Band} (hb : s.bands[i] = some b)
    (hp : b.pending = none) : ∃ b', (s.applyPending j).bands[i] = some b' ∧ b.MayMove b' := by
  by_cases hij : j = i
  · subst hij
    rw [applyPending_of_unstaged (by rw [hb]; exact hp)]
    exact ⟨b, hb, .refl b⟩
  · exact applyPending_mayMove_ne hij hb

theorem Band.MayMove.pending {b b' : Band} (h : b.MayMove b') : b'.pending = b.pending := by
  obtain rfl | ⟨_, _, _, _, rfl⟩ := h <;> rfl

theorem applyIdleChanges_mayMove {s : State} {i : BandId} {b : Band} (hb : s.bands[i] = some b) (hp : b.pending = none) :
    ∃ b', s.applyIdleChanges.bands[i] = some b' ∧ b.MayMove b' :=
  inOrder_induct (P := fun t => ∃ b', t.bands[i] = some b' ∧ b.MayMove b') _ _ _ (fun j _ t ⟨b', hb', hmove⟩ => by
    obtain ⟨b'', hb'', hmove'⟩ := applyPending_mayMove j hb' (hmove.pending.trans hp)
    exact ⟨b'', hb'', hmove.trans hmove'⟩) ⟨b, hb, .refl b⟩

theorem applyIdleChanges_contexts (s : State) : s.applyIdleChanges.contexts = s.contexts :=
  contexts_of_transfers (applyIdleChanges_transfers s)

theorem drainIdle_contexts (s : State) (except : Option SlotId) : (s.drainIdle except).contexts = s.contexts :=
  contexts_of_transfers (drainIdle_transfers s except)

/-! ### The slots that drain -/

/-- A slot erased (R104). -/
def KeySlot.erased (v : KeySlot) : KeySlot := { v with holders := 0, state := .empty }

/-- The reply that a purge owes at its end (R101). -/
def purgeReply (k : SlotId) (a : Account) (tag : Byte) : Reply :=
  ⟨tag, RequestCode.keyPurge.byte, .ok, .keyPurge (slotByte k) (countByte a.drained) (countByte a.cut)⟩

theorem mem_drainable {s : State} {except : Option SlotId} {k : SlotId} : k ∈ s.drainable except ↔
    (s.slots[k]).isPurging = true ∧ (s.slots[k]).holders = 0 ∧ except ≠ some k := by
  rw [State.drainable, List.mem_filter]
  simp only [List.mem_finRange, true_and, Bool.and_eq_true, beq_iff_eq, bne_iff_ne, and_assoc]

theorem endPurge_of_purging {s : State} {k : SlotId} {m : Material} {a : Account} (h : (s.slots[k]).state = .purging m a) :
    s.endPurge k = ((s.erase k).payReply a.owed .keyPurge .ok
      (.keyPurge (slotByte k) (countByte a.drained) (countByte a.cut))).report (.purge k a.cause a.drained a.cut) := by
  rw [State.endPurge, h]

theorem endPurge_of_idle {s : State} {k : SlotId} (h : (s.slots[k]).isPurging = false) : s.endPurge k = s := by
  unfold State.endPurge
  split
  · rename_i m a hs
    rw [KeySlot.isPurging, hs] at h
    cases h
  · rfl

theorem endPurge_slots_ne (s : State) {k j : SlotId} (h : j ≠ k) : (s.endPurge k).slots[j] = s.slots[j] := by
  rw [endPurge_slots_get, if_neg fun hj => h hj.1]

theorem endPurge_slots_self {s : State} {k : SlotId} (h : (s.slots[k]).isPurging = true) :
    (s.endPurge k).slots[k] = (s.slots[k]).erased := by
  rw [endPurge_slots_get, if_pos ⟨rfl, h⟩]
  rfl

theorem endPurge_hasReply {s : State} {k : SlotId} {m : Material} {a : Account} {tag : Byte}
    (h : (s.slots[k]).state = .purging m a) (ht : a.owed = some tag) : (s.endPurge k).HasReply (purgeReply k a tag) := by
  rw [endPurge_of_purging h, ht]
  exact hasReply_report _ (List.mem_append_right _ List.mem_cons_self)

theorem isPurging_iff (v : KeySlot) : v.isPurging = true ↔ ∃ m a, v.state = .purging m a := by
  unfold KeySlot.isPurging
  cases v.state <;> simp

/-- A slot's purge has ended between two states, with its reply. -/
def State.PurgeEnded (s t : State) (k : SlotId) : Prop :=
  t.slots[k] = (s.slots[k]).erased ∧
  ∀ m a tag, (s.slots[k]).state = .purging m a → a.owed = some tag → t.HasReply (purgeReply k a tag)

theorem State.PurgeEnded.endPurge {s t : State} {k : SlotId} (h : s.PurgeEnded t k) (j : SlotId) :
    s.PurgeEnded (t.endPurge j) k := by
  refine ⟨?_, fun m a tag hs ht => (h.2 m a tag hs ht).endPurge j⟩
  by_cases hj : k = j
  · subst hj
    rw [endPurge_of_idle (by rw [h.1]; rfl)]
    exact h.1
  · rw [endPurge_slots_ne t hj]
    exact h.1

theorem endPurge_ended {s t : State} {k : SlotId} (h : t.slots[k] = s.slots[k]) (hp : (s.slots[k]).isPurging = true) :
    s.PurgeEnded (t.endPurge k) k := by
  refine ⟨?_, fun m a tag hs ht => endPurge_hasReply (by rw [h]; exact hs) ht⟩
  rw [endPurge_slots_self (by rw [h]; exact hp), h]

/-- The drains of an event: each slot on the list is erased with its reply, and every other slot stays (R101). -/
theorem drains_ended (s : State) (ks : List SlotId) (hp : ∀ k ∈ ks, (s.slots[k]).isPurging = true) :
    (∀ k ∈ ks, s.PurgeEnded (inAnyOrder (fun k t => State.endPurge t k) ks s) k) ∧
    ∀ k, k ∉ ks → (inAnyOrder (fun k t => State.endPurge t k) ks s).slots[k] = s.slots[k] := by
  refine ⟨?_, fun k hk => inAnyOrder_induct (P := fun t => t.slots[k] = s.slots[k]) _ _ _ (fun _ _ ht => ht)
    (fun j hj t ht => (endPurge_slots_ne t (show k ≠ j from fun he => hk (he ▸ hj))).trans ht) rfl⟩
  have hkeep : ∀ j ∈ ks, ∀ t : State, (∀ k ∈ ks, t.slots[k] = s.slots[k] ∨ s.PurgeEnded t k) →
      ∀ k ∈ ks, (t.endPurge j).slots[k] = s.slots[k] ∨ s.PurgeEnded (t.endPurge j) k := fun j hj t ht k hk => by
    obtain h | h := ht k hk
    · by_cases hkj : k = j
      · subst hkj
        exact .inr (endPurge_ended h (hp k hk))
      · exact .inl ((endPurge_slots_ne t hkj).trans h)
    · exact .inr (h.endPurge j)
  have hself : ∀ j ∈ ks, ∀ t : State, (∀ k ∈ ks, t.slots[k] = s.slots[k] ∨ s.PurgeEnded t k) →
      s.PurgeEnded (t.endPurge j) j := fun j hj t ht =>
    (ht j hj).elim (fun h => endPurge_ended h (hp j hj)) fun h => h.endPurge j
  exact (inAnyOrder_establish (P := fun t => ∀ k ∈ ks, t.slots[k] = s.slots[k] ∨ s.PurgeEnded t k)
    (D := fun k t => s.PurgeEnded t k) (fun k t => State.endPurge t k) ks s (fun _ _ ht => ht) hkeep hself
    (fun j _ k t _ h => h.endPurge j) fun _ _ => .inl rfl).2

theorem drainIdle_ended {s : State} {except : Option SlotId} {k : SlotId} (hp : (s.slots[k]).isPurging = true)
    (h0 : (s.slots[k]).holders = 0) (hne : except ≠ some k) : s.PurgeEnded (s.drainIdle except) k :=
  (drains_ended s (s.drainable except) fun _ hj => (mem_drainable.1 hj).1).1 k (mem_drainable.2 ⟨hp, h0, hne⟩)

theorem drainIdle_slots_kept {s : State} {except : Option SlotId} {k : SlotId}
    (h : (s.slots[k]).isPurging = false ∨ (s.slots[k]).holders ≠ 0 ∨ except = some k) :
    (s.drainIdle except).slots[k] = s.slots[k] := by
  refine (drains_ended s (s.drainable except) fun _ hj => (mem_drainable.1 hj).1).2 k fun hk => ?_
  obtain ⟨hp, h0, hne⟩ := mem_drainable.1 hk
  obtain h | h | h := h
  · rw [hp] at h
    cases h
  · exact h h0
  · exact hne h

theorem drainIdle_of_none {s : State} {except : Option SlotId}
    (h : ∀ k, (s.slots[k]).isPurging = true → (s.slots[k]).holders = 0 → except = some k) : s.drainIdle except = s := by
  have hnil : s.drainable except = [] := List.eq_nil_iff_forall_not_mem.2 fun k hk => by
    obtain ⟨hp, h0, hne⟩ := mem_drainable.1 hk
    exact hne (h k hp h0)
  rw [State.drainIdle, hnil, inAnyOrder_nil]

theorem drainIdle_of_one {s : State} {k : SlotId}
    (h : ∀ x, ((s.slots[x]).isPurging = true ∧ (s.slots[x]).holders = 0) ↔ x = k) : s.drainIdle none = s.endPurge k := by
  have hone : s.drainable none = [k] := eq_singleton_of_nodup ((List.nodup_finRange 32).filter _) fun x => by
    rw [mem_drainable, ← h x]
    exact ⟨fun ⟨hp, h0, _⟩ => ⟨hp, h0⟩, fun ⟨hp, h0⟩ => ⟨hp, h0, nofun⟩⟩
  rw [State.drainIdle, hone, inAnyOrder_singleton]

theorem settleCuts_slots_kept {s : State} {deferred : Bool} {except : Option SlotId} {k : SlotId}
    (h : (s.slots[k]).isPurging = false ∨ (s.slots[k]).holders ≠ 0 ∨ except = some k) :
    (s.settleCuts deferred except).slots[k] = s.slots[k] := by
  unfold State.settleCuts
  split
  · exact drainIdle_slots_kept h
  · rw [drainIdle_slots_kept (by rw [applyIdleChanges_slots]; exact h), applyIdleChanges_slots]

theorem settleCuts_ended {s : State} {deferred : Bool} {except : Option SlotId} {k : SlotId}
    (hp : (s.slots[k]).isPurging = true) (h0 : (s.slots[k]).holders = 0) (hne : except ≠ some k) :
    s.PurgeEnded (s.settleCuts deferred except) k := by
  unfold State.settleCuts
  split
  · exact drainIdle_ended hp h0 hne
  · have hsame : s.applyIdleChanges.slots[k] = s.slots[k] := by rw [applyIdleChanges_slots]
    obtain ⟨hslot, hreply⟩ := drainIdle_ended (s := s.applyIdleChanges) (except := except) (k := k) (by rw [hsame]; exact hp)
      (by rw [hsame]; exact h0) hne
    refine ⟨by rw [hslot, hsame], fun m a tag hs ht => hreply m a tag (by rw [hsame]; exact hs) ht⟩

theorem settleCuts_contexts (s : State) (deferred : Bool) (except : Option SlotId) :
    (s.settleCuts deferred except).contexts = s.contexts :=
  contexts_of_transfers (settleCuts_transfers s deferred except)

/-! ### What the ends of contexts do to a slot -/

theorem State.SlotFollows.congr {s t t' : State} {k : SlotId} {enter : Account → Nat → Account}
    (h : s.SlotFollows t k enter) (hc : t'.contexts = t.contexts) (hslot : t'.slots[k] = t.slots[k])
    (hr : ∀ r, t.HasReply r → t'.HasReply r) : s.SlotFollows t' k enter := by
  intro n hn
  rw [endedWith_congr hc] at hn
  obtain ⟨hgen, hidle, hpurging⟩ := h n hn
  rw [hslot]
  refine ⟨hgen, hidle, fun m a hs => ?_⟩
  obtain ⟨hsome, hnone⟩ := hpurging m a hs
  refine ⟨hsome, fun h0 => ?_⟩
  obtain ⟨hstate, hholders, hreply⟩ := hnone h0
  exact ⟨hstate, hholders, fun tag ht => hr _ (hreply tag ht)⟩

/-- A slot follows the ends of its holders, and drains where none is left (R41, R94, R101). -/
theorem slotFollows_of_after {s c : State} {kind : EndKind} {k : SlotId}
    (h : c.slots[k] = (s.slots[k]).after kind (s.endedWith c fun x => x.holds k)) (deferred : Bool)
    {except : Option SlotId} (hne : except ≠ some k) :
    s.SlotFollows (c.settleCuts deferred except) k (Account.entered kind) := by
  intro n hn
  rw [endedWith_congr (settleCuts_contexts c deferred except)] at hn
  have hslot : c.slots[k] = (s.slots[k]).after kind n := by rw [h, hn]
  have hgen : (c.slots[k]).generation = (s.slots[k]).generation := by rw [hslot]; rfl
  have hholders : (c.slots[k]).holders = (s.slots[k]).holders - n := by rw [hslot]; rfl
  have hstate : (c.slots[k]).state = (s.slots[k]).state.entered kind n := by rw [hslot]; rfl
  cases hp : (s.slots[k]).isPurging with
  | false =>
    have hsame : (s.slots[k]).state.entered kind n = (s.slots[k]).state := by
      unfold KeySlot.isPurging at hp
      cases hs : (s.slots[k]).state with
      | purging => rw [hs] at hp; cases hp
      | _ => rfl
    have hidle : (c.slots[k]).isPurging = false := by
      rw [KeySlot.isPurging, hstate, hsame]
      exact hp
    rw [settleCuts_slots_kept (.inl hidle)]
    refine ⟨hgen, fun _ => ⟨hstate.trans hsame, hholders⟩, fun m a hs => ?_⟩
    rw [KeySlot.isPurging, hs] at hp
    cases hp
  | true =>
    obtain ⟨m, a, hs⟩ := (isPurging_iff _).1 hp
    rw [hs] at hstate
    have hpurging : (c.slots[k]).isPurging = true := (isPurging_iff _).2 ⟨m, _, hstate⟩
    by_cases h0 : (s.slots[k]).holders - n = 0
    · obtain ⟨herased, hreply⟩ := settleCuts_ended (deferred := deferred) hpurging (hholders.trans h0) hne
      rw [herased]
      refine ⟨hgen, fun hno => ?_, fun m' a' hs' => ⟨fun h1 => absurd h0 h1, fun _ => ⟨rfl, rfl, fun tag ht => ?_⟩⟩⟩
      · cases hno
      · cases hs.symm.trans hs'
        exact hreply m (a.entered kind n) tag hstate (by cases kind <;> exact ht)
    · rw [settleCuts_slots_kept (.inr (.inl (by rw [hholders]; exact h0)))]
      refine ⟨hgen, fun hno => ?_, fun m' a' hs' => ⟨fun _ => ?_, fun h1 => absurd h1 h0⟩⟩
      · cases hno
      · cases hs.symm.trans hs'
        exact ⟨hstate, hholders⟩

theorem settleCuts_slotFollows {s c : State} {kind : EndKind} (h : s.Ended kind c) (deferred : Bool)
    {except : Option SlotId} {k : SlotId} (hne : except ≠ some k) :
    s.SlotFollows (c.settleCuts deferred except) k (Account.entered kind) :=
  slotFollows_of_after (h.slots k) deferred hne

end Sys2Proof.Machine

/-! PROOFS. ABORT, the drains and the expiry of purges, and PURGE-ALL (R42, R44, R101, R102, R104, R107). -/

namespace Sys2Proof.Machine

/-! ### The state after the ends of contexts -/

theorem settleCuts_bands (s : State) (except : Option SlotId) :
    (s.settleCuts false except).bands = s.applyIdleChanges.bands := drainIdle_bands _ except

theorem State.Ended.band {kind : EndKind} {s c : State} (h : s.Ended kind c) {i : BandId} {b : Band}
    (hb : s.bands[i] = some b) : c.bands[i] = some (s.withoutEnded c i b) := by
  rw [h.bands i, hb]
  rfl

theorem State.Ended.unstaged {kind : EndKind} {s c : State} (h : s.Ended kind c)
    (hs : ∀ (j : BandId) (x : Band), s.bands[j] = some x → x.pending = none) :
    ∀ (j : BandId) (x : Band), c.bands[j] = some x → x.pending = none := by
  intro j x hx
  rw [h.bands j] at hx
  obtain ⟨b, hb, rfl⟩ := Option.map_eq_some_iff.1 hx
  exact hs j b hb

/-- A band without a staged change loses the ended contexts alone. -/
theorem settleCuts_band {kind : EndKind} {s c : State} (h : s.Ended kind c) (except : Option SlotId) {i : BandId}
    {b : Band} (hb : s.bands[i] = some b) (hp : b.pending = none)
    (hbase : isBase i = false ∨ b.migration = none ∨ ∀ (j : BandId) (x : Band), s.bands[j] = some x → x.pending = none) :
    (c.settleCuts false except).bands[i] = some (s.withoutEnded c i b) := by
  rw [settleCuts_bands]
  exact applyIdleChanges_get (h.band hb) hp (hbase.imp id fun h' => h'.imp id h.unstaged)

theorem frame_of_outside {s t : State} (h : t.outside = s.outside) : s.SameLines t ∧ s.SameControl t ∧
    t.wraps = s.wraps ∧ t.latched = s.latched ∧ t.discards = s.discards ∧ t.reservations = s.reservations := by
  obtain ⟨hlines, hcontrol, hdiscards, hreservations⟩ := sameLines_of_rim (rim_of_outside h)
  exact ⟨hlines, hcontrol, (congrArg State.wraps h :), (congrArg State.latched h :), hdiscards, hreservations⟩

theorem queues_of_transfers {s t : State} (h : t.transfers = s.transfers) : t.frontQueue = s.frontQueue ∧
    t.donePlaces = s.donePlaces ∧ t.backQueue = s.backQueue ∧ t.endPlaces = s.endPlaces := by
  simp only [State.transfers, Prod.mk.injEq] at h
  exact h.2

/-! ### ABORT -/

section Abort

variable {s : State} {ctx : Byte} {id : CtxId}

theorem frontHead_of_holdLine (h : s.holdLine .front = false) : s.frontHead = none := by
  simp only [State.holdLine, Bool.or_eq_false_iff] at h
  obtain ⟨⟨hhead, _⟩, _⟩ := h
  simpa using hhead

theorem exec_abort (hf : s.holdLine .front = false) (hb : s.backHead = none) :
    exec (.abort ctx) s = .next (takeAbort ctx s) :=
  congrArg Host.Outcome.next (presentAndSettle_of_takeable s (.abort ctx) hf rfl (frontHead_of_holdLine hf) hb)

theorem takeAbort_open {c : Context} (hid : ctxOf ctx = some id) (hc : s.contexts[id] = some c) :
    takeAbort ctx s = (s.endAs .cut id .aborted).settleCuts false none := by
  rw [takeAbort, hid]
  dsimp only
  rw [hc]
  rfl

theorem endAs_contexts_eq (s : State) (kind : EndKind) (id : CtxId) (status : TransferStatus) :
    (s.endAs kind id status).contexts = s.contexts.set id none := by
  refine Vector.ext fun j hj => (endAs_contexts s kind id status ⟨j, hj⟩).trans ?_
  rw [Vector.getElem_set]
  simp only [Fin.ext_iff]
  rfl

end Abort

/-- Settles O25. -/
theorem abortCuts : Obligations.AbortCuts := by
  intro s ctx id hid hf hb
  rw [exec_abort hf hb]
  refine ⟨fun hc => ⟨_, rfl, ?_⟩, fun c hc => ⟨_, rfl, ?_⟩⟩
  · rw [takeAbort, hid]
    dsimp only
    rw [hc]
    exact discard_discarded s .stray (some id)
  · rw [takeAbort_open hid hc]
    have hended : s.Ended .cut (s.endAs .cut id .aborted) := (State.Ended.refl .cut s).endOne id .aborted
    have htransfers := settleCuts_transfers (s.endAs .cut id .aborted) false none
    obtain ⟨hfront, hdone, hback, hend⟩ := queues_of_transfers htransfers
    have hcontexts := contexts_of_transfers htransfers
    obtain ⟨hlines, hcontrol, hframe⟩ := frame_of_outside (((settleCuts_outside _ false none).trans
      (endAs_outside s .cut id .aborted)))
    refine ⟨hcontexts.trans (endAs_contexts_eq s _ id _), hfront.trans (endAs_frontQueue hc _ _),
      hdone.trans (endAs_donePlaces hc _ _), hback.trans (endAs_backQueue hc _ _), hend.trans (endAs_endPlaces hc _ _),
      fun i b hi hn hp hbase => ?_, fun i b hi hp hbase => ?_,
      fun k => settleCuts_slotFollows hended false nofun, hlines, hcontrol, hframe⟩
    · refine ⟨_, settleCuts_band hended none hi hp (.inl hbase), ?_⟩
      have hclosed := endAs_bands_get hc .cut .aborted i
      rw [hended.bands i, hi, Option.map_some, Option.map_some, if_pos hn, Option.some.injEq] at hclosed
      rw [hclosed]
      exact ⟨rfl, rfl, rfl⟩
    · rw [settleCuts_band hended none hi hp hbase, withoutEnded_congr hcontexts]

end Sys2Proof.Machine

/-! PROOFS. The drains and the expiry of purges (R101, R102, R104). -/

namespace Sys2Proof.Machine

/-! ### The end of a purge -/

theorem report_writes (s : State) (d : Detail) :
    s.report d = { s with classes := (s.report d).classes, noticeSlots := (s.report d).noticeSlots } := by
  unfold State.report
  dsimp only
  split <;> rfl

section EndPurge

variable {s : State} {k : SlotId} {m : Material} {a : Account} (h : (s.slots[k]).state = .purging m a)
include h

theorem endPurge_replies : (s.endPurge k).replies = s.replies ++ a.owed.toList.map (purgeReply k a) := by
  rw [endPurge_of_purging h, report_replies]
  exact payReply_replies (s := s) (t := s.erase k) rfl _ _ _ _

theorem endPurge_latest : ((s.endPurge k).classOf .purge).latest = some ⟨s.linkTime, .purge k a.cause a.drained a.cut⟩ := by
  rw [endPurge_of_purging h]
  refine (report_latest _ (.purge k a.cause a.drained a.cut)).trans ?_
  rw [show ∀ t : State, (t.payReply a.owed .keyPurge .ok _).linkTime = t.linkTime from fun t =>
    (congrArg State.linkTime (payReply_outside t _ _ _ _) :)]
  rfl

/-- The notice unit has the event of the purge, and no other. -/
theorem endPurge_sameNotices : (s.report (.purge k a.cause a.drained a.cut)).SameNotices (s.endPurge k) := by
  rw [endPurge_of_purging h]
  refine report_sameNotices (s := s) (State.SameNotices.trans (t := s.erase k) ⟨rfl, rfl⟩ (payReply_sameNotices _ _ _ _ _)) ?_ _
  exact (congrArg State.linkTime (payReply_outside (s.erase k) _ _ _ _) :)

theorem endPurge_restored : { s.endPurge k with
    slots := s.slots, replies := s.replies, classes := s.classes, noticeSlots := s.noticeSlots } = s := by
  rw [endPurge_of_purging h]
  have hpaid : ∀ result, { (s.erase k).payReply a.owed .keyPurge .ok result with
      slots := s.slots, replies := s.replies, classes := s.classes, noticeSlots := s.noticeSlots } = s := fun result => by
    cases a.owed <;> rfl
  rw [report_writes]
  exact hpaid _

theorem endPurge_slots_eq : (s.endPurge k).slots =
    s.slots.set k { generation := (s.slots[k]).generation, holders := 0, state := .empty } := by
  rw [endPurge_of_purging h, report_slots, payReply_slots]
  rfl

end EndPurge

/-! ### Drain -/

theorem drainSlot_of_free {s : State} {k : SlotId} (h : (s.slots[k]).isPurging = false ∨ (s.slots[k]).holders ≠ 0) :
    s.drainSlot k = s := by
  refine if_neg fun hk => ?_
  rw [Bool.and_eq_true, beq_iff_eq] at hk
  exact h.elim (fun h => Bool.false_ne_true (h.symm.trans hk.1)) fun h => h hk.2

theorem drainSlot_of_drained {s : State} {k : SlotId} (hp : (s.slots[k]).isPurging = true) (h : (s.slots[k]).holders = 0) :
    s.drainSlot k = s.endPurge k := by
  refine if_pos ?_
  rw [hp, h]
  rfl

/-! ### Expiry -/

/-- All contexts with a property have ended between two states. -/
theorem endedWith_all {s t : State} {p : Context → Bool}
    (h : ∀ (id : CtxId) (c : Context), s.contexts[id] = some c → p c = true → t.contexts[id] = none) :
    s.endedWith t p = allContexts.countP fun id => (s.contexts[id]).any p := by
  refine List.countP_congr fun id _ => ?_
  cases hc : s.contexts[id] with
  | none => exact Iff.rfl
  | some c =>
    rw [Option.any_some, Bool.and_eq_true]
    exact and_iff_left_of_imp fun hp => by rw [h id c hc hp]; rfl

theorem openWith_nodup (s : State) (p : Context → Bool) : (s.openWith p).Nodup := (List.nodup_finRange 64).filter _

/-- What a list of the open contexts with a property gives, over all contexts. -/
theorem filterMap_openWith {β : Type} (s : State) (p : Context → Bool) (f : CtxId → Context → Option β) :
    (s.openWith p).filterMap (fun id => (s.contexts[id]).bind (f id)) =
      allContexts.filterMap fun id => (s.contexts[id]).bind fun c => if p c then f id c else none := by
  unfold State.openWith
  rw [List.filterMap_filter]
  refine List.filterMap_congr fun id _ => ?_
  cases s.contexts[id] <;> rfl

section Expire

variable {s : State} {k : SlotId}


theorem expire_of_purging {m : Material} {a : Account} (h : (s.slots[k]).state = .purging m a) (deferred : Bool) :
    s.expire deferred k = ((s.cutAll .keyPurged (s.holdersOf k)).settleCuts deferred (some k)).endPurge k := by
  rw [State.expire, h]

theorem exec_purgeExpiry (hf : s.frontHead = none) (hb : s.backHead = none) :
    exec (.purgeExpiry k) s = .next (s.expireSlot k) := by
  have hout := expireSlot_outside s k
  exact congrArg Host.Outcome.next (settle_of_noHeads _ ((congrArg State.frontHead hout :).trans hf)
    ((congrArg State.backHead hout :).trans hb))

end Expire

section CutAll

variable (s : State) (status : TransferStatus) (ids : List CtxId)

theorem cutAll_queues (hn : ids.Nodup) :
    (s.cutAll status ids).frontQueue = s.frontQueue ++ ids.filterMap (s.doneFor status) ∧
    (s.cutAll status ids).backQueue = s.backQueue ++ ids.filterMap (s.endFor status) := endEach_queues _ status hn s

theorem cutAll_endPlaced : s.EndPlaced (s.cutAll status ids) := endEach_endPlaced s _ ids status

theorem cutAll_onlyEnds : s.OnlyEnds (s.cutAll status ids) := endEach_onlyEnds s _ ids status

theorem cutAll_ended : s.Ended .cut (s.cutAll .keyPurged ids) := (State.Ended.refl .cut s).endEach ids .keyPurged

end CutAll

theorem cutHolders_contexts (s : State) (k : SlotId) (id : CtxId) : (s.cutAll .keyPurged (s.holdersOf k)).contexts[id] =
    if (s.contexts[id]).any (fun c => c.holds k) then none else s.contexts[id] := by
  rw [cutAll_contexts]
  refine if_congr ?_ rfl rfl
  refine mem_openWith.trans ?_
  cases s.contexts[id] <;> simp

/-- The number of holders of a slot among the open contexts. -/
def State.holding (s : State) (k : SlotId) : Nat := allContexts.countP fun id => (s.contexts[id]).any fun c => c.holds k

theorem linkTime_of_outside {s t : State} (h : t.outside = s.outside) : t.linkTime = s.linkTime :=
  (congrArg State.linkTime h :)

theorem expire_linkTime (s : State) (k : SlotId) : ((s.cutAll .keyPurged (s.holdersOf k)).settleCuts false (some k)).linkTime = s.linkTime :=
  (linkTime_of_outside (settleCuts_outside _ false (some k))).trans (cutAll_onlyEnds s .keyPurged (s.holdersOf k)).same.2.2.1

/-- Before its end, an expiring purge has its holders entered as cut, and keeps its slot. -/
theorem expiring_slot (s : State) (k : SlotId) :
    ((s.cutAll .keyPurged (s.holdersOf k)).settleCuts false (some k)).slots[k] =
      (s.slots[k]).after .cut (s.holding k) := by
  rw [settleCuts_slots_kept (.inr (.inr rfl)), (cutAll_ended s (s.holdersOf k)).slots k, endedWith_all]
  · rfl
  · intro id c hc hp
    rw [cutHolders_contexts, hc, Option.any_some, if_pos hp]

section Expire

variable {s : State} {k : SlotId} {m : Material} {a : Account} (h : (s.slots[k]).state = .purging m a)
include h

theorem expiring_state : (((s.cutAll .keyPurged (s.holdersOf k)).settleCuts false (some k)).slots[k]).state =
    .purging m { a with cut := a.cut + s.holding k } := by
  rw [expiring_slot s k, KeySlot.after, h]
  rfl

theorem expire_slots_self : (s.expire false k).slots[k] = (s.slots[k]).erased := by
  rw [expire_of_purging h, endPurge_slots_self ((isPurging_iff _).2 ⟨m, _, expiring_state h⟩), expiring_slot s k]
  rfl

theorem expire_transfers : (s.expire false k).transfers = (s.cutAll .keyPurged (s.holdersOf k)).transfers := by
  rw [expire_of_purging h, endPurge_transfers, settleCuts_transfers]

theorem expire_contexts (id : CtxId) : (s.expire false k).contexts[id] =
    if (s.contexts[id]).any (fun c => c.holds k) then none else s.contexts[id] := by
  rw [contexts_of_transfers (expire_transfers h)]
  exact cutHolders_contexts s k id

theorem expire_queues :
    (s.expire false k).frontQueue = s.frontQueue ++ allContexts.filterMap (fun id : CtxId => (s.contexts[id]).bind fun c =>
      if c.holds k then some (.done id .keyPurged c.sectorsDone (s.linkTime - c.openTime)) else none) ∧
    (s.expire false k).backQueue = s.backQueue ++ allContexts.filterMap (fun id : CtxId => (s.contexts[id]).bind fun c =>
      if c.holds k ∧ c.dir = .write then some (.ended id .keyPurged c.sectorsDone) else none) := by
  obtain ⟨hfront, _, hback, _⟩ := queues_of_transfers (expire_transfers h)
  obtain ⟨hfront', hback'⟩ := cutAll_queues s .keyPurged (s.holdersOf k) (openWith_nodup s _)
  have hdone : s.doneFor .keyPurged = fun id => (s.contexts[id]).bind fun c =>
      some (.done id .keyPurged c.sectorsDone (s.linkTime - c.openTime)) :=
    funext fun id => by rw [State.doneFor, Option.map_eq_bind]; rfl
  rw [hfront, hfront', hback, hback', hdone]
  refine ⟨congrArg (s.frontQueue ++ ·) (filterMap_openWith s _ _), congrArg (s.backQueue ++ ·) ?_⟩
  refine (filterMap_openWith s (fun c => c.holds k) fun id c =>
    if c.dir = .write then some (BackEntry.ended id .keyPurged c.sectorsDone) else none).trans
    (List.filterMap_congr fun id _ => congrArg (s.contexts[id]).bind (funext fun c => ?_))
  cases c.holds k <;> simp

theorem expire_places (id : CtxId) :
    (s.expire false k).donePlaces[id] = (if (s.contexts[id]).any (fun c => c.holds k) then .filled
      else s.donePlaces[id]) ∧
    (s.expire false k).endPlaces[id] = (if (s.contexts[id]).any (fun c => c.holds k && c.dir == .write) then .filled
      else s.endPlaces[id]) := by
  obtain ⟨_, hdone, _, hend⟩ := queues_of_transfers (expire_transfers h)
  obtain ⟨hdone', hend'⟩ := cutAll_endPlaced s .keyPurged (s.holdersOf k) id
  rw [hdone, hend, hdone', hend', cutHolders_contexts]
  cases s.contexts[id] with
  | none => exact ⟨rfl, rfl⟩
  | some c => cases hh : c.holds k <;> cases hd : c.dir <;> simp [hh, hd]

theorem expire_slotFollows {x : SlotId} (hx : x ≠ k) :
    s.SlotFollows (s.expire false k) x fun a n => { a with cut := a.cut + n } := by
  have hfollows := settleCuts_slotFollows (cutAll_ended s (s.holdersOf k)) false (except := some k) (k := x)
    fun he => hx (Option.some.inj he).symm
  rw [expire_of_purging h]
  exact State.SlotFollows.congr hfollows (contexts_of_transfers (endPurge_transfers _ k)) (endPurge_slots_ne _ hx)
    fun r hr => State.HasReply.endPurge hr k

/-- Where no other purge runs, the purge's event is the only one of its class. -/
theorem expire_sameClass (halone : ∀ x : SlotId, x ≠ k → (s.slots[x]).isPurging = false) :
    (s.report (.purge k a.cause a.drained (a.cut + s.holding k))).SameClass (s.expire false k) .purge := by
  have hcut : s.SameClass (s.cutAll .keyPurged (s.holdersOf k)) .purge :=
    (cutAll_onlyEnds s .keyPurged (s.holdersOf k)).same.1.sameClass .purge
  have hidle : ∀ x, ((s.cutAll .keyPurged (s.holdersOf k)).applyIdleChanges.slots[x]).isPurging = true → some k = some x := by
    intro x hx
    by_contra hne
    rw [applyIdleChanges_slots, (cutAll_ended s (s.holdersOf k)).slots x] at hx
    have hstate := halone x fun he => hne (he ▸ rfl)
    obtain ⟨m', a', hs'⟩ := (isPurging_iff _).1 hx
    unfold KeySlot.isPurging at hstate
    unfold KeySlot.after at hs'
    cases hstate' : (s.slots[x]).state with
    | purging => rw [hstate'] at hstate; cases hstate
    | _ => rw [hstate'] at hs'; cases hs'
  have hsettled : ((s.cutAll .keyPurged (s.holdersOf k)).settleCuts false (some k)) =
      (s.cutAll .keyPurged (s.holdersOf k)).applyIdleChanges := drainIdle_of_none fun x hx _ => hidle x hx
  have hbefore : s.SameClass ((s.cutAll .keyPurged (s.holdersOf k)).settleCuts false (some k)) .purge := by
    rw [hsettled]
    exact hcut.trans (applyIdleChanges_sameClass (by decide) _)
  rw [expire_of_purging h]
  exact State.SameClass.trans (State.SameClass.report (d := .purge k a.cause a.drained (a.cut + s.holding k)) hbefore
    (expire_linkTime s k)) ((endPurge_sameNotices (expiring_state h)).sameClass .purge)

end Expire

/-- Settles O36. -/
theorem purgesEndByDrainOrExpiry : Obligations.PurgesEndByDrainOrExpiry := by
  refine ⟨fun s k => ⟨fun h => congrArg Host.Outcome.next (drainSlot_of_free h), fun m a hs h0 => ⟨s.drainSlot k, rfl, ?drain⟩⟩,
    fun s k => expiryDue_iff s k, fun s k hf hb => ?expiry⟩
  case drain =>
    rw [drainSlot_of_drained ((isPurging_iff _).2 ⟨m, a, hs⟩) h0]
    refine ⟨endPurge_slots_eq hs, ?_, endPurge_latest hs, endPurge_sameNotices hs,
      fun c hc => (endPurge_sameClass hc s k).1, endPurge_restored hs⟩
    rw [endPurge_replies hs]
    cases a.owed <;> rfl
  case expiry =>
    rw [exec_purgeExpiry hf hb]
    refine ⟨fun h => congrArg Host.Outcome.next (if_neg (Bool.eq_false_iff.1 h)), fun m a hdue hs =>
      ⟨s.expireSlot k, a.cut + s.holding k, rfl, ?_⟩⟩
    obtain ⟨hlines, hcontrol, hframe⟩ := frame_of_outside (expireSlot_outside s k)
    rw [State.expireSlot, if_pos hdue] at hlines hcontrol hframe ⊢
    have hself := expire_slots_self hs
    obtain ⟨hfront, hback⟩ := expire_queues hs
    have hstate := expiring_state hs
    refine ⟨by rw [hself]; rfl, by rw [hself]; rfl, by rw [hself]; rfl, fun id c hc hh => ?_, hfront, hback,
      expire_places hs, fun id hfree => ?_, rfl, fun tag ht => ?_, ?_, fun halone u hu => ?_,
      fun i b hi hp hbase => ?_, fun x hx => expire_slotFollows hs hx, hlines, hcontrol, hframe⟩
    · rw [expire_contexts hs, hc, Option.any_some, if_pos hh]
    · rw [expire_contexts hs]
      cases hc : s.contexts[id] with
      | none => rfl
      | some c => rw [Option.any_some, if_neg (Bool.eq_false_iff.1 (hfree c hc))]
    · rw [expire_of_purging hs, endPurge_replies hstate, ht]
      exact List.getLast?_concat
    · rw [expire_of_purging hs, endPurge_latest hstate, expire_linkTime]
    · subst hu
      exact expire_sameClass hs halone
    · rw [expire_of_purging hs, endPurge_bands, settleCuts_band (cutAll_ended s _) _ hi hp hbase]
      refine congrArg (fun f : Band → Band => some (f b)) (withoutEnded_congr ?_ i).symm
      rw [contexts_of_transfers (endPurge_transfers _ k), settleCuts_contexts]

end Sys2Proof.Machine

/-! PROOFS. PURGE-ALL (R107, R108): the replies and events of its steps in their orders, and the state after it. -/

namespace Sys2Proof.Machine

/-! ### Operations on each element of a list -/

/-- Operations that each append at most a reply which the others leave as it is. -/
theorem inOrder_replies {α : Type} {f : α → State → State} {g : State → α → Option Reply}
    (happ : ∀ x t, (f x t).replies = t.replies ++ (g t x).toList) (hkeep : ∀ x y t, y ≠ x → g (f y t) x = g t x)
    {xs : List α} (hn : xs.Nodup) (s : State) : (inOrder f xs s).replies = s.replies ++ xs.filterMap (g s) := by
  induction xs generalizing s with
  | nil => exact (List.append_nil _).symm
  | cons x xs ih =>
    obtain ⟨hx, hn⟩ := List.nodup_cons.1 hn
    have hrest : xs.filterMap (g (f x s)) = xs.filterMap (g s) :=
      List.filterMap_congr fun y hy => hkeep y x s fun h => hx (h ▸ hy)
    rw [inOrder_cons, ih hn, happ, hrest, List.append_assoc, List.filterMap_cons]
    cases g s x <;> rfl

/-- The reports of a list of events. -/
def State.reportAll (s : State) (ds : List Detail) : State := ds.foldl (fun u d => u.report d) s

theorem reportAll_sameNotices {s t : State} (h : s.SameNotices t) (hl : t.linkTime = s.linkTime) (ds : List Detail) :
    (s.reportAll ds).SameNotices (t.reportAll ds) := by
  induction ds generalizing s t with
  | nil => exact h
  | cons d ds ih => exact ih (report_sameNotices h hl d) (by rw [report_linkTime, report_linkTime, hl])

theorem reportAll_linkTime (s : State) (ds : List Detail) : (s.reportAll ds).linkTime = s.linkTime := by
  induction ds generalizing s with
  | nil => rfl
  | cons d ds ih => exact (ih (s.report d)).trans (report_linkTime s d)

/-- Operations that each report events which the others leave as they are. -/
theorem inOrder_reports {α : Type} {f : α → State → State} {g : State → α → Option Detail}
    (happ : ∀ x (t : State), (t.reportAll (g t x).toList).SameNotices (f x t)) (htime : ∀ x (t : State), (f x t).linkTime = t.linkTime)
    (hkeep : ∀ x y t, y ≠ x → g (f y t) x = g t x) {xs : List α} (hn : xs.Nodup) (s : State) :
    (s.reportAll (xs.filterMap (g s))).SameNotices (inOrder f xs s) := by
  induction xs generalizing s with
  | nil => exact ⟨rfl, rfl⟩
  | cons x xs ih =>
    obtain ⟨hx, hn⟩ := List.nodup_cons.1 hn
    have hrest : xs.filterMap (g (f x s)) = xs.filterMap (g s) :=
      List.filterMap_congr fun y hy => hkeep y x s fun h => hx (h ▸ hy)
    have hhead : s.reportAll ((x :: xs).filterMap (g s)) = (s.reportAll (g s x).toList).reportAll (xs.filterMap (g s)) := by
      rw [List.filterMap_cons]
      cases g s x <;> rfl
    have htail := ih hn (f x s)
    rw [hrest] at htail
    rw [inOrder_cons, hhead]
    exact (reportAll_sameNotices (happ x s) ((htime x s).trans (reportAll_linkTime s _).symm) _).trans htail

/-- Operations that each change their own entry alone. -/
theorem inOrder_get {α β : Type} [DecidableEq α] {f : α → State → State} {get : State → α → β} {h : α → β → β}
    (hself : ∀ x t, get (f x t) x = h x (get t x)) (hne : ∀ x y t, x ≠ y → get (f x t) y = get t y)
    {xs : List α} (hn : xs.Nodup) (s : State) (y : α) :
    get (inOrder f xs s) y = if y ∈ xs then h y (get s y) else get s y := by
  induction xs generalizing s with
  | nil => exact (if_neg List.not_mem_nil).symm
  | cons x xs ih =>
    obtain ⟨hx, hn⟩ := List.nodup_cons.1 hn
    rw [inOrder_cons, ih hn]
    by_cases hy : x = y
    · subst hy
      rw [if_neg hx, if_pos List.mem_cons_self, hself]
    · rw [hne x y s hy]
      simp only [List.mem_cons, Ne.symm hy, false_or]

/-! ### The replies of the steps -/

/-- The ABANDONED reply that a band's staged change owes (R66). -/
def State.abandonedChange (s : State) (i : BandId) : Option Reply :=
  (s.bands[i]).bind fun b => b.pending.bind fun p => p.owed.map fun owed => match p.change with
    | .bandSet _ => ⟨owed, 0x07, .abandoned, .band (BitVec.ofNat 8 i.val)⟩
    | .migrateStart _ _ => ⟨owed, 0x0A, .abandoned, .migrateStart (BitVec.ofNat 8 i.val) 0⟩

theorem dropPending_replies (i : BandId) (s : State) :
    (s.dropPending i).replies = s.replies ++ (s.abandonedChange i).toList := by
  unfold State.dropPending State.abandonedChange
  cases s.bands[i] with
  | none => exact (List.append_nil _).symm
  | some b =>
    dsimp only [Option.bind_some]
    cases b.pending with
    | none => exact (List.append_nil _).symm
    | some p =>
      obtain ⟨change, owed⟩ := p
      cases change with
      | bandSet | migrateStart =>
        dsimp only [Option.bind_some]
        cases owed with
        | none => exact (List.append_nil _).symm
        | some tag => rfl

/-- The ABANDONED reply that a load owes (R81). -/
def State.abandonedLoad (s : State) (k : SlotId) : Option Reply :=
  match (s.slots[k]).state with
  | .loading l => l.owed.map fun owed => ⟨owed, 0x02, .abandoned, .keyLoad (BitVec.ofNat 8 k.val) 0⟩
  | _ => none

theorem abandonLoad_replies (k : SlotId) (s : State) :
    (s.abandonLoad k).replies = s.replies ++ (s.abandonedLoad k).toList := by
  unfold State.abandonLoad State.abandonedLoad
  cases (s.slots[k]).state with
  | loading l =>
    dsimp only
    rw [payReply_replies (s := s) (t := s.endLoad k) rfl]
    cases l.owed <;> rfl
  | _ => exact (List.append_nil _).symm

/-- The reply that a running purge owes at a PURGE-ALL (R107). -/
def State.purgedReply (s : State) (k : SlotId) : Option Reply :=
  match (s.slots[k]).state with
  | .purging _ a => a.owed.map (purgeReply k a)
  | _ => none

/-- The event of a slot at a PURGE-ALL (R107, R108). -/
def State.purgedEvent (holdersBefore : SlotId → Nat) (s : State) (k : SlotId) : Option Detail :=
  match (s.slots[k]).state with
  | .ready _ => some (.purge k .all 0 (holdersBefore k))
  | .poisoned _ => some (.purge k .all 0 (holdersBefore k))
  | .purging _ a => some (.purge k .all a.drained a.cut)
  | _ => none

theorem purgeAllSlot_replies (g : SlotId → Nat) (k : SlotId) (s : State) :
    (State.purgeAllSlot g k s).replies = s.replies ++ (s.purgedReply k).toList := by
  unfold State.purgeAllSlot State.purgedReply
  cases (s.slots[k]).state with
  | ready | poisoned => exact (report_replies _ _).trans (List.append_nil _).symm
  | purging m a =>
    dsimp only
    rw [report_replies, payReply_replies (s := s) (t := s.erase k) rfl]
    cases a.owed <;> rfl
  | _ => exact (List.append_nil _).symm

theorem purgeAllSlot_reports (g : SlotId → Nat) (k : SlotId) (s : State) :
    (s.reportAll (s.purgedEvent g k).toList).SameNotices (State.purgeAllSlot g k s) := by
  unfold State.purgeAllSlot State.purgedEvent
  cases (s.slots[k]).state with
  | ready | poisoned => exact report_sameNotices (s := s) (t := s.erase k) ⟨rfl, rfl⟩ rfl _
  | purging m a =>
    exact report_sameNotices (s := s) (State.SameNotices.trans (t := s.erase k) ⟨rfl, rfl⟩ (payReply_sameNotices _ _ _ _ _))
      (linkTime_of_outside (payReply_outside (s.erase k) _ _ _ _)) _
  | _ => exact ⟨rfl, rfl⟩

theorem purgeAllSlot_slots_ne (g : SlotId → Nat) {k j : SlotId} (h : k ≠ j) (s : State) :
    (State.purgeAllSlot g k s).slots[j] = s.slots[j] := by
  unfold State.purgeAllSlot
  split
  · rw [report_slots]
    exact setSlot_get_ne s _ h
  · rw [report_slots]
    exact setSlot_get_ne s _ h
  · rw [report_slots, payReply_slots]
    exact setSlot_get_ne s _ h
  · rfl
  · rfl

theorem abandonLoad_slots_ne {k j : SlotId} (h : k ≠ j) (s : State) : (s.abandonLoad k).slots[j] = s.slots[j] := by
  unfold State.abandonLoad
  split
  · rw [payReply_slots]
    exact setSlot_get_ne s _ h
  · rfl

/-! ### The steps -/

/-- A slot whose load is abandoned (R81). -/
def KeySlot.unloaded (v : KeySlot) : KeySlot :=
  match v.state with
  | .loading _ => { v with state := .empty }
  | _ => v

theorem abandonLoad_slots_self (k : SlotId) (s : State) : (s.abandonLoad k).slots[k] = (s.slots[k]).unloaded := by
  unfold State.abandonLoad KeySlot.unloaded
  cases hs : (s.slots[k]).state with
  | loading l =>
    dsimp only
    rw [payReply_slots]
    exact setSlot_get_self s k _
  | _ => rfl

/-- A slot that a PURGE-ALL has erased (R107). -/
def KeySlot.purged (v : KeySlot) : KeySlot :=
  match v.state with
  | .empty => v
  | .loading _ => v
  | _ => v.erased

theorem purgeAllSlot_slots_self (g : SlotId → Nat) (k : SlotId) (s : State) :
    (State.purgeAllSlot g k s).slots[k] = (s.slots[k]).purged := by
  unfold State.purgeAllSlot KeySlot.purged
  cases hs : (s.slots[k]).state with
  | ready | poisoned =>
    dsimp only
    rw [report_slots]
    exact setSlot_get_self s k _
  | purging m a =>
    dsimp only
    rw [report_slots, payReply_slots]
    exact setSlot_get_self s k _
  | _ => rfl

/-- The first two steps of PURGE-ALL: no change is staged and no load is in progress (R107). -/
def State.cleared (s : State) : State :=
  inOrder (fun k t => State.abandonLoad t k) allSlots (inOrder (fun i t => State.dropPending t i) allBands s)

theorem cleared_transfers (s : State) : s.cleared.transfers = s.transfers :=
  (inOrder_transfers _ _ _ fun k t => abandonLoad_transfers t k).trans
    (inOrder_transfers _ _ _ fun i t => dropPending_transfers t i)

theorem cleared_outside (s : State) : s.cleared.outside = s.outside :=
  (inOrder_outside _ _ _ fun k _ t => abandonLoad_outside t k).trans
    (inOrder_outside _ _ _ fun i _ t => dropPending_outside t i)

theorem cleared_sameNotices (s : State) : s.SameNotices s.cleared :=
  (inOrder_induct (P := s.SameNotices) _ _ _ (fun i _ t ht => ht.trans (dropPending_sameNotices t i)) ⟨rfl, rfl⟩).trans
    (inOrder_induct (P := State.SameNotices _) _ _ _ (fun k _ t ht => ht.trans (abandonLoad_sameNotices t k)) ⟨rfl, rfl⟩)

theorem droppedAll_slots (s : State) : (inOrder (fun i t => State.dropPending t i) allBands s).slots = s.slots :=
  inOrder_induct (P := fun t => t.slots = s.slots) _ _ _ (fun i _ t ht => (dropPending_slots t i).trans ht) rfl

theorem cleared_slots (s : State) (k : SlotId) : s.cleared.slots[k] = (s.slots[k]).unloaded := by
  refine (inOrder_get (get := fun t (k : SlotId) => t.slots[k]) (h := fun _ v => v.unloaded)
    (fun k t => abandonLoad_slots_self k t) (fun x y t h => abandonLoad_slots_ne h t) (List.nodup_finRange 32) _ k).trans ?_
  rw [if_pos (List.mem_finRange k), droppedAll_slots]

theorem cleared_replies (s : State) : s.cleared.replies =
    s.replies ++ allBands.filterMap s.abandonedChange ++ allSlots.filterMap s.abandonedLoad := by
  have hbands := inOrder_replies (f := fun i t => State.dropPending t i) (g := State.abandonedChange)
    (fun i t => dropPending_replies i t) (fun x y t h => by
      rw [State.abandonedChange, dropPending_bands_get, if_neg h]
      rfl) (List.nodup_finRange 32) s
  have hslots := inOrder_replies (f := fun k t => State.abandonLoad t k) (g := State.abandonedLoad)
    (fun k t => abandonLoad_replies k t) (fun x y t h => by
      rw [State.abandonedLoad, abandonLoad_slots_ne h]
      rfl) (List.nodup_finRange 32) (inOrder (fun i t => State.dropPending t i) allBands s)
  have hload : (inOrder (fun i t => State.dropPending t i) allBands s).abandonedLoad = s.abandonedLoad := by
    funext k
    rw [State.abandonedLoad, droppedAll_slots]
    rfl
  rw [hload, hbands] at hslots
  exact hslots

/-- Each slot after the cuts of a PURGE-ALL: its load abandoned, its holders entered. -/
theorem purgeCut_slots (s : State) (k : SlotId) : (s.cleared.cutAll .keyPurged allContexts).slots[k] =
    ((s.slots[k]).unloaded).after .cut (s.holding k) := by
  rw [(cutAll_ended s.cleared allContexts).slots k, cleared_slots, endedWith_all]
  · rw [contexts_of_transfers (cleared_transfers s)]
    rfl
  · intro id c _ _
    rw [cutAll_contexts, if_pos (List.mem_finRange id)]

/-- The state of a PURGE-ALL behind the erasure of the slots, before the wrap slots and the band table are emptied. -/
def State.slotsPurged (s : State) : State :=
  inOrder (State.purgeAllSlot fun k => (s.cleared.slots[k]).holders) allSlots (s.cleared.cutAll .keyPurged allContexts)

theorem purgeAll_eq_slotsPurged (s : State) : s.purgeAll =
    { s.slotsPurged with
      wraps := Vector.replicate 4 .empty, bands := Vector.replicate 32 none, life := .prepare } := rfl

theorem slotsPurged_outside (s : State) : s.slotsPurged.outside = s.outside :=
  (inOrder_outside _ _ _ fun k _ t => purgeAllSlot_outside _ k t).trans
    ((cutAll_outside s.cleared _ _).trans (cleared_outside s))

theorem slotsPurged_transfers (s : State) :
    s.slotsPurged.transfers = (s.cleared.cutAll .keyPurged allContexts).transfers :=
  inOrder_transfers _ _ _ fun k t => purgeAllSlot_transfers _ k t

theorem cleared_doneFor (s : State) (status : TransferStatus) : s.cleared.doneFor status = s.doneFor status := by
  funext id
  rw [State.doneFor, contexts_of_transfers (cleared_transfers s), linkTime_of_outside (cleared_outside s)]
  rfl

theorem cleared_endFor (s : State) (status : TransferStatus) : s.cleared.endFor status = s.endFor status := by
  funext id
  rw [State.endFor, contexts_of_transfers (cleared_transfers s)]
  rfl

theorem slotsPurged_queues (s : State) :
    s.slotsPurged.frontQueue = s.frontQueue ++ allContexts.filterMap (s.doneFor .keyPurged) ∧
    s.slotsPurged.backQueue = s.backQueue ++ allContexts.filterMap (s.endFor .keyPurged) := by
  obtain ⟨hfront, _, hback, _⟩ := queues_of_transfers (slotsPurged_transfers s)
  obtain ⟨hfront', _, hback', _⟩ := queues_of_transfers (cleared_transfers s)
  obtain ⟨hfront'', hback''⟩ := cutAll_queues s.cleared .keyPurged allContexts (List.nodup_finRange 64)
  rw [hfront, hfront'', hfront', hback, hback'', hback', cleared_doneFor, cleared_endFor]
  exact ⟨rfl, rfl⟩

theorem slotsPurged_places (s : State) (id : CtxId) :
    s.slotsPurged.donePlaces[id] = (if (s.contexts[id]).isSome then .filled else s.donePlaces[id]) ∧
    s.slotsPurged.endPlaces[id] = (if (s.contexts[id]).any (fun c => c.dir == .write) then .filled
      else s.endPlaces[id]) := by
  obtain ⟨_, hdone, _, hend⟩ := queues_of_transfers (slotsPurged_transfers s)
  obtain ⟨_, hdone', _, hend'⟩ := queues_of_transfers (cleared_transfers s)
  obtain ⟨hdone'', hend''⟩ := cutAll_endPlaced s.cleared .keyPurged allContexts id
  have hnone : ((s.cleared.cutAll .keyPurged allContexts).contexts[id]).isNone = true := by
    rw [cutAll_contexts, if_pos (List.mem_finRange id)]
    rfl
  rw [hdone, hend, hdone'', hend'', hnone, hdone', hend', contexts_of_transfers (cleared_transfers s), Bool.and_true,
    Bool.and_true]
  exact ⟨rfl, rfl⟩

theorem slotsPurged_replies (s : State) : s.slotsPurged.replies =
    s.replies ++ allBands.filterMap s.abandonedChange ++ allSlots.filterMap s.abandonedLoad ++
      allSlots.filterMap (s.cleared.cutAll .keyPurged allContexts).purgedReply := by
  have h := inOrder_replies (f := State.purgeAllSlot fun k => (s.cleared.slots[k]).holders) (g := State.purgedReply)
    (fun k t => purgeAllSlot_replies _ k t) (fun x y t h => by
      rw [State.purgedReply, purgeAllSlot_slots_ne _ h]
      rfl) (List.nodup_finRange 32) (s.cleared.cutAll .keyPurged allContexts)
  rw [(cutAll_onlyEnds s.cleared .keyPurged allContexts).same.2.1, cleared_replies] at h
  exact h

theorem slotsPurged_sameNotices (s : State) : (s.reportAll (allSlots.filterMap
    ((s.cleared.cutAll .keyPurged allContexts).purgedEvent fun k => (s.cleared.slots[k]).holders))).SameNotices
      s.slotsPurged := by
  obtain ⟨hsame, _, htime, _⟩ := (cutAll_onlyEnds s.cleared .keyPurged allContexts).same
  refine (reportAll_sameNotices ((cleared_sameNotices s).trans hsame)
    (htime.trans (linkTime_of_outside (cleared_outside s))) _).trans ?_
  exact inOrder_reports (f := State.purgeAllSlot fun k => (s.cleared.slots[k]).holders)
    (g := fun t k => t.purgedEvent (fun k => (s.cleared.slots[k]).holders) k) (fun k t => purgeAllSlot_reports _ k t)
    (fun k t => linkTime_of_outside (purgeAllSlot_outside _ k t)) (fun x y t h => by
      rw [State.purgedEvent, purgeAllSlot_slots_ne _ h]
      rfl) (List.nodup_finRange 32) _

theorem slotsPurged_slots (s : State) (k : SlotId) : (s.slotsPurged.slots[k]).state = .empty ∧
    (s.slotsPurged.slots[k]).generation = (s.slots[k]).generation := by
  have hslot : s.slotsPurged.slots[k] = (((s.slots[k]).unloaded).after .cut (s.holding k)).purged := by
    have herased := inOrder_get (f := State.purgeAllSlot fun k => (s.cleared.slots[k]).holders)
      (get := fun t (k : SlotId) => t.slots[k]) (h := fun _ v => v.purged) (fun k t => purgeAllSlot_slots_self _ k t)
      (fun x y t h => purgeAllSlot_slots_ne _ h t) (List.nodup_finRange 32) (s.cleared.cutAll .keyPurged allContexts) k
    rw [if_pos (List.mem_finRange k)] at herased
    rw [← purgeCut_slots]
    exact herased
  rw [hslot]
  obtain ⟨generation, holders, state⟩ := s.slots[k]
  cases state <;> exact ⟨rfl, rfl⟩

theorem slotsPurged_free (s : State) (id : CtxId) : s.slotsPurged.contexts[id] = none := by
  rw [contexts_of_transfers (slotsPurged_transfers s), cutAll_contexts, if_pos (List.mem_finRange id)]

/-- The owed reply of a purge that a PURGE-ALL ends: its account with the holders cut now (R107). -/
theorem purgedReply_cut (s : State) (k : SlotId) : (s.cleared.cutAll .keyPurged allContexts).purgedReply k =
    match (s.slots[k]).state with
      | .purging _ a => a.owed.map fun owed => ⟨owed, 0x04, .ok, .keyPurge (BitVec.ofNat 8 k.val)
          (BitVec.ofNat 8 a.drained) (BitVec.ofNat 8 (a.cut + s.holding k))⟩
      | _ => none := by
  rw [State.purgedReply, purgeCut_slots]
  obtain ⟨generation, holders, state⟩ := s.slots[k]
  cases state <;> rfl

theorem purgedEvent_cut (s : State) (k : SlotId) :
    (s.cleared.cutAll .keyPurged allContexts).purgedEvent (fun k => (s.cleared.slots[k]).holders) k =
    match (s.slots[k]).state with
      | .ready _ => some (.purge k .all 0 (s.slots[k]).holders)
      | .poisoned _ => some (.purge k .all 0 (s.slots[k]).holders)
      | .purging _ a => some (.purge k .all a.drained (a.cut + s.holding k))
      | _ => none := by
  rw [State.purgedEvent, purgeCut_slots, cleared_slots]
  obtain ⟨generation, holders, state⟩ := s.slots[k]
  cases state <;> rfl

/-- Settles O37. -/
theorem purgeAllErasesEverything : Obligations.PurgeAllErasesEverything := by
  intro s tag holders ht hb hholders
  obtain rfl : holders = s.holding := funext hholders
  have hexec := exec_settled_request (c := .purgeAll tag (.fields ())) rfl rfl ht hb
  obtain ⟨hfront, hback⟩ := slotsPurged_queues s.reserve
  have hplaces := slotsPurged_places s.reserve
  have hreplies := slotsPurged_replies s.reserve
  have hnotices := slotsPurged_sameNotices s.reserve
  have hslots := slotsPurged_slots s.reserve
  have hfree := slotsPurged_free s.reserve
  obtain ⟨hlines, ⟨_, htime, hgrace⟩, _, hlatched, hdiscards, hreservations⟩ :=
    frame_of_outside (slotsPurged_outside s.reserve)
  refine ⟨s.reserve.purgeAll.reply tag RequestCode.purgeAll.byte .ok .none, hexec, ?_⟩
  rw [purgeAll_eq_slotsPurged]
  have hpurged := purgedReply_cut s.reserve
  have hevents := purgedEvent_cut s.reserve
  generalize s.reserve.slotsPurged = u at hfront hback hplaces hreplies hnotices hslots hfree hlines htime hgrace hlatched hdiscards hreservations ⊢
  refine ⟨hfree, hfront, hback, hplaces, ?replies, ?notices, hslots, fun w => Vector.getElem_replicate _,
    fun i => Vector.getElem_replicate _, rfl, List.getLast?_concat, hreservations, hlines, htime, hgrace, hlatched, hdiscards⟩
  case replies =>
    refine (congrArg (· ++ [_]) hreplies).trans ?_
    rw [List.filterMap_congr fun k _ => hpurged k]
    rfl
  case notices =>
    rw [List.filterMap_congr fun k _ => hevents k] at hnotices
    exact ((reportAll_sameNotices (s := s) (t := s.reserve) ⟨rfl, rfl⟩ rfl _).trans hnotices).trans ⟨rfl, rfl⟩

end Sys2Proof.Machine

/-! PROOFS. The completion of a context by its last sector (R38, R39, R41, R46, R101, R120): its end, the advance of a
migrate writer, the staged changes and drains behind it, and the overrun. -/

namespace Sys2Proof.Machine

/-! ### The record of a taken fragment -/

theorem takeBytes_same (s : State) (bytes : List Byte) (c : Context) :
    (s.takeBytes bytes c).ctx.dir = c.dir ∧ (s.takeBytes bytes c).ctx.migrate = c.migrate ∧
    (s.takeBytes bytes c).ctx.segments = c.segments ∧ (s.takeBytes bytes c).ctx.first = c.first ∧
    (s.takeBytes bytes c).ctx.count = c.count ∧ (s.takeBytes bytes c).ctx.openTime = c.openTime := by
  obtain ⟨_, _, _, _, h⟩ := takeBytes_frame s bytes c
  rw [h]
  exact ⟨rfl, rfl, rfl, rfl, rfl, rfl⟩

theorem takeBytes_names (s : State) (bytes : List Byte) (c : Context) (i : BandId) :
    (s.takeBytes bytes c).ctx.names i = c.names i := by
  obtain ⟨_, _, _, _, h⟩ := takeBytes_frame s bytes c
  rw [h]
  rfl

theorem takeBytes_holds (s : State) (bytes : List Byte) (c : Context) (k : SlotId) :
    (s.takeBytes bytes c).ctx.holds k = c.holds k := by
  obtain ⟨_, _, _, _, h⟩ := takeBytes_frame s bytes c
  rw [h]
  rfl

/-- A fragment that completes its context has ended its last sector (R38). -/
theorem takeBytes_complete {s : State} {bytes : List Byte} {c : Context} {overrun : Bool}
    (h : (s.takeBytes bytes c).stop = .complete overrun) :
    (s.takeBytes bytes c).ctx.sectorsDone = (s.takeBytes bytes c).ctx.count := by
  induction bytes generalizing c with
  | nil => cases h
  | cons b bs ih =>
    cases hstart : s.startSector c with
    | error k =>
      rw [takeBytes_of_fault hstart] at h
      cases h
    | ok c1 =>
      by_cases hend : (c1.takeByte b).1.sectorsDone = (c1.takeByte b).1.count
      · rw [takeBytes_of_last hstart hend]
        exact hend
      · rw [takeBytes_of_more hstart hend] at h ⊢
        exact ih h

/-! ### The end of the context -/

section LastSector

variable {s : State} {id : CtxId} {c : Context} (bytes : List Byte)

/-- The context has ended with OK, and nothing has followed from it yet. -/
def State.lastEnded (s : State) (id : CtxId) (c : Context) (bytes : List Byte) : State :=
  (s.fragmentTaken id c bytes).endAs .drained id .ok

theorem lastEnded_contexts : (s.lastEnded id c bytes).contexts = s.contexts.set id none := by
  rw [State.lastEnded, endAs_contexts_eq, fragmentTaken_eq]
  exact Vector.set_set ..

theorem lastEnded_queues (hend : (s.takeBytes bytes c).ctx.sectorsDone = (s.takeBytes bytes c).ctx.count) :
    (s.lastEnded id c bytes).frontQueue = s.frontQueue ++
      (if c.dir = .read ∧ (s.takeBytes bytes c).released ≠ [] then [.data id (s.takeBytes bytes c).released] else []) ++
      [.done id .ok c.count (s.linkTime - c.openTime)] ∧
    (s.lastEnded id c bytes).donePlaces = s.donePlaces.set id .filled ∧
    (s.lastEnded id c bytes).backQueue = s.backQueue ++
      (if c.dir = .write ∧ (s.takeBytes bytes c).released ≠ [] then [.data id (s.takeBytes bytes c).released] else []) ++
      (if c.dir = .write then [.ended id .ok c.count] else []) ∧
    (s.lastEnded id c bytes).endPlaces = (if c.dir = .write then s.endPlaces.set id .filled else s.endPlaces) := by
  have hself := fragmentTaken_contexts_self s id c bytes
  obtain ⟨hdir, _, _, _, hcount, htime⟩ := takeBytes_same s bytes c
  rw [State.lastEnded, endAs_frontQueue hself, endAs_donePlaces hself, endAs_backQueue hself, endAs_endPlaces hself, hend,
    hdir, hcount, htime, fragmentTaken_eq]
  refine ⟨?_, rfl, ?_, rfl⟩
  · dsimp only
    split
    · rfl
    · rw [List.append_nil]
  · dsimp only
    split
    · rfl
    · rw [List.append_nil]

theorem lastEnded_bands_get (i : BandId) : (s.lastEnded id c bytes).bands[i] =
    (s.bands[i]).map fun b => if c.names i then b.closed id else b := by
  rw [State.lastEnded, endAs_bands_get (fragmentTaken_contexts_self s id c bytes), fragmentTaken_eq]
  simp only [takeBytes_names]

theorem lastEnded_slots_get (k : SlotId) : (s.lastEnded id c bytes).slots[k] =
    (s.slots[k]).after .drained (if c.holds k then 1 else 0) := by
  rw [State.lastEnded, endAs_slots_get (fragmentTaken_contexts_self s id c bytes), fragmentTaken_eq]
  dsimp only
  rw [takeBytes_holds]
  split
  · rw [after_succ, after_zero]
  · rw [after_zero]

theorem lastEnded_same : s.SameNotices (s.lastEnded id c bytes) ∧ (s.lastEnded id c bytes).outside = s.outside := by
  obtain ⟨hsame, _, _, hout⟩ := (endAs_onlyEnds (s.fragmentTaken id c bytes) .drained id .ok).same
  rw [fragmentTaken_eq] at hsame hout
  rw [State.lastEnded, fragmentTaken_eq]
  exact ⟨hsame, hout⟩

variable (hc : s.contexts[id] = some c)
include hc

/-- Only the one context has ended. -/
theorem endedWith_one {t : State} (ht : t.contexts = s.contexts.set id none) (p : Context → Bool) :
    s.endedWith t p = if p c then 1 else 0 := by
  have hself : t.contexts[id] = none := by rw [ht]; exact Vector.getElem_set_self _
  have hne : ∀ j : CtxId, j ≠ id → t.contexts[j] = s.contexts[j] := fun j hj => by
    rw [ht]
    exact Vector.getElem_set_ne _ _ fun h => hj (Fin.ext h.symm)
  have hzero : s.endedWith s p = 0 := endedWith_self s p
  unfold State.endedWith at hzero ⊢
  split
  · rename_i hp
    rw [← Nat.zero_add 1, ← hzero]
    exact countP_update (List.nodup_finRange 64) (List.mem_finRange id) (fun j hj => by rw [hne j hj]) (by rw [hc]; simp)
      (by rw [hc, hself]; simpa using hp)
  · rename_i hp
    rw [← hzero]
    refine List.countP_congr fun j _ => ?_
    by_cases hj : j = id
    · subst hj
      rw [hc, hself]
      simp [hp]
    · rw [hne j hj]

end LastSector

/-! ### The advance of a migrate writer -/

section Advance

variable {s : State} {id : CtxId} {c : Context} (bytes : List Byte)

/-- The context has ended, and a migrate writer has advanced its band (R120). -/
def State.lastAdvanced (s : State) (id : CtxId) (c : Context) (bytes : List Byte) : State :=
  (s.fragmentTaken id c bytes).completed id (s.takeBytes bytes c).ctx

theorem lastAdvanced_eq : s.lastAdvanced id c bytes = if c.migrate = true ∧ c.dir = .write then
    (s.lastEnded id c bytes).advance (s.takeBytes bytes c).ctx else s.lastEnded id c bytes := by
  obtain ⟨hdir, hmigrate, _⟩ := takeBytes_same s bytes c
  rw [State.lastAdvanced, State.completed, hdir, hmigrate]
  rfl

theorem lastAdvanced_plain (h : c.migrate = false ∨ c.dir = .read) :
    s.lastAdvanced id c bytes = s.lastEnded id c bytes := by
  refine (lastAdvanced_eq bytes).trans (if_neg fun ⟨hm, hd⟩ => ?_)
  obtain h | h := h
  · rw [h] at hm
    cases hm
  · rw [h] at hd
    cases hd

theorem lastAdvanced_cases : s.lastAdvanced id c bytes = s.lastEnded id c bytes ∨
    ∃ i w, s.lastAdvanced id c bytes = (s.lastEnded id c bytes).moveWatermark i w true := by
  rw [lastAdvanced_eq]
  split
  · unfold State.advance
    split
    · exact .inl rfl
    · split
      · exact .inl rfl
      · exact .inr ⟨_, _, rfl⟩
  · exact .inl rfl

theorem lastEnded_placeFor : (s.lastEnded id c bytes).placeFor = s.placeFor := by
  refine placeFor_of_locks (locks_of_extents (funext fun i => ?_))
  rw [State.extents, lastEnded_bands_get, Option.map_map, State.extents]
  refine congrArg (fun f => Option.map f s.bands[i]) (funext fun b => ?_)
  dsimp only [Function.comp]
  split <;> rfl

section Writer

variable {g : Segment} {b : Band} (hm : c.migrate = true) (hd : c.dir = .write) (hg : c.segments = [g])
  (hb : s.bands[g.band] = some b)
include hg hb

/-- The band that a migrate writer names. -/
theorem lastEnded_band : (s.lastEnded id c bytes).bands[g.band] = some (b.closed id) := by
  have hnames : c.names g.band = true := by simp [Context.names, hg]
  rw [lastEnded_bands_get, hb, Option.map_some, if_pos hnames]

include hm hd

theorem lastAdvanced_of_idle (hr : b.migration = none) : s.lastAdvanced id c bytes = s.lastEnded id c bytes := by
  obtain ⟨_, _, hsegments, _⟩ := takeBytes_same s bytes c
  rw [lastAdvanced_eq, if_pos ⟨hm, hd⟩, State.advance, hsegments, hg]
  dsimp only
  rw [lastEnded_band bytes hg hb, Option.bind_some, show (b.closed id).migration = none from hr]

theorem lastAdvanced_of_record {r : Migration} (hr : b.migration = some r) : s.lastAdvanced id c bytes =
    (s.lastEnded id c bytes).moveWatermark g.band (s.placeFor g.band (max r.w (c.first + c.count))) true := by
  obtain ⟨_, _, hsegments, hfirst, hcount, _⟩ := takeBytes_same s bytes c
  rw [lastAdvanced_eq, if_pos ⟨hm, hd⟩, State.advance, hsegments, hg]
  dsimp only
  rw [lastEnded_band bytes hg hb, Option.bind_some, show (b.closed id).migration = some r from hr, hfirst, hcount,
    lastEnded_placeFor]

end Writer

theorem lastAdvanced_slots : (s.lastAdvanced id c bytes).slots = (s.lastEnded id c bytes).slots := by
  obtain h | ⟨i, w, h⟩ := lastAdvanced_cases (s := s) (id := id) (c := c) bytes
  · rw [h]
  · rw [h, moveWatermark_slots]

theorem lastAdvanced_transfers : (s.lastAdvanced id c bytes).transfers = (s.lastEnded id c bytes).transfers := by
  obtain h | ⟨i, w, h⟩ := lastAdvanced_cases (s := s) (id := id) (c := c) bytes
  · rw [h]
  · rw [h, moveWatermark_transfers]

theorem lastAdvanced_outside : (s.lastAdvanced id c bytes).outside = s.outside := by
  refine Eq.trans ?_ (lastEnded_same (s := s) (id := id) (c := c) bytes).2
  obtain h | ⟨i, w, h⟩ := lastAdvanced_cases (s := s) (id := id) (c := c) bytes
  · rw [h]
  · rw [h, moveWatermark_outside]

theorem lastAdvanced_sameClass {k : NoticeClass} (hk : k ≠ .migrate) : s.SameClass (s.lastAdvanced id c bytes) k := by
  have hended := (lastEnded_same (s := s) (id := id) (c := c) bytes).1.sameClass k
  obtain h | ⟨i, w, h⟩ := lastAdvanced_cases (s := s) (id := id) (c := c) bytes
  · rw [h]
    exact hended
  · rw [h]
    exact hended.trans (moveWatermark_sameClass hk _ i w true)

theorem lastAdvanced_mayMove {i : BandId} {b : Band} (hb : s.bands[i] = some b) :
    ∃ b', (s.lastAdvanced id c bytes).bands[i] = some b' ∧ (if c.names i then b.closed id else b).MayMove b' := by
  have hended : (s.lastEnded id c bytes).bands[i] = some (if c.names i then b.closed id else b) := by
    rw [lastEnded_bands_get, hb]
    rfl
  obtain h | ⟨j, w, h⟩ := lastAdvanced_cases (s := s) (id := id) (c := c) bytes
  · exact ⟨_, by rw [h]; exact hended, .refl _⟩
  · rw [h]
    exact moveWatermark_mayMove hended w true

theorem lastAdvanced_unstaged (h : ∀ (i : BandId) (b : Band), s.bands[i] = some b → b.pending = none) :
    ∀ (i : BandId) (b : Band), (s.lastAdvanced id c bytes).bands[i] = some b → b.pending = none := by
  intro i b hb
  cases hs : s.bands[i] with
  | none =>
    have hnone : (s.lastEnded id c bytes).bands[i] = none := by
      rw [lastEnded_bands_get, hs]
      rfl
    have hstaged : (s.lastAdvanced id c bytes).staged i = none := by
      have hended : (s.lastEnded id c bytes).staged i = none := by
        rw [State.staged, hnone]
        rfl
      obtain h | ⟨j, w, h⟩ := lastAdvanced_cases (s := s) (id := id) (c := c) bytes
      · rw [h]
        exact hended
      · rw [h, moveWatermark_staged]
        exact hended
    rw [State.staged, hb] at hstaged
    cases hstaged
  | some x =>
    obtain ⟨b', hb', hmove⟩ := lastAdvanced_mayMove bytes (id := id) (c := c) hs
    cases hb.symm.trans hb'
    rw [hmove.pending]
    split
    · exact h i x hs
    · exact h i x hs

end Advance

/-- A watermark below the end of its band is recorded, with one event (R120). -/
theorem moveWatermark_below_report {s : State} {i : BandId} {b : Band} {r : Migration} (hb : s.bands[i] = some b)
    (hr : b.migration = some r) {w : Nat} (hw : w ≠ b.fields.extent.endLba) :
    (s.moveWatermark i w true).bands[i] = some { b with migration := some { r with w := w } } ∧
    (s.report (.migrate i .advance w)).SameClass (s.moveWatermark i w true) .migrate := by
  rw [moveWatermark_below hb hr w true hw]
  exact ⟨setBand_get_self .., ⟨rfl, rfl⟩⟩

/-- A watermark at the end of its band completes the migration, with two events (R120). -/
theorem moveWatermark_end_report {s : State} {i : BandId} {b : Band} {r : Migration} (hb : s.bands[i] = some b)
    (hr : b.migration = some r) {w : Nat} (hw : w = b.fields.extent.endLba) :
    (s.moveWatermark i w true).bands[i] = some { b with
      fields := { b.fields with binding := some ⟨r.target, r.targetGeneration⟩ }, migration := none, writer := none } ∧
    ((s.report (.migrate i .advance w)).report (.migrate i .complete w)).SameClass (s.moveWatermark i w true) .migrate := by
  rw [moveWatermark_end hb hr w true hw, report_bands]
  exact ⟨setBand_get_self .., State.SameClass.report (d := .migrate i .complete w) ⟨rfl, rfl⟩ rfl⟩

theorem closed_mayMove_openCount {b b1 b2 : Band} {id : CtxId} {named : Bool}
    (h : (if named then b.closed id else b).MayMove b1) (h' : b1.MayMove b2) :
    b2.openCount = (if named then b.openCount - 1 else b.openCount) ∧ (named = true → b2.writer ≠ some id) := by
  have hclosed : (b.closed id).writer ≠ some id := by
    unfold Band.closed
    dsimp only
    split
    · exact nofun
    · assumption
  cases named with
  | false =>
    obtain rfl | ⟨_, _, _, _, rfl⟩ := h.trans h'
    · exact ⟨rfl, nofun⟩
    · exact ⟨rfl, nofun⟩
  | true =>
    obtain rfl | ⟨_, _, writer, hw, rfl⟩ := h.trans h'
    · exact ⟨rfl, fun _ => hclosed⟩
    · refine ⟨rfl, fun _ => ?_⟩
      obtain rfl | rfl := hw
      · exact hclosed
      · exact nofun

/-! ### What follows, and the overrun -/

section Settled

variable {s : State} {id : CtxId} {c : Context} (bytes : List Byte)

/-- The state behind a completed context, before its overrun is counted. -/
def State.lastSettled (s : State) (id : CtxId) (c : Context) (bytes : List Byte) : State :=
  (s.lastAdvanced id c bytes).settleCuts false none

theorem lastSettled_eq : s.lastSettled id c bytes = (s.lastAdvanced id c bytes).applyIdleChanges.drainIdle none := rfl

theorem processFragment_of_complete {overrun : Bool} (h : (s.takeBytes bytes c).stop = .complete overrun) :
    s.processFragment id c bytes =
      if overrun then (s.lastSettled id c bytes).discard .overrun (some id) else s.lastSettled id c bytes := by
  rw [State.processFragment]
  dsimp only
  rw [h]
  rfl

theorem lastSettled_transfers : (s.lastSettled id c bytes).transfers = (s.lastEnded id c bytes).transfers :=
  (settleCuts_transfers _ false none).trans (lastAdvanced_transfers bytes)

theorem lastSettled_outside : (s.lastSettled id c bytes).outside = s.outside :=
  (settleCuts_outside _ false none).trans (lastAdvanced_outside bytes)

theorem lastSettled_sameClass {k : NoticeClass} (hp : k ≠ .purge) (hm : k ≠ .migrate) :
    s.SameClass (s.lastSettled id c bytes) k :=
  (lastAdvanced_sameClass bytes hm).trans (settleCuts_sameClass hp hm _ false none)

/-- Where nothing is staged, the migrate events are the advance's. -/
theorem lastSettled_sameMigrate (h : ∀ (i : BandId) (b : Band), s.bands[i] = some b → b.pending = none) :
    (s.lastAdvanced id c bytes).SameClass (s.lastSettled id c bytes) .migrate := by
  have hidle := applyIdleChanges_of_unstaged (lastAdvanced_unstaged (id := id) (c := c) bytes h)
  rw [lastSettled_eq, hidle]
  exact drainIdle_sameClass (by decide) _ none

theorem lastSettled_bands : (s.lastSettled id c bytes).bands = (s.lastAdvanced id c bytes).applyIdleChanges.bands :=
  settleCuts_bands _ none

theorem lastSettled_slotFollows (hc : s.contexts[id] = some c) (k : SlotId) :
    s.SlotFollows (s.lastSettled id c bytes) k fun a n => { a with drained := a.drained + n } := by
  refine slotFollows_of_after (kind := .drained) ?_ false nofun
  have hcontexts := (contexts_of_transfers (lastAdvanced_transfers (s := s) (id := id) (c := c) bytes)).trans
    (lastEnded_contexts bytes)
  rw [lastAdvanced_slots, lastEnded_slots_get, endedWith_one hc hcontexts]

/-- The slots that drain behind the end of a context. -/
def State.drainsWithout (s : State) (c : Context) (k : SlotId) : Prop :=
  (s.slots[k]).isPurging = true ∧ (if c.holds k then (s.slots[k]).holders - 1 else (s.slots[k]).holders) = 0

theorem after_isPurging (kind : EndKind) (n : Nat) (v : KeySlot) : (v.after kind n).isPurging = v.isPurging := by
  obtain ⟨generation, holders, state⟩ := v
  cases state <;> rfl

theorem drainsWithout_iff (k : SlotId) : s.drainsWithout c k ↔
    ((s.lastAdvanced id c bytes).applyIdleChanges.slots[k]).isPurging = true ∧
    ((s.lastAdvanced id c bytes).applyIdleChanges.slots[k]).holders = 0 := by
  rw [applyIdleChanges_slots, lastAdvanced_slots, lastEnded_slots_get, after_isPurging, State.drainsWithout]
  refine and_congr Iff.rfl ?_
  rw [KeySlot.after]
  split <;> exact Iff.rfl

theorem lastSettled_holders (k : SlotId) : ((s.lastSettled id c bytes).slots[k]).holders =
    if c.holds k then (s.slots[k]).holders - 1 else (s.slots[k]).holders := by
  by_cases hdrain : s.drainsWithout c k
  · obtain ⟨hp, h0⟩ := (drainsWithout_iff bytes (id := id) k).1 hdrain
    have hended := drainIdle_ended (except := none) hp h0 nofun
    rw [hdrain.2]
    exact congrArg KeySlot.holders hended.1
  · have hkept : (s.lastSettled id c bytes).slots[k] = (s.lastAdvanced id c bytes).slots[k] := by
      refine settleCuts_slots_kept ?_
      by_contra h
      simp only [not_or, Bool.not_eq_false, not_not] at h
      refine hdrain ((drainsWithout_iff bytes (id := id) k).2 ?_)
      rw [applyIdleChanges_slots]
      exact ⟨h.1, h.2.1⟩
    rw [hkept, lastAdvanced_slots, lastEnded_slots_get, KeySlot.after]
    split <;> rfl

theorem lastSettled_no_drain (h : ∀ k, ¬s.drainsWithout c k) : s.SameClass (s.lastSettled id c bytes) .purge := by
  have hnone : (s.lastAdvanced id c bytes).applyIdleChanges.drainIdle none = (s.lastAdvanced id c bytes).applyIdleChanges :=
    drainIdle_of_none fun k hp h0 => absurd ((drainsWithout_iff bytes (id := id) k).2 ⟨hp, h0⟩) (h k)
  have happly := (lastAdvanced_sameClass (s := s) (id := id) (c := c) bytes (k := .purge) (by decide)).trans
    (applyIdleChanges_sameClass (by decide) _)
  rw [lastSettled_eq, hnone]
  exact happly

theorem lastSettled_one_drain {k : SlotId} {m : Material} {a : Account} (hs : (s.slots[k]).state = .purging m a)
    (hh : c.holds k = true) (h : ∀ x, s.drainsWithout c x ↔ x = k) :
    (s.report (.purge k a.cause (a.drained + 1) a.cut)).SameClass (s.lastSettled id c bytes) .purge := by
  have hone : (s.lastAdvanced id c bytes).applyIdleChanges.drainIdle none =
      (s.lastAdvanced id c bytes).applyIdleChanges.endPurge k :=
    drainIdle_of_one fun x => (drainsWithout_iff bytes (id := id) x).symm.trans (h x)
  have happly := (lastAdvanced_sameClass (s := s) (id := id) (c := c) bytes (k := .purge) (by decide)).trans
    (applyIdleChanges_sameClass (by decide) _)
  have hstate : ((s.lastAdvanced id c bytes).applyIdleChanges.slots[k]).state =
      .purging m { a with drained := a.drained + 1 } := by
    rw [applyIdleChanges_slots, lastAdvanced_slots, lastEnded_slots_get, if_pos hh, KeySlot.after, hs]
    rfl
  have htime := linkTime_of_outside ((applyIdleChanges_outside _).trans
    (lastAdvanced_outside (s := s) (id := id) (c := c) bytes))
  rw [lastSettled_eq, hone]
  exact (State.SameClass.report (d := .purge k a.cause (a.drained + 1) a.cut) happly htime).trans
    ((endPurge_sameNotices hstate).sameClass .purge)

end Settled

/-! ### The overrun -/

/-- An overrun is counted (R38, R46). -/
def State.countedOverrun (s : State) (overrun : Bool) (id : CtxId) : State :=
  if overrun then s.discard .overrun (some id) else s

theorem countedOverrun_frame (s : State) (overrun : Bool) (id : CtxId) : ∃ classes noticeSlots,
    s.countedOverrun overrun id = { s with
      discards := if overrun then raised s.discards else s.discards, classes := classes, noticeSlots := noticeSlots } := by
  cases overrun with
  | false => exact ⟨_, _, rfl⟩
  | true =>
    exact ⟨_, _, report_writes { s with discards := raised s.discards } (.discard .overrun (some id) (raised s.discards))⟩

theorem countedOverrun_sameClass (s : State) (overrun : Bool) (id : CtxId) {k : NoticeClass}
    (h : k ≠ .discard ∨ overrun = false) : s.SameClass (s.countedOverrun overrun id) k := by
  cases overrun with
  | false => exact .refl s k
  | true =>
    exact State.SameClass.trans (t := { s with discards := raised s.discards }) ⟨rfl, rfl⟩
      (report_sameClass _ _ (h.resolve_right nofun))

/-- The event of an overrun, counted once as every event is (R46). -/
theorem countedOverrun_event {s d : State} (hsame : s.SameClass d .discard) (htime : d.linkTime = s.linkTime) (id : CtxId) :
    (s.report (.discard .overrun (some id) (raised d.discards))).SameClass (d.countedOverrun true id) .discard :=
  State.SameClass.report (d := .discard .overrun (some id) (raised d.discards))
    (State.SameClass.trans hsame (u := { d with discards := raised d.discards }) ⟨rfl, rfl⟩) htime

/-- Settles O22. -/
theorem lastSectorCompletes : Obligations.LastSectorCompletes := by
  intro s lane ctx id bytes c f overrun hid hf hb hne hlen hc hd hp hbank hfrag hstop
  subst hfrag
  have hexec := exec_data_fragment hid hf hb hne hlen hc hd hp hbank
  rw [processFragment_of_complete bytes hstop] at hexec
  change exec (.data lane ctx bytes) s = .next ((s.lastSettled id c bytes).countedOverrun overrun id) at hexec
  obtain ⟨hfront, hdone, hback, hend⟩ := queues_of_transfers (lastSettled_transfers (s := s) (id := id) (c := c) bytes)
  obtain ⟨hfront', hdone', hback', hend'⟩ := lastEnded_queues (id := id) bytes (takeBytes_complete hstop)
  have hcontexts := (contexts_of_transfers (lastSettled_transfers (s := s) (id := id) (c := c) bytes)).trans
    (lastEnded_contexts bytes)
  have hout := lastSettled_outside (s := s) (id := id) (c := c) bytes
  obtain ⟨hlines, hcontrol, hwraps, hlatched, hdiscards, hreservations⟩ := frame_of_outside hout
  have hfollows := lastSettled_slotFollows bytes hc
  have hholders := lastSettled_holders (s := s) (id := id) (c := c) bytes
  have hclass := fun (k : NoticeClass) hp hm => lastSettled_sameClass (s := s) (id := id) (c := c) bytes (k := k) hp hm
  have hnodrain := lastSettled_no_drain (s := s) (id := id) (c := c) bytes
  have honedrain := fun {k : SlotId} {m : Material} {a : Account} hs hh h =>
    lastSettled_one_drain (s := s) (id := id) (c := c) bytes (k := k) (m := m) (a := a) hs hh h
  have hmigrate := lastSettled_sameMigrate (s := s) (id := id) (c := c) bytes
  have hbands := lastSettled_bands (s := s) (id := id) (c := c) bytes
  generalize s.lastSettled id c bytes = d at hexec hfront hdone hback hend hcontexts hout hlines hcontrol hwraps hlatched hdiscards hreservations hfollows hholders hclass hnodrain honedrain hmigrate hbands
  refine ⟨_, hexec, ?_⟩
  have hover := fun {k : NoticeClass} h => countedOverrun_sameClass d overrun id (k := k) h
  have hevent := countedOverrun_event (hclass .discard (by decide) (by decide)) (linkTime_of_outside hout) id
  obtain ⟨classes, noticeSlots, ht⟩ := countedOverrun_frame d overrun id
  have hdisc : (d.countedOverrun overrun id).discards = if overrun then raised s.discards else s.discards := by
    rw [ht, hdiscards]
  have htbands : (d.countedOverrun overrun id).bands = (s.lastAdvanced id c bytes).applyIdleChanges.bands := by
    rw [ht]
    exact hbands
  refine ⟨by rw [ht]; exact hcontexts, by rw [ht]; exact hfront.trans hfront', by rw [ht]; exact hdone.trans hdone',
    by rw [ht]; exact hback.trans hback', by rw [ht]; exact hend.trans hend', hdisc, fun ho u hu => ?event,
    fun k hk => ?others, fun drains hdrains => ?purge, fun i b hi hpend => ?bands, fun k => ?holders, fun hnone hplain => ?plain,
    fun g b alone hm hw hg hgb hpend halone hbase => ?writer, fun k => ?follows, ?lines, ?control, ?wraps, ?latched, ?reservations⟩
  case lines => rw [ht]; exact hlines
  case control => rw [ht]; exact hcontrol
  case wraps => rw [ht]; exact hwraps
  case latched => rw [ht]; exact hlatched
  case reservations => rw [ht]; exact hreservations
  case follows =>
    exact (hfollows k).congr (by rw [ht]) (by rw [ht]) fun r hr => by rw [ht]; exact hr
  case holders =>
    rw [ht]
    exact hholders k
  case event =>
    subst ho
    rw [hdisc, if_pos rfl] at hu ⊢
    rw [hdiscards] at hevent
    subst hu
    exact ⟨by rw [hevent.1]; exact report_latest s (.discard .overrun (some id) (raised s.discards)), hevent⟩
  case others =>
    obtain rfl | rfl | ⟨rfl, ho⟩ := hk
    · exact (hclass .trip (by decide) (by decide)).trans (hover (.inl (by decide)))
    · exact (hclass .keyfault (by decide) (by decide)).trans (hover (.inl (by decide)))
    · exact (hclass .discard (by decide) (by decide)).trans (hover (.inr ho))
  case purge =>
    have hkeep := hover (k := .purge) (.inl (by decide))
    refine ⟨fun h => (hnodrain fun k hk => h k ((hdrains k).2 hk)).trans hkeep, fun k m a u hs hh h hu => ?_⟩
    subst hu
    exact (honedrain hs hh fun x => (hdrains x).symm.trans (h x)).trans hkeep
  case bands =>
    obtain ⟨b1, hb1, hmove1⟩ := lastAdvanced_mayMove bytes (id := id) (c := c) hi
    have hpend1 : b1.pending = none := by
      rw [hmove1.pending]
      split <;> exact hpend
    obtain ⟨b2, hb2, hmove2⟩ := applyIdleChanges_mayMove hb1 hpend1
    refine ⟨b2, by rw [htbands]; exact hb2, hmove2.pending.trans hpend1, ?_⟩
    exact closed_mayMove_openCount hmove1 hmove2
  case plain =>
    have hkeep := hover (k := .migrate) (.inl (by decide))
    have hadvanced := lastAdvanced_plain (s := s) (id := id) bytes hplain
    have hsame := (hmigrate hnone).trans hkeep
    rw [hadvanced] at hsame
    obtain ⟨hcls, hslot⟩ := ((lastEnded_same (s := s) (id := id) (c := c) bytes).1.sameClass .migrate).trans hsame
    refine ⟨hcls, hslot, fun i => ?_⟩
    rw [htbands, applyIdleChanges_of_unstaged (lastAdvanced_unstaged (id := id) (c := c) bytes hnone), hadvanced,
      lastEnded_bands_get]
    rfl
  case writer =>
    have hkeep := hover (k := .migrate) (.inl (by decide))
    have hended := (lastEnded_same (s := s) (id := id) (c := c) bytes).1.sameClass .migrate
    have htime := linkTime_of_outside (lastEnded_same (s := s) (id := id) (c := c) bytes).2
    have hband := lastEnded_band (s := s) (id := id) (c := c) bytes hg hgb
    have hkept : ∀ b' : Band, (s.lastAdvanced id c bytes).bands[g.band] = some b' → b'.pending = none →
        (d.countedOverrun overrun id).bands[g.band] = some b' := fun b' hb' hp' => by
      rw [htbands]
      refine applyIdleChanges_get hb' hp' (hbase.imp_right fun h => .inr ?_)
      exact lastAdvanced_unstaged (id := id) (c := c) bytes (halone.1 h)
    refine ⟨fun hidle => ?_, fun r w hrec hweq => ?_⟩
    · have hadvanced := lastAdvanced_of_idle bytes (id := id) hm hw hg hgb hidle
      rw [hadvanced] at hkept hmigrate
      exact ⟨fun h => (hended.trans (hmigrate (halone.1 h))).trans hkeep, hkept _ hband hpend⟩
    · have hadvanced := lastAdvanced_of_record bytes (id := id) hm hw hg hgb hrec
      rw [← hweq] at hadvanced
      rw [hadvanced] at hkept hmigrate
      refine ⟨fun hbelow => ?_, fun hat => ?_⟩
      · obtain ⟨hmoved, hreport⟩ := moveWatermark_below_report hband hrec hbelow
        refine ⟨hkept _ hmoved hpend, fun h u hu => ?_⟩
        subst hu
        have hevents := (((State.SameClass.report (d := .migrate g.band .advance w) hended htime).trans hreport).trans
          (hmigrate (halone.1 h))).trans hkeep
        exact ⟨(congrArg (·.latest) hevents.1).trans (report_latest s (.migrate g.band .advance w)), hevents⟩
      · obtain ⟨hmoved, hreport⟩ := moveWatermark_end_report hband hrec hat
        refine ⟨hkept _ hmoved hpend, fun h u hu => ?_⟩
        subst hu
        have hadvance := State.SameClass.report (d := .migrate g.band .advance w) hended htime
        have hcomplete := State.SameClass.report (d := .migrate g.band .complete w) hadvance
          ((report_linkTime _ _).trans (htime.trans (report_linkTime s _).symm))
        have hevents := ((hcomplete.trans hreport).trans (hmigrate (halone.1 h))).trans hkeep
        refine ⟨(congrArg (·.latest) hevents.1).trans ?_, hevents⟩
        rw [← report_linkTime s (.migrate g.band .advance w)]
        exact report_latest (s.report (.migrate g.band .advance w)) (.migrate g.band .complete w)

end Sys2Proof.Machine

/-! PROOFS. The link reset (R49, R65, R70, R92, R109, R113, R114, R153, R159, R171): what the staged changes leave behind
when every band is idle, and the parts of the reset. -/

namespace Sys2Proof.Machine

/-! ### What another band's change leaves -/

section Others

variable {s : State} {i j : BandId} {b : Band}

/-- A band stays as it is where no other band becomes a locking band of its namespace. -/
theorem applyPending_get_ne (hij : j ≠ i) (hb : s.bands[i] = some b)
    (h : ∀ x g owed ns first last, s.bands[j] = some x → x.pending = some ⟨.bandSet (some g), owed⟩ →
      g.extent = .locking ns first last → i ≠ baseBand ns) : (s.applyPending j).bands[i] = some b := by
  refine applyPending_elim (P := fun t => t.bands[i] = some b) hb (fun x new owed hx hp _ => ?_)
    fun x target generation owed hx _ _ => ?_
  · rw [payReply_bands]
    refine (applyBandSet_get_ne s new hij.symm fun g ns first last hnew hext hi => ?_).trans hb
    subst hnew
    exact absurd hi (h x g owed ns first last hx hp hext)
  · rw [payReply_bands, State.applyMigrateStart, hx]
    exact (moveWatermark_get_ne _ _ _ hij).trans ((setBand_get_ne s _ hij).trans hb)

theorem applyPending_get_none (hb : s.bands[i] = none) : (s.applyPending j).bands[i] = none := by
  by_cases hij : j = i
  · subst hij
    rw [applyPending_of_unstaged (by rw [hb]; rfl)]
    exact hb
  · have h := applyPending_staged_ne s hij
    rw [State.staged, State.staged, hb] at h
    exact Option.map_eq_none_iff.1 h

theorem inOrder_applyPending_none (is : List BandId) (hb : s.bands[i] = none) :
    (inOrder (fun j t => State.applyPending t j) is s).bands[i] = none :=
  inOrder_induct (P := fun t => t.bands[i] = none) _ _ _ (fun _ _ _ ht => applyPending_get_none ht) hb

end Others

/-! ### Idle bands -/

/-- No band has an open context. -/
def State.AllIdle (s : State) : Prop :=
  ∀ (i : BandId) (b : Band), s.bands[i] = some b → b.openCount = 0 ∧ b.writer = none

theorem applyPending_get_self_idle {s : State} (hidle : s.AllIdle) {i : BandId} {b : Band}
    (hb : (s.applyPending i).bands[i] = some b) : b.openCount = 0 ∧ b.writer = none ∧ b.pending = none := by
  obtain hkept | ⟨x, new, owed, hx, hcount, hp⟩ | ⟨x, target, generation, owed, hx, hcount, hp⟩ := pending_cases s i
  · rw [applyPending_of_kept hkept] at hb
    obtain ⟨hcount, hwriter⟩ := hidle i b hb
    exact ⟨hcount, hwriter, (hkept b hb).resolve_left fun h => h hcount⟩
  · rw [applyPending_of_bandSet hx hcount hp, payReply_bands, applyBandSet_get_self] at hb
    obtain ⟨g, _, rfl⟩ := Option.map_eq_some_iff.1 hb
    rw [entered_of_idle fun y hy => (hidle i y hy).1]
    exact ⟨rfl, rfl, rfl⟩
  · rw [applyPending_of_migrateStart hx hcount hp, payReply_bands] at hb
    by_cases hw : s.placeFor i x.fields.extent.firstLba = x.fields.extent.endLba
    · rw [applyMigrateStart_end hx _ _ hw, report_bands, setBand_get_self] at hb
      cases hb
      exact ⟨hcount, rfl, rfl⟩
    · rw [applyMigrateStart_below hx _ _ hw, setBand_get_self] at hb
      cases hb
      exact ⟨hcount, rfl, rfl⟩

theorem State.AllIdle.applyPending {s : State} (hidle : s.AllIdle) (j : BandId) : (s.applyPending j).AllIdle := by
  intro i b hb
  by_cases hij : j = i
  · subst hij
    obtain ⟨hcount, hwriter, _⟩ := applyPending_get_self_idle hidle hb
    exact ⟨hcount, hwriter⟩
  · cases hx : s.bands[i] with
    | none => rw [applyPending_get_none hx] at hb; cases hb
    | some x =>
      obtain ⟨b', hb', hmove⟩ := applyPending_mayMove_ne hij hx
      cases hb.symm.trans hb'
      obtain ⟨hcount, hwriter⟩ := hidle i x hx
      obtain rfl | ⟨_, _, writer, hw, rfl⟩ := hmove
      · exact ⟨hcount, hwriter⟩
      · exact ⟨hcount, hw.elim (fun h => h.trans hwriter) id⟩

theorem State.AllIdle.inOrder {s : State} (hidle : s.AllIdle) (is : List BandId) :
    (inOrder (fun j t => State.applyPending t j) is s).AllIdle :=
  inOrder_induct (P := State.AllIdle) _ _ _ (fun j _ _ ht => ht.applyPending j) hidle

theorem State.AllIdle.applyIdleChanges {s : State} (hidle : s.AllIdle) {i : BandId} {b : Band}
    (hb : s.applyIdleChanges.bands[i] = some b) : b.openCount = 0 ∧ b.writer = none ∧ b.pending = none := by
  obtain ⟨hcount, hwriter⟩ := hidle.inOrder allBands i b hb
  exact ⟨hcount, hwriter, (inOrder_applyPending_applied allBands s i (.inr (List.mem_finRange i))).pending_eq_none hb hcount⟩

/-! ### A band's turn -/

theorem inOrder_append {α : Type} (f : α → State → State) (xs ys : List α) (s : State) :
    inOrder f (xs ++ ys) s = inOrder f ys (inOrder f xs s) := by
  induction xs generalizing s with
  | nil => rfl
  | cons x xs ih => exact ih (f x s)

theorem allBands_split (i : BandId) : ∃ before after : List BandId, allBands = before ++ i :: after ∧
    (∀ j ∈ before, j < i) ∧ ∀ j ∈ after, i < j := by
  obtain ⟨before, after, h⟩ := List.append_of_mem (List.mem_finRange i)
  have hsorted := List.pairwise_lt_finRange 32
  rw [h, List.pairwise_append, List.pairwise_cons] at hsorted
  obtain ⟨_, ⟨hafter, _⟩, hbefore⟩ := hsorted
  exact ⟨before, after, h, fun j hj => hbefore j hj i List.mem_cons_self, hafter⟩

/-- What holds before a band's turn, becomes something else at its turn, and stays so behind it. -/
theorem applyIdleChanges_turn {P Q : State → Prop} {s : State} (i : BandId) (hs : P s)
    (hbefore : ∀ (j : BandId) (t : State), j < i → P t → P (t.applyPending j))
    (hturn : ∀ t, P t → Q (t.applyPending i))
    (hafter : ∀ (j : BandId) (t : State), i < j → Q t → Q (t.applyPending j)) : Q s.applyIdleChanges := by
  obtain ⟨before, after, h, hlt, hgt⟩ := allBands_split i
  rw [State.applyIdleChanges, h, inOrder_append, inOrder_cons]
  refine inOrder_induct (P := Q) _ _ _ (fun j hj t ht => hafter j t (hgt j hj) ht) (hturn _ ?_)
  exact inOrder_induct (P := P) _ _ _ (fun j hj t ht => hbefore j t (hlt j hj) ht) hs

/-! ### A staged BAND-SET -/

theorem gateHolds_of_latched {s t : State} (h : t.latched = s.latched) : t.gateHolds = s.gateHolds := by
  funext mask
  rw [State.gateHolds, h, State.gateHolds]

/-- The entry that a BAND-SET gives an idle band: set locks stay under the trip gate (R65). -/
def State.givenBand (s : State) (b : Band) (g : BandFields) : Band :=
  { fields := { g with
      readLock := g.readLock || (b.fields.readLock && (s.gateHolds b.fields.tripMask || s.gateHolds g.tripMask)),
      writeLock := g.writeLock || (b.fields.writeLock && (s.gateHolds b.fields.tripMask || s.gateHolds g.tripMask)) },
    openCount := 0, migration := none, writer := none, pending := none }

theorem applyIdleChanges_bandSet {s : State} (hidle : s.AllIdle) {i : BandId} {b : Band} {new : Option BandFields}
    {owed : Option Byte} (hb : s.bands[i] = some b) (hp : b.pending = some ⟨.bandSet new, owed⟩) :
    s.applyIdleChanges.bands[i] = new.map (s.givenBand b) := by
  refine applyIdleChanges_turn (P := fun t => t.AllIdle ∧ t.latched = s.latched ∧ ∃ b', t.bands[i] = some b' ∧ b.MayMove b')
    (Q := fun t => t.bands[i] = new.map (s.givenBand b)) i ⟨hidle, rfl, b, hb, .refl b⟩ ?before ?turn fun j t _ ht => ?after
  case before =>
    rintro j t hj ⟨hall, hl, x, hx, hmove⟩
    obtain ⟨y, hy, hmove'⟩ := applyPending_mayMove_ne (ne_of_lt hj) hx
    exact ⟨hall.applyPending j, (congrArg State.latched (applyPending_outside t j) :).trans hl, y, hy, hmove.trans hmove'⟩
  case turn =>
    rintro t ⟨hall, hl, x, hx, hmove⟩
    rw [applyPending_of_bandSet hx (hall i x hx).1 (hmove.pending.trans hp), payReply_bands, applyBandSet_get_self]
    refine congrArg (fun f => Option.map f new) (funext fun g => ?_)
    rw [entered_of_idle fun y hy => (hall i y hy).1, gatedFields_eq, gateHolds_of_latched hl, hx]
    obtain rfl | ⟨_, _, _, _, rfl⟩ := hmove <;> rfl
  case after =>
    cases new with
    | none => exact applyPending_get_none ht
    | some g => exact applyPending_get_unstaged j ht rfl (.inr rfl)

/-! ### A staged MIGRATE-START -/

/-- A band whose migration has begun at a watermark. -/
def Band.started (b : Band) (target : SlotId) (generation : BitVec 16) (w : Nat) : Band :=
  { b with migration := some ⟨target, generation, w⟩, writer := none, pending := none }

/-- A band whose migration has completed. -/
def Band.migrated (b : Band) (target : SlotId) (generation : BitVec 16) : Band :=
  { b with fields := { b.fields with binding := some ⟨target, generation⟩ },
           migration := none, writer := none, pending := none }

theorem applyPending_starts {s : State} {i : BandId} {b : Band} (hb : s.bands[i] = some b) (hcount : b.openCount = 0)
    {target : SlotId} {generation : BitVec 16} {owed : Option Byte}
    (hp : b.pending = some ⟨.migrateStart target generation, owed⟩) : (s.applyPending i).bands[i] =
      some (if s.placeFor i b.fields.extent.firstLba = b.fields.extent.endLba then b.migrated target generation
        else b.started target generation (s.placeFor i b.fields.extent.firstLba)) := by
  rw [applyPending_of_migrateStart hb hcount hp, payReply_bands]
  split
  · rename_i hw
    rw [applyMigrateStart_end hb _ _ hw, report_bands]
    exact setBand_get_self _ _ _
  · rename_i hw
    rw [applyMigrateStart_below hb _ _ hw]
    exact setBand_get_self _ _ _

/-- No band has a BAND-SET staged. -/
def State.NoBandSet (s : State) : Prop :=
  ∀ (j : BandId) (x : Band) (new : Option BandFields) (o : Option Byte), s.bands[j] = some x → x.pending ≠ some ⟨.bandSet new, o⟩

theorem State.NoBandSet.applyPending {s : State} (h : s.NoBandSet) (i : BandId) :
    (s.applyPending i).NoBandSet ∧ (s.applyPending i).extents = s.extents := by
  have hstaged : ∀ (t : State) (j : BandId) (x : Band) (new : Option BandFields) (o : Option Byte), t.bands[j] = some x →
      x.pending = some ⟨.bandSet new, o⟩ → t.staged j = some (x.openCount, some ⟨.bandSet new, o⟩) :=
    fun t j x new o hx hp => by rw [State.staged, hx, ← hp]; rfl
  obtain hkept | ⟨b, new, owed, hb, _, hp⟩ | ⟨b, target, generation, owed, hb, hcount, hp⟩ := pending_cases s i
  · rw [applyPending_of_kept hkept]
    exact ⟨h, rfl⟩
  · exact absurd hp (h i b new owed hb)
  · refine ⟨fun j x new o hx hpx => ?_, ?_⟩
    · by_cases hij : i = j
      · subst hij
        rw [applyPending_starts hb hcount hp] at hx
        cases hx
        split at hpx <;> cases hpx
      · have hs := (applyPending_staged_ne s hij).symm.trans (hstaged _ j x new o hx hpx)
        obtain ⟨y, hy, heq⟩ := Option.map_eq_some_iff.1 hs
        exact h j y new o hy (congrArg Prod.snd heq :)
    · rw [applyPending_of_migrateStart hb hcount hp]
      refine Eq.trans (extents_of_shapes (shapes_of_bands (payReply_bands _ _ _ _ _))) (funext fun j => ?_)
      by_cases hij : j = i
      · subst hij
        have hself := applyPending_starts hb hcount hp
        rw [applyPending_of_migrateStart hb hcount hp, payReply_bands] at hself
        rw [State.extents, hself, State.extents, hb]
        split <;> rfl
      · exact extents_of_update (applyMigrateStart_shapes hb target generation) hij

/-- Without a BAND-SET beside it, or in a locking band, a migration begins where its watermark is placed now. -/
theorem applyIdleChanges_migrateStart {s : State} (hidle : s.AllIdle) {i : BandId} {b : Band} {target : SlotId}
    {generation : BitVec 16} {owed : Option Byte} {w : Nat} (hb : s.bands[i] = some b)
    (hp : b.pending = some ⟨.migrateStart target generation, owed⟩) (h : 8 ≤ i.val ∨ s.NoBandSet)
    (hw : w = s.placeFor i b.fields.extent.firstLba) : s.applyIdleChanges.bands[i] =
      some (if w = b.fields.extent.endLba then b.migrated target generation else b.started target generation w) := by
  have hcount := (hidle i b hb).1
  have hturn : ∀ t : State, t.bands[i] = some b → t.placeFor i b.fields.extent.firstLba = w → (t.applyPending i).bands[i] =
      some (if w = b.fields.extent.endLba then b.migrated target generation else b.started target generation w) :=
    fun t ht hplace => by rw [applyPending_starts ht hcount hp, hplace]
  have hdone : (if w = b.fields.extent.endLba then b.migrated target generation
      else b.started target generation w).pending = none := by
    split <;> rfl
  generalize (if w = b.fields.extent.endLba then b.migrated target generation else b.started target generation w) = x at hturn hdone ⊢
  obtain hlocking | hnoset := h
  · have hkeep : isBase i = false := decide_eq_false (Nat.not_lt.2 hlocking)
    refine applyIdleChanges_turn (P := fun t => t.bands[i] = some b) (Q := fun t => t.bands[i] = some x) i hb
      (fun j t hj ht => applyPending_get_ne (ne_of_lt hj) ht fun _ _ _ ns _ _ _ _ _ hi => ?_) (fun t ht => ?_)
      fun j t hj ht => applyPending_get_unstaged j ht hdone (.inl hkeep)
    · rw [hi, isBase_baseBand] at hkeep
      cases hkeep
    · exact hturn t ht (by rw [placeFor_of_locking t _ hlocking, hw, placeFor_of_locking s _ hlocking])
  · have hstep : ∀ (j : BandId) (t : State), j ≠ i → ∀ x, t.bands[i] = some x → t.NoBandSet ∧ t.extents = s.extents →
        (t.applyPending j).bands[i] = some x ∧ (t.applyPending j).NoBandSet ∧ (t.applyPending j).extents = s.extents :=
      fun j t hj x hx ⟨hno, hext⟩ => by
        obtain ⟨hno', hext'⟩ := hno.applyPending j
        exact ⟨applyPending_get_ne hj hx fun y g o _ _ _ hy hpy => absurd hpy (hno j y _ o hy), hno', hext'.trans hext⟩
    refine (applyIdleChanges_turn (P := fun t => t.bands[i] = some b ∧ t.NoBandSet ∧ t.extents = s.extents)
      (Q := fun t => t.bands[i] = some x ∧ t.NoBandSet ∧ t.extents = s.extents) i ⟨hb, hnoset, rfl⟩
      (fun j t hj ⟨ht, hno⟩ => hstep j t (ne_of_lt hj) b ht hno) (fun t ⟨ht, hno, hext⟩ => ?_)
      fun j t hj ⟨ht, hno⟩ => hstep j t (ne_of_gt hj) x ht hno).1
    obtain ⟨hno', hext'⟩ := hno.applyPending i
    exact ⟨hturn t ht (by rw [placeFor_of_locks (locks_of_extents hext), hw]), hno', hext'.trans hext⟩

/-- A band's migration has begun at a watermark that stands outside every locking band, or it has completed. -/
def State.Migrates (s : State) (i : BandId) (b : Band) (target : SlotId) (generation : BitVec 16) : Prop :=
  (∃ w, s.bands[i] = some (b.started target generation w) ∧ w ≠ b.fields.extent.endLba ∧
    b.fields.extent.firstLba ≤ w ∧ s.placeFor i w = w) ∨
  s.bands[i] = some (b.migrated target generation)

theorem le_placeFor (s : State) (i : BandId) (w : Nat) : w ≤ s.placeFor i w := by
  unfold State.placeFor
  split
  · exact placed_ge s _ 32 w
  · exact Nat.le_refl w

theorem placeFor_placeFor (s : State) (i : BandId) (w : Nat) : s.placeFor i (s.placeFor i w) = s.placeFor i w := by
  by_cases hi : i.val < 8
  · obtain ⟨_, _, hfree⟩ := (placeFor_eq_iff s ⟨i.val, hi⟩ w _).1 rfl
    exact (placeFor_eq_iff s ⟨i.val, hi⟩ _ _).2 ⟨Nat.le_refl _, fun x hge hlt => absurd hge (Nat.not_le.2 hlt), hfree⟩
  · rw [placeFor_of_locking s _ (Nat.not_lt.1 hi), placeFor_of_locking s _ (Nat.not_lt.1 hi)]

theorem placeFor_eq_self_iff (s : State) (ns : Ns) (w : Nat) : s.placeFor (baseBand ns) w = w ↔ ¬s.locks ns w := by
  rw [placeFor_eq_iff]
  exact ⟨fun h => h.2.2, fun h => ⟨Nat.le_refl w, fun x hge hlt => absurd hge (Nat.not_le.2 hlt), h⟩⟩

/-- An entry that is no locking band of a namespace locks none of its LBAs. -/
theorem locks_of_applyBandSet {s : State} {j : BandId} {new : Option BandFields} {ns : Ns} {w : Nat}
    (hnew : ∀ g first last, new = some g → g.extent ≠ .locking ns first last)
    (h : (s.applyBandSet j new).locks ns w) : s.locks ns w := by
  obtain ⟨i, x, e, hx, he, hle, hge⟩ := locks_iff.1 h
  refine locks_iff.2 ⟨i, x, e, ?_, he, hle, hge⟩
  by_cases hij : i = j
  · subst hij
    rw [State.extents, applyBandSet_get_self] at hx
    obtain ⟨b, hb, rfl⟩ := Option.map_eq_some_iff.1 hx
    obtain ⟨g, hg, rfl⟩ := Option.map_eq_some_iff.1 hb
    rw [State.entered, gatedFields_extent] at he
    unfold Extent.lockingIn at he
    split at he
    · rename_i n first last hext
      split at he
      · rename_i hn
        exact absurd (hn ▸ hext) (hnew g first last hg)
      · cases he
    · cases he
  · rw [← extents_of_update (applyBandSet_shapes s j new) hij]
    exact hx

theorem isBase_of_staged {s : State} (hl : s.LayoutOk) {j : BandId} {x : Band} {g : BandFields} {owed : Option Byte}
    {ns : Ns} {first last : Nat} (hx : s.bands[j] = some x) (hp : x.pending = some ⟨.bandSet (some g), owed⟩)
    (hext : g.extent = .locking ns first last) : isBase j = false := by
  obtain ⟨hshape, _⟩ := hl
  have h := (hshape j x hx).2 g (stagedSet_of_bandSet hp rfl)
  rw [hext] at h
  exact h.symm

theorem State.Migrates.applyPending {s : State} (hl : s.LayoutOk) {i j : BandId} {b : Band} {target : SlotId}
    {generation : BitVec 16} (hij : j ≠ i) (h : s.Migrates i b target generation) :
    (s.applyPending j).Migrates i b target generation := by
  obtain ⟨w, hb, hend, hfirst, hplace⟩ | hb := h
  swap
  · exact .inr (applyPending_get_unstaged j hb rfl (.inr rfl))
  by_cases hi : 8 ≤ i.val
  · exact .inl ⟨w, applyPending_get_unstaged j hb rfl (.inl (decide_eq_false (Nat.not_lt.2 hi))), hend, hfirst,
      placeFor_of_locking _ _ hi⟩
  obtain ⟨ns, rfl⟩ : ∃ ns, i = baseBand ns := ⟨⟨i.val, Nat.not_le.1 hi⟩, rfl⟩
  refine applyPending_elim (P := fun t => t.Migrates (baseBand ns) b target generation)
    (.inl ⟨w, hb, hend, hfirst, hplace⟩) (fun x new owed hx hp _ => ?_) fun x target' generation' owed hx _ _ => ?_
  · have hne : ∀ g ns first last, new = some g → g.extent = .locking ns first last → j ≠ baseBand ns := by
      rintro g ns' first last rfl hext rfl
      have hbase := isBase_of_staged hl hx hp hext
      rw [isBase_baseBand] at hbase
      cases hbase
    have hpaid : (s.applyBandSet j new).Migrates (baseBand ns) b target generation := by
      by_cases hnew : ∀ g first last, new = some g → g.extent ≠ .locking ns first last
      · refine .inl ⟨w, ?_, hend, hfirst, ?_⟩
        · refine (applyBandSet_get_ne s new hij.symm fun g ns' first last hg hext hbase => ?_).trans hb
          have hns : ns = ns' := Fin.ext (congrArg Fin.val hbase :)
          exact absurd (hns ▸ hext) (hnew g first last hg)
        · exact (placeFor_eq_self_iff _ ns w).2 fun hlock =>
            (placeFor_eq_self_iff s ns w).1 hplace (locks_of_applyBandSet hnew hlock)
      · push Not at hnew
        obtain ⟨g, first, last, hg, hext⟩ := hnew
        obtain ⟨hplaced, _⟩ := applyBandSet_placedAgain s new hne
        obtain ⟨hsame, hbelow, hat⟩ := hplaced g ns first last _ _ _ hg hext hb rfl rfl
        have hle := le_placeFor (s.applyBandSet j new) (baseBand ns) w
        have hagain := placeFor_placeFor (s.applyBandSet j new) (baseBand ns) w
        dsimp only at hsame hbelow hat
        by_cases hw : (s.applyBandSet j new).placeFor (baseBand ns) w = w
        · exact .inl ⟨w, (hsame hw).1, hend, hfirst, hw⟩
        · by_cases hw' : (s.applyBandSet j new).placeFor (baseBand ns) w = b.fields.extent.endLba
          · exact .inr (hat hw hw').1
          · exact .inl ⟨_, (hbelow hw hw').1, hw', hfirst.trans hle, hagain⟩
    unfold State.Migrates
    rw [payReply_bands, placeFor_of_bands (payReply_bands _ owed _ _ _)]
    exact hpaid
  · refine .inl ⟨w, ?_, hend, hfirst, ?_⟩
    · rw [payReply_bands, State.applyMigrateStart, hx]
      exact (moveWatermark_get_ne _ _ _ hij).trans ((setBand_get_ne s _ hij).trans hb)
    · rw [placeFor_of_bands (payReply_bands _ owed _ _ _)]
      refine (congrFun (congrFun (placeFor_of_locks (locks_of_extents (funext fun k => ?_))) _) _).trans hplace
      by_cases hk : k = j
      · subst hk
        have hshape := congrFun (applyMigrateStart_shapes hx target' generation') k
        rw [Function.update_self] at hshape
        have he : ∀ u : State, u.extents k = (u.shapes k).map Shape.extent := fun u => by
          rw [State.shapes, Option.map_map]
          rfl
        rw [he, hshape, State.extents, hx]
        rfl
      · exact extents_of_update (applyMigrateStart_shapes hx target' generation') hk

theorem applyIdleChanges_migrates {s : State} (hidle : s.AllIdle) (hl : s.LayoutOk) {i : BandId} {b : Band}
    {target : SlotId} {generation : BitVec 16} {owed : Option Byte} (hb : s.bands[i] = some b)
    (hp : b.pending = some ⟨.migrateStart target generation, owed⟩) : s.applyIdleChanges.Migrates i b target generation := by
  have hcount := (hidle i b hb).1
  refine (applyIdleChanges_turn (P := fun t => t.LayoutOk ∧ t.bands[i] = some b)
    (Q := fun t => t.LayoutOk ∧ t.Migrates i b target generation) i ⟨hl, hb⟩ (fun j t hj ⟨hlt, ht⟩ => ?_)
    (fun t ⟨hlt, ht⟩ => ⟨hlt.applyPending i, ?_⟩)
    fun j t hj ⟨hlt, ht⟩ => ⟨hlt.applyPending j, ht.applyPending hlt (ne_of_gt hj)⟩).2
  · refine ⟨hlt.applyPending j, applyPending_get_ne (ne_of_lt hj) ht fun x g o ns first last hx hpx hext hi => ?_⟩
    have hbase := isBase_of_staged hlt hx hpx hext
    rw [isBase, decide_eq_false_iff_not] at hbase
    rw [hi] at hj
    exact hbase (Nat.lt_trans (Fin.lt_def.1 hj) ns.isLt)
  · have hself := applyPending_starts ht hcount hp
    split at hself
    · exact .inr hself
    · rename_i hw
      refine .inl ⟨_, hself, hw, le_placeFor _ _ _, ?_⟩
      refine (congrFun (congrFun (placeFor_of_locks (locks_of_extents (funext fun k => ?_))) _) _).trans
        (placeFor_placeFor t i _)
      by_cases hk : k = i
      · subst hk
        rw [State.extents, hself, State.extents, ht]
        rfl
      · rw [applyPending_of_migrateStart ht hcount hp]
        exact (extents_of_bands (congrArg (fun v : Vector (Option Band) 32 => v[k]) (payReply_bands _ _ _ _ _))).trans
          (extents_of_update (applyMigrateStart_shapes ht target generation) hk)

end Sys2Proof.Machine

/-! PROOFS. The parts of the link reset (R49, R70, R92, R109, R153, R159, R171). -/

namespace Sys2Proof.Machine

/-! ### The bands, with no regard to what they owe -/

/-- The band table without owed replies, and the latched set: what the application of staged changes reads. -/
def State.bare (s : State) : Vector (Option Band) 32 × SourceSet := (s.bands.map (Option.map Band.dropOwed), s.latched)

theorem bare_eq_iff {s t : State} : t.bare = s.bare ↔
    (∀ i : BandId, (t.bands[i]).map Band.dropOwed = (s.bands[i]).map Band.dropOwed) ∧ t.latched = s.latched := by
  rw [State.bare, State.bare, Prod.mk.injEq]
  refine and_congr ⟨fun h i => ?_, fun h => Vector.ext fun i hi => ?_⟩ Iff.rfl
  · have hget := congrArg (fun v : Vector (Option Band) 32 => v[i]) h
    simpa using hget
  · rw [Vector.getElem_map, Vector.getElem_map]
    exact h ⟨i, hi⟩

theorem bare_of_bands {s t : State} (hb : t.bands = s.bands) (hl : t.latched = s.latched) : t.bare = s.bare := by
  rw [State.bare, hb, hl, State.bare]

theorem extents_of_bare {s t : State} (h : t.bare = s.bare) : t.extents = s.extents := by
  have he : ∀ (u : State) (i : BandId), u.extents i = ((u.bands[i]).map Band.dropOwed).map (·.fields.extent) := fun u i => by
    rw [Option.map_map]
    rfl
  obtain ⟨hb, _⟩ := bare_eq_iff.1 h
  funext i
  rw [he, hb, ← he]

theorem placeFor_of_bare {s t : State} (h : t.bare = s.bare) : t.placeFor = s.placeFor :=
  placeFor_of_locks (locks_of_extents (extents_of_bare h))

theorem get_of_bare {s t : State} (h : t.bare = s.bare) {i : BandId} {b : Band} (hb : s.bands[i] = some b) :
    ∃ b', t.bands[i] = some b' ∧ b'.dropOwed = b.dropOwed := by
  have hget := (bare_eq_iff.1 h).1 i
  rw [hb] at hget
  exact Option.map_eq_some_iff.1 hget

theorem none_of_bare {s t : State} (h : t.bare = s.bare) {i : BandId} (hb : s.bands[i] = none) : t.bands[i] = none := by
  have hget := (bare_eq_iff.1 h).1 i
  rw [hb] at hget
  exact Option.map_eq_none_iff.1 hget

theorem setBand_bare {s t : State} (h : t.bare = s.bare) (i : BandId) {b b' : Option Band}
    (hb : b'.map Band.dropOwed = b.map Band.dropOwed) : (t.setBand i b').bare = (s.setBand i b).bare := by
  obtain ⟨hbands, hl⟩ := bare_eq_iff.1 h
  refine bare_eq_iff.2 ⟨fun j => ?_, hl⟩
  by_cases hij : i = j
  · subst hij
    rw [setBand_get_self, setBand_get_self, hb]
  · rw [setBand_get_ne t _ hij, setBand_get_ne s _ hij]
    exact hbands j

/-- Two bands that differ at most in what they owe. -/
theorem dropOwed_eq_iff {b b' : Band} : b'.dropOwed = b.dropOwed ↔ b'.fields = b.fields ∧ b'.openCount = b.openCount ∧
    b'.migration = b.migration ∧ b'.writer = b.writer ∧ b'.pending.map (·.change) = b.pending.map (·.change) := by
  unfold Band.dropOwed
  rw [Band.mk.injEq]
  refine and_congr Iff.rfl (and_congr Iff.rfl (and_congr Iff.rfl (and_congr Iff.rfl ?_)))
  cases b.pending <;> cases b'.pending <;> simp

theorem moved_dropOwed (b : Band) (r : Migration) (w : Nat) : (b.moved r w).dropOwed = b.dropOwed.moved r w := by
  unfold Band.moved
  split <;> split
  · rfl
  · contradiction
  · contradiction
  · rfl

theorem moveWatermark_latched (s : State) (i : BandId) (w : Nat) (announce : Bool) :
    (s.moveWatermark i w announce).latched = s.latched :=
  (congrArg State.latched (moveWatermark_outside s i w announce) :)

theorem moveWatermark_bare {s t : State} (h : t.bare = s.bare) (i : BandId) (w : Nat) (announce : Bool) :
    (t.moveWatermark i w announce).bare = (s.moveWatermark i w announce).bare := by
  cases hr : (s.bands[i]).bind (·.migration) with
  | none =>
    have hr' : (t.bands[i]).bind (·.migration) = none := by
      cases hb : s.bands[i] with
      | none => rw [none_of_bare h hb]; rfl
      | some b =>
        obtain ⟨b', hb', heq⟩ := get_of_bare h hb
        rw [hb']
        rw [hb] at hr
        exact (dropOwed_eq_iff.1 heq).2.2.1.trans hr
    rw [moveWatermark_of_idle hr, moveWatermark_of_idle hr']
    exact h
  | some r =>
    obtain ⟨b, hb, hr⟩ := Option.bind_eq_some_iff.1 hr
    obtain ⟨b', hb', heq⟩ := get_of_bare h hb
    obtain ⟨_, _, hmigration, _⟩ := dropOwed_eq_iff.1 heq
    obtain ⟨hbands, hl⟩ := bare_eq_iff.1 h
    refine bare_eq_iff.2 ⟨fun j => ?_, by rw [moveWatermark_latched, moveWatermark_latched, hl]⟩
    rw [moveWatermark_bands_get hb hr, moveWatermark_bands_get hb' (hmigration.trans hr)]
    split
    · rw [Option.map_some, Option.map_some, moved_dropOwed, moved_dropOwed, heq]
    · exact hbands j

theorem replaceWatermark_bare {s t : State} (h : t.bare = s.bare) (ns : Ns) :
    (t.replaceWatermark ns).bare = (s.replaceWatermark ns).bare := by
  cases hb : s.bands[baseBand ns] with
  | none =>
    rw [replaceWatermark_of_idle (s := s) (by rw [hb]; rfl), replaceWatermark_of_idle (s := t) (by rw [none_of_bare h hb]; rfl)]
    exact h
  | some b =>
    obtain ⟨b', hb', heq⟩ := get_of_bare h hb
    obtain ⟨_, _, hmigration, _⟩ := dropOwed_eq_iff.1 heq
    cases hr : b.migration with
    | none =>
      rw [replaceWatermark_of_idle (s := s) (by rw [hb]; exact hr),
        replaceWatermark_of_idle (s := t) (by rw [hb']; exact hmigration.trans hr)]
      exact h
    | some r =>
      rw [replaceWatermark_of_record hb hr, replaceWatermark_of_record hb' (hmigration.trans hr), placeFor_of_bare h]
      split
      · exact h
      · exact moveWatermark_bare h _ _ _

theorem entered_bare {s t : State} (h : t.bare = s.bare) (i : BandId) (f : BandFields) : t.entered i f = s.entered i f := by
  have hgate := gateHolds_of_latched (bare_eq_iff.1 h).2
  rw [State.entered, gatedFields_eq, hgate, State.entered, gatedFields_eq]
  cases hb : s.bands[i] with
  | none => rw [none_of_bare h hb]
  | some b =>
    obtain ⟨b', hb', heq⟩ := get_of_bare h hb
    obtain ⟨hfields, hcount, _⟩ := dropOwed_eq_iff.1 heq
    rw [hb']
    simp only [Option.any_some, Option.map_some, Option.getD_some, hfields, hcount]

theorem applyBandSet_bare {s t : State} (h : t.bare = s.bare) (i : BandId) (new : Option BandFields) :
    (t.applyBandSet i new).bare = (s.applyBandSet i new).bare := by
  cases new with
  | none => exact setBand_bare h i rfl
  | some f =>
    rw [applyBandSet_some, applyBandSet_some, entered_bare h]
    split
    · exact replaceWatermark_bare (setBand_bare h i rfl) _
    · exact setBand_bare h i rfl

theorem report_bare (s : State) (d : Detail) : (s.report d).bare = s.bare :=
  bare_of_bands (report_bands s d) (congrArg State.latched (report_outside s d) :)

theorem payReply_bare (s : State) (owed : Option Byte) (code : RequestCode) (status : ReplyStatus) (result : Result) :
    (s.payReply owed code status result).bare = s.bare :=
  bare_of_bands (payReply_bands s _ _ _ _) (congrArg State.latched (payReply_outside s _ _ _ _) :)

theorem applyMigrateStart_bare {s t : State} (h : t.bare = s.bare) {i : BandId} {b b' : Band} (hb : s.bands[i] = some b)
    (hb' : t.bands[i] = some b') (heq : b'.dropOwed = b.dropOwed) (target : SlotId) (generation : BitVec 16) :
    (t.applyMigrateStart i target generation).bare = (s.applyMigrateStart i target generation).bare := by
  obtain ⟨hfields, hcount, _⟩ := dropOwed_eq_iff.1 heq
  by_cases hw : s.placeFor i b.fields.extent.firstLba = b.fields.extent.endLba
  · rw [applyMigrateStart_end hb _ _ hw, applyMigrateStart_end hb' _ _ (by rw [placeFor_of_bare h, hfields]; exact hw),
      report_bare, report_bare, hfields, hcount]
    exact setBand_bare h i rfl
  · rw [applyMigrateStart_below hb _ _ hw, applyMigrateStart_below hb' _ _ (by rw [placeFor_of_bare h, hfields]; exact hw),
      placeFor_of_bare h, hfields, hcount]
    exact setBand_bare h i rfl

theorem applyPending_bare {s t : State} (h : t.bare = s.bare) (i : BandId) :
    (t.applyPending i).bare = (s.applyPending i).bare := by
  have hchange : ∀ {b b' : Band} {change : Change} {owed : Option Byte}, b'.dropOwed = b.dropOwed →
      b.pending = some ⟨change, owed⟩ → ∃ owed', b'.pending = some ⟨change, owed'⟩ := fun {b b' change owed} heq hp => by
    obtain ⟨_, _, _, _, hpending⟩ := dropOwed_eq_iff.1 heq
    rw [hp] at hpending
    obtain ⟨⟨change', owed'⟩, hp', hc⟩ := Option.map_eq_some_iff.1 hpending
    obtain rfl : change' = change := hc
    exact ⟨owed', hp'⟩
  obtain hkept | ⟨b, new, owed, hb, hcount, hp⟩ | ⟨b, target, generation, owed, hb, hcount, hp⟩ := pending_cases s i
  · have hkept' : ∀ b, t.bands[i] = some b → b.openCount ≠ 0 ∨ b.pending = none := fun b' hb' => by
      obtain ⟨b, hb, heq⟩ := get_of_bare h.symm hb'
      obtain ⟨_, hcount, _, _, hpending⟩ := dropOwed_eq_iff.1 heq
      refine (hkept b hb).imp (fun hne => hcount ▸ hne) fun hnone => ?_
      rw [hnone] at hpending
      exact Option.map_eq_none_iff.1 hpending.symm
    rw [applyPending_of_kept hkept, applyPending_of_kept hkept']
    exact h
  · obtain ⟨b', hb', heq⟩ := get_of_bare h hb
    obtain ⟨_, hcount', _⟩ := dropOwed_eq_iff.1 heq
    obtain ⟨owed', hp'⟩ := hchange heq hp
    rw [applyPending_of_bandSet hb hcount hp, applyPending_of_bandSet hb' (hcount'.trans hcount) hp', payReply_bare,
      payReply_bare]
    exact applyBandSet_bare h i new
  · obtain ⟨b', hb', heq⟩ := get_of_bare h hb
    obtain ⟨_, hcount', _⟩ := dropOwed_eq_iff.1 heq
    obtain ⟨owed', hp'⟩ := hchange heq hp
    rw [applyPending_of_migrateStart hb hcount hp, applyPending_of_migrateStart hb' (hcount'.trans hcount) hp',
      payReply_bare, payReply_bare]
    exact applyMigrateStart_bare h hb hb' heq target generation

theorem inOrder_applyPending_bare (is : List BandId) {s t : State} (h : t.bare = s.bare) :
    (inOrder (fun i u => State.applyPending u i) is t).bare = (inOrder (fun i u => State.applyPending u i) is s).bare := by
  induction is generalizing s t with
  | nil => exact h
  | cons i is ih =>
    rw [inOrder_cons, inOrder_cons]
    exact ih (applyPending_bare h i)

/-- Over idle bands, what the staged changes leave does not depend on the replies they owe. -/
theorem applyIdleChanges_bands_of_bare {s t : State} (hs : s.AllIdle) (ht : t.AllIdle) (h : t.bare = s.bare) :
    t.applyIdleChanges.bands = s.applyIdleChanges.bands := by
  have hpaid : ∀ u : State, u.AllIdle → ∀ i : BandId,
      (u.applyIdleChanges.bands[i]).map Band.dropOwed = u.applyIdleChanges.bands[i] := fun u hu i => by
    cases hb : u.applyIdleChanges.bands[i] with
    | none => rfl
    | some b =>
      have hp := (hu.applyIdleChanges hb).2.2
      rw [Option.map_some, Band.dropOwed, hp]
      exact congrArg some (by rw [Option.map_none, ← hp])
  obtain ⟨hbands, _⟩ := bare_eq_iff.1 (inOrder_applyPending_bare allBands h)
  refine Vector.ext fun i hi => ?_
  have hget := hbands ⟨i, hi⟩
  exact ((hpaid t ht ⟨i, hi⟩).symm.trans hget).trans (hpaid s hs ⟨i, hi⟩)

/-! ### The periods of the classes -/

/-- Two states agree on the period of every class. -/
def State.SamePeriods (s t : State) : Prop := ∀ k, (t.classOf k).period = (s.classOf k).period

theorem report_samePeriods (s : State) (d : Detail) : s.SamePeriods (s.report d) := by
  intro k
  by_cases hk : k = d.noticeClass
  · subst hk
    rw [report_classOf_self]
    split <;> rfl
  · rw [(report_other s d hk).1]

theorem State.SamePeriods.trans {s t u : State} (h : s.SamePeriods t) (h' : t.SamePeriods u) : s.SamePeriods u :=
  fun k => (h' k).trans (h k)

theorem samePeriods_of_classes {s t : State} (h : t.classes = s.classes) : s.SamePeriods t := fun k => by
  rw [State.classOf, h, State.classOf]

theorem payReply_samePeriods (s : State) (owed : Option Byte) (code : RequestCode) (status : ReplyStatus)
    (result : Result) : s.SamePeriods (s.payReply owed code status result) :=
  samePeriods_of_classes (payReply_sameNotices s owed code status result).1

theorem moveWatermark_samePeriods (s : State) (i : BandId) (w : Nat) (announce : Bool) :
    s.SamePeriods (s.moveWatermark i w announce) := by
  have hannounce : s.SamePeriods (s.announce announce i w) := by
    cases announce
    · exact samePeriods_of_classes rfl
    · exact report_samePeriods s _
  cases hr : (s.bands[i]).bind (·.migration) with
  | none =>
    rw [moveWatermark_of_idle hr]
    exact samePeriods_of_classes rfl
  | some r =>
    obtain ⟨b, hb, hr⟩ := Option.bind_eq_some_iff.1 hr
    by_cases hw : w = b.fields.extent.endLba
    · rw [moveWatermark_end hb hr w announce hw]
      exact (hannounce.trans (samePeriods_of_classes rfl)).trans (report_samePeriods (State.setBand _ _ _) _)
    · rw [moveWatermark_below hb hr w announce hw]
      exact hannounce.trans (samePeriods_of_classes rfl)

theorem replaceWatermark_samePeriods (s : State) (ns : Ns) : s.SamePeriods (s.replaceWatermark ns) := by
  unfold State.replaceWatermark
  split
  · exact samePeriods_of_classes rfl
  · dsimp only
    split
    · exact samePeriods_of_classes rfl
    · exact moveWatermark_samePeriods s _ _ _

theorem applyPending_samePeriods (s : State) (i : BandId) : s.SamePeriods (s.applyPending i) := by
  refine applyPending_elim (P := fun t => s.SamePeriods t) (samePeriods_of_classes rfl) (fun b new owed _ _ _ => ?_)
    fun b target generation owed hb _ _ => ?_
  · refine State.SamePeriods.trans ?_ (payReply_samePeriods _ _ _ _ _)
    cases new with
    | none => exact samePeriods_of_classes rfl
    | some f =>
      rw [applyBandSet_some]
      split
      · exact (samePeriods_of_classes (t := s.setBand i _) rfl).trans (replaceWatermark_samePeriods _ _)
      · exact samePeriods_of_classes rfl
  · refine State.SamePeriods.trans ?_ (payReply_samePeriods _ _ _ _ _)
    rw [State.applyMigrateStart, hb]
    exact (samePeriods_of_classes (s := s) (t := s.setBand i _) rfl).trans (moveWatermark_samePeriods _ _ _ _)

theorem applyIdleChanges_samePeriods (s : State) : s.SamePeriods s.applyIdleChanges :=
  inOrder_induct (P := fun t => s.SamePeriods t) _ _ _ (fun i _ t ht => ht.trans (applyPending_samePeriods t i))
    (samePeriods_of_classes rfl)

theorem endPurge_samePeriods (s : State) (k : SlotId) : s.SamePeriods (s.endPurge k) := by
  cases h : (s.slots[k]).isPurging with
  | false =>
    rw [endPurge_of_idle h]
    exact samePeriods_of_classes rfl
  | true =>
    obtain ⟨m, a, hs⟩ := (isPurging_iff _).1 h
    rw [endPurge_of_purging hs]
    exact ((samePeriods_of_classes (t := s.erase k) rfl).trans (payReply_samePeriods _ _ _ _ _)).trans
      (report_samePeriods _ _)

theorem drainIdle_samePeriods (s : State) (except : Option SlotId) : s.SamePeriods (s.drainIdle except) :=
  inAnyOrder_induct (P := fun t => s.SamePeriods t) _ _ _ (fun _ _ ht => ht)
    (fun k _ t ht => ht.trans (endPurge_samePeriods t k)) (samePeriods_of_classes rfl)

/-! ### The reset -/

/-- The ports and contexts are empty, and nothing has followed from it yet (R49, R92, R153, R159). -/
def State.freed (s : State) : State := { s with linkrstLine := true }.resetPorts.freeContexts

/-- The slot that a link reset leaves (R92, R109, R159). -/
def KeySlot.freed (v : KeySlot) : KeySlot := { v with holders := 0, state := v.state.dropOwed }

/-- The band that a link reset leaves, before its staged change applies (R49, R159). -/
def Band.freed (b : Band) : Band := { b.dropOwed with openCount := 0, writer := none }

theorem Band.freed_pending {b : Band} {change : Change} {owed : Option Byte} (hp : b.pending = some ⟨change, owed⟩) :
    b.freed.pending = some ⟨change, none⟩ := by
  rw [Band.freed, Band.dropOwed, hp]
  rfl

theorem Band.freed_of_unstaged {b : Band} (hp : b.pending = none) : b.freed = { b with openCount := 0, writer := none } := by
  obtain ⟨fields, openCount, migration, writer, pending⟩ := b
  obtain rfl : pending = none := hp
  rfl

theorem freed_bands_get (s : State) (i : BandId) : s.freed.bands[i] = (s.bands[i]).map Band.freed :=
  Vector.getElem_map ..

theorem freed_slots_get (s : State) (k : SlotId) : s.freed.slots[k] = (s.slots[k]).freed := Vector.getElem_map ..

theorem freed_band {s : State} {i : BandId} {b : Band} (hb : s.bands[i] = some b) :
    s.freed.bands[i] = some b.freed := by
  rw [freed_bands_get, hb]
  rfl

theorem freed_allIdle (s : State) : s.freed.AllIdle := by
  intro i b hb
  rw [freed_bands_get] at hb
  obtain ⟨x, _, rfl⟩ := Option.map_eq_some_iff.1 hb
  exact ⟨rfl, rfl⟩

theorem freed_unstaged {s : State} (h : ∀ (j : BandId) (x : Band), s.bands[j] = some x → x.pending = none) :
    ∀ (j : BandId) (x : Band), s.freed.bands[j] = some x → x.pending = none := by
  intro j x hx
  rw [freed_bands_get] at hx
  obtain ⟨y, hy, rfl⟩ := Option.map_eq_some_iff.1 hx
  exact congrArg (Option.map fun p : Pending => { p with owed := none }) (h j y hy)

theorem freed_noBandSet {s : State} (h : s.NoBandSet) : s.freed.NoBandSet := by
  intro j x new o hx hp
  rw [freed_bands_get] at hx
  obtain ⟨y, hy, rfl⟩ := Option.map_eq_some_iff.1 hx
  obtain ⟨⟨change, owed⟩, hpy, heq⟩ := Option.map_eq_some_iff.1 (show y.pending.map _ = _ from hp)
  obtain ⟨rfl, _⟩ := Pending.mk.inj heq
  exact h j y new owed hy hpy

theorem freed_shapes (s : State) : s.freed.shapes = s.shapes := by
  funext i
  rw [State.shapes, freed_bands_get, Option.map_map, State.shapes]
  exact congrArg (fun f => Option.map f s.bands[i]) (funext fun b => dropOwed_shape b)

theorem freed_owedAt (s : State) (i : BandId) : s.freed.owedAt i = none := by
  rw [State.owedAt, freed_bands_get]
  cases hb : s.bands[i] with
  | none => rfl
  | some b => cases hp : b.pending <;> simp [Band.freed, Band.dropOwed, hp]

theorem freed_applied_replies (s : State) : s.freed.applyIdleChanges.replies = [] := by
  obtain ⟨ok, hok, _, htags⟩ := inOrder_applyPending_replies allBands (List.nodup_finRange 32) s.freed
  have hnone : allBands.filterMap s.freed.owedAt = [] := List.filterMap_eq_nil_iff.2 fun i _ => freed_owedAt s i
  rw [hnone] at htags
  rw [List.map_eq_nil_iff.1 htags] at hok
  exact hok

/-- No slot owes a reply. -/
def State.SlotsPaid (s : State) : Prop :=
  ∀ (k : SlotId) (m : Material) (a : Account), (s.slots[k]).state = .purging m a → a.owed = none

theorem freed_slotsPaid (s : State) : s.freed.SlotsPaid := by
  intro k m a h
  rw [freed_slots_get, KeySlot.freed] at h
  cases hs : (s.slots[k]).state with
  | purging m' a' =>
    rw [hs] at h
    cases h
    rfl
  | empty => rw [hs] at h; cases h
  | loading l => rw [hs] at h; cases h
  | ready m' => rw [hs] at h; cases h
  | poisoned m' => rw [hs] at h; cases h

theorem endPurge_of_paid {s : State} (h : s.SlotsPaid) (k : SlotId) :
    (s.endPurge k).SlotsPaid ∧ (s.endPurge k).replies = s.replies := by
  cases hp : (s.slots[k]).isPurging with
  | false =>
    rw [endPurge_of_idle hp]
    exact ⟨h, rfl⟩
  | true =>
    obtain ⟨m, a, hs⟩ := (isPurging_iff _).1 hp
    refine ⟨fun j m' a' hj => ?_, ?_⟩
    · by_cases hjk : j = k
      · subst hjk
        rw [endPurge_slots_self hp] at hj
        cases hj
      · rw [endPurge_slots_ne s hjk] at hj
        exact h j m' a' hj
    · rw [endPurge_replies hs, h k m a hs]
      exact List.append_nil _

theorem drainIdle_of_paid {s : State} (h : s.SlotsPaid) (except : Option SlotId) :
    (s.drainIdle except).replies = s.replies :=
  (inAnyOrder_induct (P := fun u => u.SlotsPaid ∧ u.replies = s.replies) _ _ _ (fun _ _ ht => ht)
    (fun k _ _ ⟨hpaid, hsame⟩ => ⟨(endPurge_of_paid hpaid k).1, (endPurge_of_paid hpaid k).2.trans hsame⟩) ⟨h, rfl⟩).2

/-- What a link reset leaves, before the notice unit is cleared. -/
def State.drained (s : State) : State := s.freed.applyIdleChanges.drainIdle none

theorem linkReset_eq (s : State) : { s with linkrstLine := true }.linkReset = s.drained.clearNotices := rfl

theorem drained_bands (s : State) : s.drained.bands = s.freed.applyIdleChanges.bands := drainIdle_bands _ none

theorem drained_replies (s : State) : s.drained.replies = [] := by
  refine (drainIdle_of_paid (fun k m a h => ?_) none).trans (freed_applied_replies s)
  rw [applyIdleChanges_slots] at h
  exact freed_slotsPaid s k m a h

theorem drained_outside (s : State) : s.drained.outside = s.freed.outside :=
  (drainIdle_outside _ none).trans (applyIdleChanges_outside s.freed)

theorem drained_transfers (s : State) : s.drained.transfers = s.freed.transfers :=
  (drainIdle_transfers _ none).trans (applyIdleChanges_transfers s.freed)

theorem dropOwed_isPurging (v : KeySlot) : v.freed.isPurging = v.isPurging := by
  obtain ⟨generation, holders, state⟩ := v
  cases state <;> rfl

theorem drained_slots_get (s : State) (k : SlotId) : s.drained.slots[k] = {
    generation := (s.slots[k]).generation, holders := 0
    state := match (s.slots[k]).state with
      | .empty => .empty
      | .loading l => .loading { l with owed := none }
      | .ready m => .ready m
      | .purging _ _ => .empty
      | .poisoned m => .poisoned m } := by
  have hfreed : s.freed.applyIdleChanges.slots[k] = (s.slots[k]).freed := by
    rw [applyIdleChanges_slots, freed_slots_get]
  cases hp : (s.slots[k]).isPurging with
  | true =>
    have hended := (drainIdle_ended (except := none) (by rw [hfreed, dropOwed_isPurging]; exact hp)
      (by rw [hfreed]; rfl) nofun).1
    obtain ⟨m, a, hs⟩ := (isPurging_iff _).1 hp
    rw [State.drained, hended, hfreed, hs]
    rfl
  | false =>
    have hkept := drainIdle_slots_kept (except := none) (s := s.freed.applyIdleChanges) (k := k)
      (.inl (by rw [hfreed, dropOwed_isPurging]; exact hp))
    rw [State.drained, hkept, hfreed, KeySlot.freed]
    cases hs : (s.slots[k]).state with
    | purging m a =>
      rw [KeySlot.isPurging, hs] at hp
      cases hp
    | empty => rfl
    | loading l => rfl
    | ready m => rfl
    | poisoned m => rfl

theorem drained_samePeriods (s : State) : s.SamePeriods s.drained :=
  (State.SamePeriods.trans (t := s.freed) (samePeriods_of_classes rfl) (applyIdleChanges_samePeriods s.freed)).trans
    (drainIdle_samePeriods _ none)

theorem drained_class {s : State} {k : NoticeClass} (hpurge : k = .purge → ∀ x : SlotId, (s.slots[x]).isPurging = false)
    (hmigrate : k = .migrate → ∀ (j : BandId) (x : Band), s.bands[j] = some x → x.pending = none) :
    s.drained.classOf k = s.classOf k := by
  have happly : s.freed.applyIdleChanges.classOf k = s.freed.classOf k := by
    by_cases hk : k = .migrate
    · rw [applyIdleChanges_of_unstaged (freed_unstaged (hmigrate hk))]
    · exact (applyIdleChanges_sameClass hk s.freed).1
  refine Eq.trans ?_ (happly.trans rfl)
  by_cases hk : k = .purge
  · refine congrArg (State.classOf · k) (drainIdle_of_none fun x hx _ => ?_)
    rw [applyIdleChanges_slots, freed_slots_get, dropOwed_isPurging, hpurge hk x] at hx
    cases hx
  · exact (drainIdle_sameClass hk _ none).1

theorem clearNotices_classOf (s : State) (k : NoticeClass) :
    s.clearNotices.classOf k = { s.classOf k with flag := false, counter := 0 } := Vector.getElem_map ..

/-- Settles O49. -/
theorem linkResetEmptiesTheLink : Obligations.LinkResetEmptiesTheLink := by
  refine ⟨fun s => ⟨fun h => ?_, fun h hp => ?_⟩, fun s hl hp => ?_⟩
  · exact congrArg Host.Outcome.next (if_pos h)
  · exact congrArg Host.Outcome.next ((if_neg (by rw [h]; decide)).trans (if_pos hp))
  have hexec : exec .linkrstAssert s = .next s.drained.clearNotices :=
    congrArg Host.Outcome.next ((if_neg (by rw [hl]; decide)).trans ((if_neg (by rw [hp]; decide)).trans (linkReset_eq s)))
  have hidle := freed_allIdle s
  have hbands := drained_bands s
  have hslots := drained_slots_get s
  have hreplies := drained_replies s
  obtain ⟨hlines, hcontrol, hwraps, hlatched, hdiscards, hreservations⟩ := frame_of_outside (drained_outside s)
  obtain ⟨hporst, hlinkrst, hplockLine, hpfailLine, hplock, hpfail, hfo, hbo, hfh, hbh, hfs, hbs, hpend⟩ := hlines
  obtain ⟨hfq, hdone, hbq, hend⟩ := queues_of_transfers (drained_transfers s)
  have hcontexts := contexts_of_transfers (drained_transfers s)
  have hperiods := drained_samePeriods s
  have hclass := fun (k : NoticeClass) => drained_class (s := s) (k := k)
  have hclear := clearNotices_classOf s.drained
  generalize s.drained = d at hexec hbands hslots hreplies hporst hlinkrst hplockLine hpfailLine hplock hpfail hfo hbo hfh hbh hfs hbs hpend hcontrol hwraps hlatched hdiscards hreservations hfq hdone hbq hend hcontexts hperiods hclass hclear
  refine ⟨_, hexec, hlinkrst, hfh, hbh, hfq, hbq, hreplies, hreservations, hfs, hbs, fun id => ⟨?free, ?donePlace, ?endPlace⟩,
    fun i b hb => ?idle, fun i b hb hpb hkeep => ?kept, fun i hi => ?unused, ?staged, fun i b new owed hb hpb => ?bandSet,
    fun hlay i b target generation owed hb hpb => ?migrates, fun i b target generation owed w hb hpb h hw => ?starts,
    hslots, fun k => ?notices, hlatched, hplock, hpfail, hcontrol, hwraps, hdiscards, hporst.trans hp, hplockLine,
    hpfailLine, hfo, hbo, hpend⟩
  case free => exact (congrArg (fun v : Vector (Option Context) 64 => v[id]) hcontexts).trans (Vector.getElem_replicate _)
  case donePlace => exact (congrArg (fun v : Vector Place 64 => v[id]) hdone).trans (Vector.getElem_replicate _)
  case endPlace => exact (congrArg (fun v : Vector Place 64 => v[id]) hend).trans (Vector.getElem_replicate _)
  case idle =>
    change d.bands[i] = some b at hb
    rw [hbands] at hb
    exact hidle.applyIdleChanges hb
  case kept =>
    have hfreed := freed_band hb
    rw [Band.freed_of_unstaged hpb] at hfreed
    change d.bands[i] = _
    rw [hbands]
    exact applyIdleChanges_get hfreed hpb (hkeep.imp_right (.imp_right freed_unstaged))
  case unused =>
    change d.bands[i] = none
    rw [hbands]
    exact inOrder_applyPending_none allBands (by rw [freed_bands_get, hi]; rfl)
  case staged =>
    refine hbands.trans (applyIdleChanges_bands_of_bare (fun i b hb => ?_) hidle (bare_eq_iff.2 ⟨fun i => ?_, rfl⟩))
    · have hget := (Vector.getElem_map ..).symm.trans hb
      obtain ⟨x, _, rfl⟩ := Option.map_eq_some_iff.1 hget
      exact ⟨rfl, rfl⟩
    · rw [freed_bands_get]
      refine Eq.trans ?_ (congrArg (Option.map Band.dropOwed) (Vector.getElem_map ..).symm)
      rw [Option.map_map, Option.map_map]
      refine congrArg (fun f => Option.map f s.bands[i]) (funext fun b => ?_)
      exact dropOwed_eq_iff.2 ⟨rfl, rfl, rfl, rfl, by cases hb : b.pending <;> simp [Band.freed, Band.dropOwed, hb]⟩
  case bandSet =>
    change d.bands[i] = _
    rw [hbands]
    have hset := applyIdleChanges_bandSet hidle (freed_band hb) (Band.freed_pending hpb)
    exact hset
  case migrates =>
    have hmig := applyIdleChanges_migrates hidle (hlay.of_shapes (freed_shapes s)) (freed_band hb)
      (Band.freed_pending hpb)
    have hplace : d.clearNotices.placeFor = s.freed.applyIdleChanges.placeFor := placeFor_of_bands hbands
    unfold State.Migrates at hmig
    rw [← hbands, ← hplace] at hmig
    exact hmig
  case starts =>
    have hplace : s.freed.placeFor = s.placeFor := placeFor_of_locks (locks_of_extents (extents_of_shapes (freed_shapes s)))
    change d.bands[i] = _
    rw [hbands]
    exact applyIdleChanges_migrateStart hidle (freed_band hb)
      (Band.freed_pending hpb) (h.imp_right freed_noBandSet)
      (by rw [hplace]; exact hw)
  case notices =>
    rw [hclear k]
    refine ⟨rfl, rfl, hperiods k, Vector.getElem_replicate _, fun hpurge hmigrate => ?_⟩
    exact congrArg (·.latest) (hclass k hpurge hmigrate)

end Sys2Proof.Machine

/-! PROOFS. The test of the held heads (R83, R146, R152): what it takes, that no ready frame is left standing, and the
takings that give a held frame no room. -/

namespace Sys2Proof.Machine

/-! ### Trying a head -/

section Tries

variable {s : State} {lane : InLane}

theorem setHead_headOf_self (s : State) (lane : InLane) (f : Option Instr) : (s.setHead lane f).headOf lane = f := by
  cases lane <;> rfl

theorem setHead_headOf_ne (s : State) {lane other : InLane} (h : other ≠ lane) (f : Option Instr) :
    (s.setHead lane f).headOf other = s.headOf other := by
  cases lane <;> cases other
  · exact absurd rfl h
  · rfl
  · rfl
  · exact absurd rfl h

theorem takeFrame_headOf (f : Instr) (s : State) (lane : InLane) : (takeFrame f s).headOf lane = s.headOf lane := by
  obtain ⟨hf, hb, _⟩ := heads_of_board (takeFrame_board f s)
  cases lane
  · exact hf
  · exact hb

theorem headReady_of_none (h : s.headOf lane = none) : s.headReady lane = false := by
  rw [State.headReady, h]

theorem headReady_of_some {f : Instr} (h : s.headOf lane = some f) : s.headReady lane = s.takeable f := by
  rw [State.headReady, h]

theorem tryHead_of_unready (h : s.headReady lane = false) : s.tryHead lane = s := by
  unfold State.tryHead
  unfold State.headReady at h
  split
  · rfl
  · rename_i f hf
    rw [hf] at h
    dsimp only at h
    rw [h]
    rfl

theorem tryHead_of_some {f : Instr} (h : s.headOf lane = some f) :
    s.tryHead lane = if s.takeable f then takeFrame f (s.setHead lane none) else s := by
  rw [State.tryHead, h]

theorem tryHead_of_ready {f : Instr} (h : s.headOf lane = some f) (ht : s.takeable f = true) :
    s.tryHead lane = takeFrame f (s.setHead lane none) := by
  rw [tryHead_of_some h, if_pos ht]

theorem ready_cases (h : s.headReady lane = true) : ∃ f, s.headOf lane = some f ∧ s.takeable f = true := by
  unfold State.headReady at h
  cases hf : s.headOf lane with
  | none => rw [hf] at h; cases h
  | some f => rw [hf] at h; exact ⟨f, rfl, h⟩

/-- A head that was ready is empty after its try. -/
theorem tryHead_empties (h : s.headReady lane = true) : (s.tryHead lane).headOf lane = none := by
  obtain ⟨f, hf, ht⟩ := ready_cases h
  rw [tryHead_of_ready hf ht, takeFrame_headOf, setHead_headOf_self]

theorem tryHead_unready (s : State) (lane : InLane) : (s.tryHead lane).headReady lane = false := by
  cases h : s.headReady lane with
  | true => exact headReady_of_none (tryHead_empties h)
  | false =>
    rw [tryHead_of_unready h]
    exact h

theorem tryHead_headOf_ne {other : InLane} (h : other ≠ lane) : (s.tryHead lane).headOf other = s.headOf other := by
  cases hr : s.headReady lane with
  | false => rw [tryHead_of_unready hr]
  | true =>
    obtain ⟨f, hf, ht⟩ := ready_cases hr
    rw [tryHead_of_ready hf ht, takeFrame_headOf, setHead_headOf_ne s h]

/-- One head empty, the other tried: nothing is ready. -/
theorem tryHead_settles {other : InLane} (hne : other ≠ lane) (h : s.headOf other = none) : (s.tryHead lane).Settled := by
  intro l
  by_cases hl : l = lane
  · rw [hl]
    exact tryHead_unready s lane
  · have hlo : l = other := by
      cases l <;> cases lane <;> cases other <;> simp_all
    exact headReady_of_none (by rw [hlo, tryHead_headOf_ne hne]; exact h)

end Tries

/-! ### The test -/

theorem inAnyOrder_pair {α : Type} (f : α → State → State) (x y : α) (s : State) :
    inAnyOrder f [x, y] s = f y (f x { s with choices := s.choices + 2 }) ∨
    inAnyOrder f [x, y] s = f x (f y { s with choices := s.choices + 2 }) := by
  have hperm : permuted s.choices [x, y] = [x, y] ∨ permuted s.choices [x, y] = [y, x] := by
    have hp := permuted_perm s.choices [x, y]
    obtain h | h := List.perm_pair.1 hp
    · exact .inl h
    · exact .inr h
  obtain h | h := hperm
  · refine .inl ?_
    rw [inAnyOrder, h]
    rfl
  · refine .inr ?_
    rw [inAnyOrder, h]
    rfl

theorem settle_of_settled {s : State} (h : s.Settled) : s.settle = s := by
  have hf := h .front
  have hb := h .back
  rw [State.settle, hf, Bool.false_and, if_neg Bool.false_ne_true, tryHead_of_unready hf, tryHead_of_unready hb,
    tryHead_of_unready hf]

theorem takeable_choices (s : State) (n : Nat) (f : Instr) : { s with choices := n }.takeable f = s.takeable f := by
  cases f <;> rfl

theorem headReady_choices (s : State) (n : Nat) (lane : InLane) :
    { s with choices := n }.headReady lane = s.headReady lane := by
  have hhead : { s with choices := n }.headOf lane = s.headOf lane := by cases lane <;> rfl
  cases h : s.headOf lane with
  | none => rw [headReady_of_none h, headReady_of_none (hhead.trans h)]
  | some f => rw [headReady_of_some h, headReady_of_some (hhead.trans h), takeable_choices]

theorem settle_settled (s : State) : s.settle.Settled := by
  unfold State.settle
  split
  · rename_i h
    obtain ⟨hf, hb⟩ := Bool.and_eq_true_iff.1 h
    obtain h | h := inAnyOrder_pair (fun lane t => State.tryHead t lane) .front .back s
    · rw [h]
      exact tryHead_settles (other := .front) nofun (tryHead_empties (by rw [headReady_choices]; exact hf))
    · rw [h]
      exact tryHead_settles (other := .back) nofun (tryHead_empties (by rw [headReady_choices]; exact hb))
  · rename_i h
    cases hf : s.headReady .front with
    | true =>
      have hempty := tryHead_empties hf
      have hback := tryHead_settles (lane := .back) (other := .front) nofun hempty
      rw [tryHead_of_unready (hback .front)]
      exact hback
    | false =>
      rw [tryHead_of_unready hf]
      cases hb : s.headReady .back with
      | true => exact tryHead_settles (other := .back) nofun (tryHead_empties hb)
      | false =>
        rw [tryHead_of_unready hb, tryHead_of_unready hf]
        intro lane
        cases lane
        · exact hf
        · exact hb

/-! ### What the test takes -/

section Takes

variable {s : State} {f g : Instr}

theorem settle_of_unready (h : ¬(s.headReady .front = true ∧ s.headReady .back = true)) :
    s.settle = ((s.tryHead .front).tryHead .back).tryHead .front := by
  rw [State.settle, if_neg (by rw [Bool.and_eq_true]; exact h)]

theorem settle_of_front (hf : s.frontHead = some f) (hb : s.backHead = none) (ht : s.takeable f = true) :
    s.settle = takeFrame f { s with frontHead := none } := by
  have hready : s.headReady .front = true := (headReady_of_some (lane := .front) hf).trans ht
  have hback : s.headReady .back = false := headReady_of_none hb
  have hempty : (s.tryHead .front).headOf .back = none :=
    (tryHead_headOf_ne (s := s) (lane := .front) (other := .back) nofun).trans hb
  rw [settle_of_unready (by rw [hback]; exact fun h => nomatch h.2), tryHead_of_unready (headReady_of_none hempty),
    tryHead_of_unready (tryHead_unready s .front)]
  exact tryHead_of_ready (lane := .front) hf ht

theorem settle_of_back (hf : s.frontHead = none) (hb : s.backHead = some g) (ht : s.takeable g = true) :
    s.settle = takeFrame g { s with backHead := none } := by
  have hfront : s.headReady .front = false := headReady_of_none hf
  have hempty : (s.tryHead .back).headOf .front = none :=
    (tryHead_headOf_ne (s := s) (lane := .back) (other := .front) nofun).trans hf
  rw [settle_of_unready (by rw [hfront]; exact fun h => nomatch h.1), tryHead_of_unready hfront,
    tryHead_of_unready (headReady_of_none hempty)]
  exact tryHead_of_ready (lane := .back) hb ht

/-- The other head, tried after the first was taken. -/
theorem tryHead_after {u : State} {lane other : InLane} (hne : other ≠ lane) (ho : u.headOf other = some g) :
    (takeFrame f (u.setHead lane none)).tryHead other = if (takeFrame f (u.setHead lane none)).takeable g then
      takeFrame g ((takeFrame f (u.setHead lane none)).setHead other none) else takeFrame f (u.setHead lane none) :=
  tryHead_of_some ((takeFrame_headOf f _ other).trans ((setHead_headOf_ne u hne none).trans ho))

theorem settle_of_front_first (hf : s.frontHead = some f) (hb : s.backHead = some g) (ht : s.takeable f = true)
    (hw : s.takeable g = false) {r : State} (hr : r = takeFrame f { s with frontHead := none }) :
    s.settle = if r.takeable g then takeFrame g { r with backHead := none } else r := by
  have hready : s.headReady .front = true := (headReady_of_some (lane := .front) hf).trans ht
  have hback : s.headReady .back = false := (headReady_of_some (lane := .back) hb).trans hw
  have hlast : ((s.tryHead .front).tryHead .back).headOf .front = none :=
    (tryHead_headOf_ne (s := s.tryHead .front) (lane := .back) (other := .front) nofun).trans (tryHead_empties hready)
  rw [settle_of_unready (by rw [hback]; exact fun h => nomatch h.2),
    tryHead_of_unready (s := (s.tryHead .front).tryHead .back) (headReady_of_none hlast),
    tryHead_of_ready (lane := .front) hf ht, tryHead_after (lane := .front) (other := .back) nofun hb, hr]
  rfl

theorem settle_of_back_first (hf : s.frontHead = some f) (hb : s.backHead = some g) (hw : s.takeable f = false)
    (ht : s.takeable g = true) {r : State} (hr : r = takeFrame g { s with backHead := none }) :
    s.settle = if r.takeable f then takeFrame f { r with frontHead := none } else r := by
  have hfront : s.headReady .front = false := (headReady_of_some (lane := .front) hf).trans hw
  rw [settle_of_unready (by rw [hfront]; exact fun h => nomatch h.1), tryHead_of_unready hfront,
    tryHead_of_ready (lane := .back) hb ht, tryHead_after (lane := .back) (other := .front) nofun hf, hr]
  rfl

/-- Both are ready: either may be first (R83, R152; log 6). -/
theorem settle_of_both (hf : s.frontHead = some f) (hb : s.backHead = some g) (ht : s.takeable f = true)
    (ht' : s.takeable g = true) {u r q : State} (hu : u = { s with choices := s.choices + 2 })
    (hr : r = takeFrame f { u with frontHead := none }) (hq : q = takeFrame g { u with backHead := none }) :
    (s.settle = if r.takeable g then takeFrame g { r with backHead := none } else r) ∨
    (s.settle = if q.takeable f then takeFrame f { q with frontHead := none } else q) := by
  have hready : (s.headReady .front && s.headReady .back) = true := by
    rw [headReady_of_some (lane := .front) hf, headReady_of_some (lane := .back) hb, ht, ht']
    rfl
  have hfu : u.headOf .front = some f := by rw [hu]; exact hf
  have hbu : u.headOf .back = some g := by rw [hu]; exact hb
  rw [State.settle, if_pos hready]
  obtain h | h := inAnyOrder_pair (fun lane t => State.tryHead t lane) .front .back s
  · refine .inl (h.trans ?_)
    rw [← hu, tryHead_of_ready hfu (by rw [hu, takeable_choices]; exact ht),
      tryHead_after (lane := .front) (other := .back) nofun hbu, hr]
    rfl
  · refine .inr (h.trans ?_)
    rw [← hu, tryHead_of_ready hbu (by rw [hu, takeable_choices]; exact ht'),
      tryHead_after (lane := .back) (other := .front) nofun hfu, hq]
    rfl

end Takes

/-! ### Takings that give a held frame no room -/

/-- The heads stay, and whatever could be taken afterwards could be taken before. -/
structure State.Tighter (s t : State) : Prop where
  heads : t.frontHead = s.frontHead ∧ t.backHead = s.backHead
  takeable : ∀ g, t.takeable g = true → s.takeable g = true

theorem State.Tighter.refl (s : State) : s.Tighter s := ⟨⟨rfl, rfl⟩, fun _ h => h⟩

theorem State.Tighter.settled {s t : State} (h : s.Tighter t) (hs : s.Settled) : t.Settled := by
  intro lane
  have hhead : t.headOf lane = s.headOf lane := by
    cases lane
    · exact h.heads.1
    · exact h.heads.2
  cases hf : s.headOf lane with
  | none => exact headReady_of_none (hhead.trans hf)
  | some f =>
    have hwait := (headReady_of_some hf).symm.trans (hs lane)
    rw [headReady_of_some (hhead.trans hf)]
    exact Bool.eq_false_iff.2 fun ht => Bool.false_ne_true (hwait.symm.trans (h.takeable f ht))

/-- The items that the conditions of a taking read, in the words of `takeable`. -/
theorem tighter_of {s t : State} (hheads : t.frontHead = s.frontHead ∧ t.backHead = s.backHead)
    (hfront : t.frontPlaceFree = true → s.frontPlaceFree = true) (hback : t.backPlaceFree = true → s.backPlaceFree = true)
    (hdone : ∀ id : CtxId, s.donePlaces[id] = .filled → t.donePlaces[id] = .filled)
    (hend : ∀ id : CtxId, s.endPlaces[id] = .filled → t.endPlaces[id] = .filled)
    (hbank : ∀ lane ctx len, s.needsBusyBank lane ctx len = true → t.needsBusyBank lane ctx len = true)
    (hres : s.reservations ≤ t.reservations) : s.Tighter t := by
  have hrequest : t.reservationFree = true → s.reservationFree = true := fun h =>
    decide_eq_true (Nat.lt_of_le_of_lt hres (of_decide_eq_true h))
  refine ⟨hheads, fun g h => ?_⟩
  cases g with
  | openFrame ctx _ _ _ _ _ =>
    change t.openTakeable ctx = true at h
    change s.openTakeable ctx = true
    unfold State.openTakeable at h ⊢
    cases hid : ctxOf ctx with
    | none => rfl
    | some id =>
      rw [hid] at h
      dsimp only at h ⊢
      simp only [Bool.and_eq_true, bne_iff_ne, ne_eq] at h ⊢
      obtain ⟨⟨hf, hd⟩, he⟩ := h
      exact ⟨⟨hfront hf, fun hfill => hd (hdone id hfill)⟩, fun hfill => he (hend id hfill)⟩
  | data lane ctx bytes =>
    change t.dataTakeable lane ctx bytes.length = true at h
    change s.dataTakeable lane ctx bytes.length = true
    unfold State.dataTakeable at h ⊢
    rw [Bool.or_eq_true, Bool.and_eq_true, Bool.not_eq_true'] at h ⊢
    refine h.imp_right fun ⟨hp, hn⟩ => ⟨?_, ?_⟩
    · cases lane
      · exact hback hp
      · exact hfront hp
    · exact Bool.eq_false_iff.2 fun hbusy => Bool.false_ne_true (hn.symm.trans (hbank _ _ _ hbusy))
  | abort => rfl
  | malformedFrame => rfl
  | _ => exact hrequest h

/-- A taking that leaves the contexts, the queues, the watermarks and the running loads. -/
theorem tighter_of_same {s t : State} (hheads : t.frontHead = s.frontHead ∧ t.backHead = s.backHead)
    (htransfers : t.transfers = s.transfers)
    (hmarks : ∀ i : BandId, (t.bands[i]).bind (·.migration) = (s.bands[i]).bind (·.migration))
    (hloading : ∀ k : SlotId, (s.slots[k]).isLoading = true → (t.slots[k]).isLoading = true)
    (hres : s.reservations ≤ t.reservations) : s.Tighter t := by
  obtain ⟨hfq, hdone, hbq, hend⟩ := queues_of_transfers htransfers
  have hslot : ∀ (c : Context) (lba : Nat), t.slotFor c lba = s.slotFor c lba := fun c lba => by
    unfold State.slotFor State.choose
    simp only [hmarks]
  have hbusy : ∀ bank, s.bankBusy bank = true → t.bankBusy bank = true := fun bank h => by
    obtain ⟨k, hk, hand⟩ := List.any_eq_true.1 h
    obtain ⟨hbank, hload⟩ := Bool.and_eq_true_iff.1 hand
    exact List.any_eq_true.2 ⟨k, hk, Bool.and_eq_true_iff.2 ⟨hbank, hloading k hload⟩⟩
  refine tighter_of hheads (fun h => ?_) (fun h => ?_) (fun id h => ?_) (fun id h => ?_) (fun lane ctx len h => ?_) hres
  · rw [State.frontPlaceFree, hfq] at h
    exact h
  · rw [State.backPlaceFree, hbq] at h
    exact h
  · rw [hdone]
    exact h
  · rw [hend]
    exact h
  · unfold State.needsBusyBank at h ⊢
    rw [contexts_of_transfers htransfers]
    split at h
    · cases h
    · obtain ⟨hdir, hany⟩ := Bool.and_eq_true_iff.1 h
      obtain ⟨lba, hlba, hbank⟩ := List.any_eq_true.1 hany
      refine Bool.and_eq_true_iff.2 ⟨hdir, List.any_eq_true.2 ⟨lba, hlba, ?_⟩⟩
      rw [hslot]
      exact hbusy _ hbank

end Sys2Proof.Machine

/-! PROOFS. The requests and frames whose taking gives a held frame no room, and that no ready head frame is left
standing (R83, R144, R146, R152, R153, R154). -/

namespace Sys2Proof.Machine

/-! ### Requests that leave what a taking waits for -/

/-- The contexts, the queues, the watermarks and the running loads stay, and no reservation becomes free. -/
structure State.Leaves (s t : State) : Prop where
  transfers : t.transfers = s.transfers
  marks : ∀ i : BandId, (t.bands[i]).bind (·.migration) = (s.bands[i]).bind (·.migration)
  loading : ∀ k : SlotId, (s.slots[k]).isLoading = true → (t.slots[k]).isLoading = true
  reservations : s.reservations ≤ t.reservations

theorem State.Leaves.refl (s : State) : s.Leaves s := ⟨rfl, fun _ => rfl, fun _ h => h, Nat.le_refl _⟩

theorem State.Leaves.trans {s t u : State} (h : s.Leaves t) (h' : t.Leaves u) : s.Leaves u :=
  ⟨h'.transfers.trans h.transfers, fun i => (h'.marks i).trans (h.marks i), fun k hk => h'.loading k (h.loading k hk),
    h.reservations.trans h'.reservations⟩

theorem leaves_reserve (s : State) : s.Leaves s.reserve := ⟨rfl, fun _ => rfl, fun _ h => h, Nat.le_succ _⟩

theorem State.Leaves.reply {s t : State} (h : s.Leaves t) (tag code : Byte) (status : ReplyStatus) (result : Result) :
    s.Leaves (t.reply tag code status result) := ⟨h.transfers, h.marks, h.loading, h.reservations⟩

theorem leaves_answer (s : State) (tag code : Byte) (status : ReplyStatus) (result : Result) :
    s.Leaves (s.reserve.reply tag code status result) := (leaves_reserve s).reply tag code status result

/-- Where the tables that takings read stay. -/
theorem leaves_of_tables {s t : State} (h : t.transfers = s.transfers) (hb : t.bands = s.bands) (hs : t.slots = s.slots)
    (hr : t.reservations = s.reservations) : s.Leaves t :=
  ⟨h, fun i => by rw [hb], fun k hk => by rw [hs]; exact hk, Nat.le_of_eq hr.symm⟩

/-- An answer beside which only items change that no taking waits for. -/
theorem leaves_of_reserved {s t : State} (h : t.transfers = s.transfers) (hb : t.bands = s.bands) (hs : t.slots = s.slots)
    (hr : t.reservations = s.reservations + 1) : s.Leaves t :=
  ⟨h, fun i => by rw [hb], fun k hk => by rw [hs]; exact hk, by rw [hr]; exact Nat.le_succ _⟩

theorem report_leaves (s : State) (d : Detail) : s.Leaves (s.report d) :=
  leaves_of_tables (report_transfers s d) (report_bands s d) (report_slots s d) (congrArg State.reservations (report_outside s d) :)

theorem discard_leaves (s : State) (kind : DiscardKind) (ctx : Option CtxId) : s.Leaves (s.discard kind ctx) :=
  have hcount : s.Leaves { s with discards := raised s.discards } := leaves_of_tables rfl rfl rfl rfl
  hcount.trans (report_leaves { s with discards := raised s.discards } (.discard kind ctx (raised s.discards)))

theorem takeWrapLoad_leaves (tag : Byte) (body : Body WrapLoadFields) (s : State) : s.Leaves (takeWrapLoad tag body s) := by
  unfold takeWrapLoad
  dsimp only
  split
  · exact leaves_answer s _ _ _ _
  · split
    · exact leaves_answer s _ _ _ _
    · split
      · exact leaves_answer s _ _ _ _
      · exact leaves_of_reserved rfl rfl rfl rfl

theorem startLoad_leaves (s : State) (k : SlotId) (w : WrapId) (words : WrapWords) (blob : BitVec 576) (tag : Byte) :
    s.Leaves (s.startLoad k w words blob tag) := by
  refine ⟨rfl, fun _ => rfl, fun j hj => ?_, Nat.le_refl _⟩
  by_cases hjk : k = j
  · subst hjk
    rw [State.startLoad, setSlot_get_self]
    rfl
  · rw [State.startLoad, setSlot_get_ne s _ hjk]
    exact hj

theorem takeKeyLoad_leaves (tag : Byte) (body : Body KeyLoadFields) (s : State) : s.Leaves (takeKeyLoad tag body s) := by
  unfold takeKeyLoad
  dsimp only
  split
  · exact leaves_answer s _ _ _ _
  · split
    · split
      · exact leaves_answer s _ _ _ _
      · split
        · exact (leaves_reserve s).trans (startLoad_leaves _ _ _ _ _ _)
        · exact (leaves_reserve s).trans (startLoad_leaves _ _ _ _ _ _)
        · exact leaves_answer s _ _ _ _
    · exact leaves_answer s _ _ _ _

theorem takeQuerySlot_leaves (tag : Byte) (body : Body Byte) (s : State) : s.Leaves (takeQuerySlot tag body s) := by
  unfold takeQuerySlot
  dsimp only
  split
  · exact leaves_answer s _ _ _ _
  · split
    · exact leaves_answer s _ _ _ _
    · exact leaves_answer s _ _ _ _

theorem takeSetGrace_leaves (tag : Byte) (body : Body (BitVec 32)) (s : State) : s.Leaves (takeSetGrace tag body s) := by
  unfold takeSetGrace
  split
  · exact leaves_answer s _ _ _ _
  · exact leaves_of_reserved rfl rfl rfl rfl

/-- A band that gives its place to one with the same record. -/
theorem setBand_leaves {s : State} {i : BandId} {b b' : Band} (hb : s.bands[i] = some b) (h : b'.migration = b.migration) :
    s.Leaves (s.setBand i (some b')) := by
  refine ⟨rfl, fun j => ?_, fun _ hk => hk, Nat.le_refl _⟩
  by_cases hij : i = j
  · subst hij
    rw [setBand_get_self, hb]
    exact h
  · rw [setBand_get_ne s _ hij]

theorem takeBandLock_leaves (tag : Byte) (body : Body BandLockFields) (s : State) : s.Leaves (takeBandLock tag body s) := by
  unfold takeBandLock
  dsimp only
  split
  · exact leaves_answer s _ _ _ _
  · split
    · split
      · exact leaves_answer s _ _ _ _
      · rename_i b hb
        split
        · exact leaves_answer s _ _ _ _
        · refine State.Leaves.reply ?_ _ _ _ _
          exact (leaves_reserve s).trans (setBand_leaves hb rfl)
    · exact leaves_answer s _ _ _ _

theorem takeQueryBand_leaves (tag : Byte) (body : Body Byte) (s : State) : s.Leaves (takeQueryBand tag body s) := by
  unfold takeQueryBand
  dsimp only
  split
  · exact leaves_answer s _ _ _ _
  · split
    · exact leaves_answer s _ _ _ _
    · exact leaves_answer s _ _ _ _

theorem takeTripClear_leaves (tag : Byte) (body : Body Byte) (s : State) : s.Leaves (takeTripClear tag body s) := by
  unfold takeTripClear
  split
  · exact leaves_answer s _ _ _ _
  · split
    · exact leaves_answer s _ _ _ _
    · split
      · exact leaves_answer s _ _ _ _
      · exact leaves_of_reserved rfl rfl rfl rfl

theorem takeNoticePeriod_leaves (tag : Byte) (body : Body NoticePeriodFields) (s : State) :
    s.Leaves (takeNoticePeriod tag body s) := by
  unfold takeNoticePeriod
  dsimp only
  split
  · exact leaves_answer s _ _ _ _
  · split
    · exact leaves_answer s _ _ _ _
    · exact leaves_of_reserved rfl rfl rfl rfl

theorem acknowledge_leaves (s : State) (k : NoticeClass) : s.Leaves (s.acknowledge k) := by
  unfold State.acknowledge
  dsimp only
  split
  · exact .refl s
  · split
    · exact leaves_of_tables rfl rfl rfl rfl
    · split
      · exact leaves_of_tables rfl rfl rfl rfl
      · exact leaves_of_tables rfl rfl rfl rfl

theorem takeNoticeAck_leaves (tag : Byte) (body : Body Byte) (s : State) : s.Leaves (takeNoticeAck tag body s) := by
  unfold takeNoticeAck
  dsimp only
  split
  · exact leaves_answer s _ _ _ _
  · split
    · exact leaves_answer s _ _ _ _
    · refine State.Leaves.reply ?_ _ _ _ _
      exact inOrder_induct (P := fun t => s.Leaves t) _ _ _ (fun k _ t ht => ht.trans (acknowledge_leaves t k)) (leaves_reserve s)

theorem takeQueryContext_leaves (tag : Byte) (body : Body Byte) (s : State) : s.Leaves (takeQueryContext tag body s) := by
  unfold takeQueryContext
  dsimp only
  split
  · exact leaves_answer s _ _ _ _
  · split
    · exact leaves_answer s _ _ _ _
    · exact leaves_answer s _ _ _ _

theorem takeGoOnline_leaves (tag : Byte) (body : Body Unit) (s : State) : s.Leaves (takeGoOnline tag body s) := by
  unfold takeGoOnline
  dsimp only
  split
  · exact leaves_answer s _ _ _ _
  · split
    · exact leaves_answer s _ _ _ _
    · exact leaves_of_reserved rfl rfl rfl rfl

theorem takeTimeSet_leaves (tag : Byte) (body : Body (BitVec 32)) (s : State) : s.Leaves (takeTimeSet tag body s) := by
  cases body with
  | wrongLength _ => exact leaves_answer s _ _ _ _
  | fields v => exact leaves_of_reserved rfl rfl rfl rfl

theorem takeQueryStatus_leaves (tag : Byte) (body : Body Unit) (s : State) : s.Leaves (takeQueryStatus tag body s) := by
  cases body <;> exact leaves_answer s _ _ _ _

theorem takeFrame_tighter {s : State} {f : Instr} (h : s.Leaves (takeFrame f s)) : s.Tighter (takeFrame f s) := by
  obtain ⟨hf, hb, _⟩ := heads_of_board (takeFrame_board f s)
  exact tighter_of_same ⟨hf, hb⟩ h.transfers h.marks h.loading h.reservations

/-! ### OPEN -/

theorem appendFront_refusal_tighter (s : State) (id : CtxId) (status : TransferStatus) :
    s.Tighter (s.appendFront (.refusal id status)) := by
  refine tighter_of ⟨rfl, rfl⟩ (fun h => ?_) (fun h => h) (fun _ h => h) (fun _ h => h) (fun _ _ _ h => h) (Nat.le_refl _)
  have hlt := of_decide_eq_true h
  rw [State.appendFront, List.countP_append] at hlt
  exact decide_eq_true (Nat.lt_of_le_of_lt (Nat.le_add_right _ _) hlt)

/-- An accepted context takes its places and may need a busy bank; it frees nothing. -/
theorem acceptContext_tighter {s : State} {id : CtxId} (c : Context) (hfree : s.contexts[id] = none)
    (hdone : s.donePlaces[id] ≠ .filled) (hend : s.endPlaces[id] ≠ .filled) : s.Tighter (s.acceptContext id c) := by
  have hset : ∀ (v : Vector Place 64) (j : CtxId), v[id] ≠ .filled → v[j] = .filled → (v.set id .reserved)[j] = .filled :=
    fun v j hid hj => by
      have hne : j ≠ id := fun h => hid (h ▸ hj)
      exact (Vector.getElem_set_ne _ _ fun h => hne (Fin.ext h.symm)).trans hj
  have hmarks : ∀ i : BandId, ((s.acceptContext id c).bands[i]).bind (·.migration) = (s.bands[i]).bind (·.migration) :=
    fun i => by
      rw [acceptContext_bands_get]
      cases s.bands[i] with
      | none => rfl
      | some b =>
        rw [Option.map_some, Option.bind_some, Option.bind_some]
        split <;> rfl
  have hloading : ∀ k : SlotId, ((s.acceptContext id c).slots[k]).isLoading = (s.slots[k]).isLoading := fun k => by
    rw [acceptContext_slots_get]
    split <;> rfl
  have hslot : ∀ (x : Context) (lba : Nat), (s.acceptContext id c).slotFor x lba = s.slotFor x lba := fun x lba => by
    unfold State.slotFor State.choose
    simp only [hmarks]
  have hbusy : ∀ bank, (s.acceptContext id c).bankBusy bank = s.bankBusy bank := fun bank => by
    unfold State.bankBusy
    simp only [hloading]
  refine tighter_of ⟨rfl, rfl⟩ (fun h => h) (fun h => h) (fun j hj => hset _ j hdone hj) (fun j hj => ?_)
    (fun lane ctx len h => ?_) (Nat.le_refl _)
  · change (if c.dir = .write then s.endPlaces.set id .reserved else s.endPlaces)[j] = .filled
    split
    · exact hset _ j hend hj
    · exact hj
  · unfold State.needsBusyBank at h ⊢
    split at h
    · cases h
    · rename_i x hx
      obtain ⟨j, hj, hxj⟩ := Option.bind_eq_some_iff.1 hx
      have hne : j ≠ id := fun he => by rw [he, hfree] at hxj; cases hxj
      have hget : (s.acceptContext id c).contexts[j] = some x :=
        (setContext_get_ne s (some c) hne.symm).trans hxj
      rw [hj, Option.bind_some, hget]
      dsimp only
      simp only [hslot, hbusy]
      exact h

theorem takeOpen_tighter {s : State} {ctx : Byte} (ht : s.openTakeable ctx = true) (dir : Direction) (flags ns : Byte)
    (first : BitVec 48) (count : BitVec 16) : s.Tighter (takeOpen ctx dir flags ns first count s) := by
  unfold State.openTakeable at ht
  unfold takeOpen
  cases hid : ctxOf ctx with
  | none =>
    have h := discard_leaves s .malformed none
    exact tighter_of_same ⟨(congrArg State.frontHead (discard_board s .malformed none) :),
      (congrArg State.backHead (discard_board s .malformed none) :)⟩ h.transfers h.marks h.loading h.reservations
  | some id =>
    rw [hid] at ht
    simp only [Bool.and_eq_true, bne_iff_ne, ne_eq] at ht
    obtain ⟨⟨_, hdone⟩, hend⟩ := ht
    dsimp only
    split
    · exact appendFront_refusal_tighter s id _
    · rename_i hopen
      split
      · exact .refl s
      · exact acceptContext_tighter _ (contexts_of_openRefusal hopen) hdone hend

/-! ### Takings beside a held frame -/

/-- A frame that its lane does not hold is taken, and the held heads are tested (R144, R146). -/
theorem exec_taken {c : Instr} {s : State} (hs : s.Settled) (hc : isFrame c = true) (hl : s.holdLine (frameLane c) = false)
    (ht : s.takeable c = true) : exec c s = .next (takeFrame c s).settle := by
  have htested : s.presentAndSettle c = (takeFrame c s).settle := by
    rw [State.presentAndSettle, if_neg (by rw [hl]; decide), if_pos ht]
  have halone : s.Tighter (takeFrame c s) → s.present c = (takeFrame c s).settle := fun h => by
    rw [State.present, if_neg (by rw [hl]; decide), if_pos ht, settle_of_settled (h.settled hs)]
  cases c with
  | data | abort | keyPurge | purgeAll | bandSet | migrateStart | tripForce => exact congrArg Host.Outcome.next htested
  | openFrame => exact congrArg Host.Outcome.next (halone (takeOpen_tighter ht _ _ _ _ _))
  | malformedFrame => exact congrArg Host.Outcome.next (halone (takeFrame_tighter (discard_leaves s _ _)))
  | undefinedRequestCode => exact congrArg Host.Outcome.next (halone (takeFrame_tighter (leaves_answer s _ _ _ _)))
  | wrapLoad => exact congrArg Host.Outcome.next (halone (takeFrame_tighter (takeWrapLoad_leaves _ _ s)))
  | keyLoad => exact congrArg Host.Outcome.next (halone (takeFrame_tighter (takeKeyLoad_leaves _ _ s)))
  | querySlot => exact congrArg Host.Outcome.next (halone (takeFrame_tighter (takeQuerySlot_leaves _ _ s)))
  | setGrace => exact congrArg Host.Outcome.next (halone (takeFrame_tighter (takeSetGrace_leaves _ _ s)))
  | bandLock => exact congrArg Host.Outcome.next (halone (takeFrame_tighter (takeBandLock_leaves _ _ s)))
  | queryBand => exact congrArg Host.Outcome.next (halone (takeFrame_tighter (takeQueryBand_leaves _ _ s)))
  | tripClear => exact congrArg Host.Outcome.next (halone (takeFrame_tighter (takeTripClear_leaves _ _ s)))
  | noticePeriod => exact congrArg Host.Outcome.next (halone (takeFrame_tighter (takeNoticePeriod_leaves _ _ s)))
  | noticeAck => exact congrArg Host.Outcome.next (halone (takeFrame_tighter (takeNoticeAck_leaves _ _ s)))
  | queryContext => exact congrArg Host.Outcome.next (halone (takeFrame_tighter (takeQueryContext_leaves _ _ s)))
  | goOnline => exact congrArg Host.Outcome.next (halone (takeFrame_tighter (takeGoOnline_leaves _ _ s)))
  | timeSet => exact congrArg Host.Outcome.next (halone (takeFrame_tighter (takeTimeSet_leaves _ _ s)))
  | queryStatus => exact congrArg Host.Outcome.next (halone (takeFrame_tighter (takeQueryStatus_leaves _ _ s)))
  | _ => cases hc

/-- A frame whose conditions do not hold stands at the head of its lane, and nothing is ready. -/
theorem setHead_settled {s : State} (hs : s.Settled) {lane : InLane} {f : Instr} (h : s.takeable f = false) :
    (s.setHead lane (some f)).Settled := by
  intro l
  by_cases hl : l = lane
  · subst hl
    rw [headReady_of_some (setHead_headOf_self s l (some f)), takeable_setHead]
    exact h
  · have hhead := setHead_headOf_ne s hl (some f)
    cases hg : s.headOf l with
    | none => exact headReady_of_none (hhead.trans hg)
    | some g =>
      rw [headReady_of_some (hhead.trans hg), takeable_setHead, ← headReady_of_some hg]
      exact hs l

theorem exec_frame_settled {c : Instr} {s t : State} (hs : s.Settled) (hc : isFrame c = true) (h : exec c s = .next t) :
    t.Settled := by
  cases hl : s.holdLine (frameLane c) with
  | true =>
    obtain ⟨h1, h2⟩ := present_of_held hl
    obtain he | he := exec_frame hc s
    · rw [h1, h] at he
      cases he
      exact hs
    · rw [h2, h] at he
      cases he
      exact hs
  | false =>
    cases ht : s.takeable c with
    | true =>
      have he := exec_taken hs hc hl ht
      rw [h] at he
      cases he
      exact settle_settled _
    | false =>
      obtain ⟨h1, h2⟩ := present_of_waiting hl ht
      obtain he | he := exec_frame hc s
      · rw [h1, h] at he
        cases he
        exact setHead_settled hs ht
      · rw [h2, h] at he
        cases he
        exact setHead_settled hs ht

/-! ### Events beside a held frame -/

/-- A block's work on a state does not read its heads. -/
def HeadsFree (op : State → State) : Prop :=
  ∀ (s : State) (f b : Option Instr), op (s.withHeads f b) = (op s).withHeads f b

theorem HeadsFree.heads {op : State → State} (h : HeadsFree op) (s : State) :
    (op s).frontHead = s.frontHead ∧ (op s).backHead = s.backHead := by
  have hself := h s s.frontHead s.backHead
  rw [withHeads_self] at hself
  rw [hself]
  exact ⟨rfl, rfl⟩

theorem HeadsFree.stripped {op : State → State} (h : HeadsFree op) (s : State) :
    (op (s.withHeads none none)).withHeads s.frontHead s.backHead = op s ∧
    (op (s.withHeads none none)).settle = op (s.withHeads none none) := by
  obtain ⟨hf, hb⟩ := h.heads (s.withHeads none none)
  refine ⟨?_, settle_of_noHeads _ hf hb⟩
  rw [h]
  exact (withHeads_withHeads _ _ _ _ _).trans (by rw [← (h.heads s).1, ← (h.heads s).2]; rfl)

end Sys2Proof.Machine

/-! PROOFS. The events beside a held head frame (R83, R146, R152 to R154). -/

namespace Sys2Proof.Machine

/-! ### The work of each event -/

theorem completeLoad_headsFree (k : SlotId) : HeadsFree (·.completeLoad k) := fun s f b => completeLoad_withHeads s f b k

theorem tighter_of_tables {s t : State} (hheads : t.frontHead = s.frontHead ∧ t.backHead = s.backHead)
    (h : t.transfers = s.transfers) (hb : t.bands = s.bands) (hs : t.slots = s.slots)
    (hr : t.reservations = s.reservations) : s.Tighter t :=
  have hl := leaves_of_tables h hb hs hr
  tighter_of_same hheads hl.transfers hl.marks hl.loading hl.reservations

theorem endPurge_tighter (s : State) (k : SlotId) : s.Tighter (s.endPurge k) := by
  have hout := endPurge_outside s k
  refine tighter_of_same ⟨(congrArg State.frontHead hout :), (congrArg State.backHead hout :)⟩ (endPurge_transfers s k)
    (fun i => by rw [endPurge_bands]) (fun j hj => ?_) (Nat.le_of_eq (congrArg State.reservations hout :).symm)
  rw [endPurge_slots_get]
  split
  · rename_i h
    obtain ⟨rfl, hp⟩ := h
    obtain ⟨m, a, hs⟩ := (isPurging_iff _).1 hp
    rw [KeySlot.isLoading, hs] at hj
    cases hj
  · exact hj

theorem drainSlot_tighter (s : State) (k : SlotId) : s.Tighter (s.drainSlot k) := by
  unfold State.drainSlot
  split
  · exact endPurge_tighter s k
  · exact .refl s

theorem damage_tighter (s : State) (location : BitLocation) : s.Tighter (s.damage location) := by
  cases location with
  | wrap w i bit => exact tighter_of_tables ⟨rfl, rfl⟩ rfl rfl rfl rfl
  | key k i bit =>
    refine tighter_of_same ⟨rfl, rfl⟩ rfl (fun _ => rfl) (fun j hj => ?_) (Nat.le_refl _)
    by_cases hjk : k = j
    · subst hjk
      rw [State.damage, setSlot_get_self]
      unfold KeySlot.isLoading at hj ⊢
      cases hs : (s.slots[k]).state with
      | loading l => rfl
      | empty => rw [hs] at hj; cases hj
      | ready m => rw [hs] at hj; cases hj
      | purging m a => rw [hs] at hj; cases hj
      | poisoned m => rw [hs] at hj; cases hj
    · rw [State.damage, setSlot_get_ne s _ hjk]
      exact hj

theorem damage_headsFree (location : BitLocation) : HeadsFree (·.damage location) := fun s f b => by
  cases location <;> rfl

theorem startSending_tighter (s : State) (lane : OutLane) : s.Tighter (s.startSending lane) := by
  cases lane
  · unfold State.startSending
    dsimp only
    split
    · exact .refl s
    · exact tighter_of_tables ⟨rfl, rfl⟩ rfl rfl rfl rfl
  · unfold State.startSending
    dsimp only
    split
    · exact .refl s
    · exact tighter_of_tables ⟨rfl, rfl⟩ rfl rfl rfl rfl

theorem startSending_headsFree (lane : OutLane) : HeadsFree (·.startSending lane) := fun s f b => by
  cases lane
  · by_cases h : (s.frontSending.isSome || s.sendStopped .front) = true
    · have hsame : s.startSending .front = s := if_pos h
      exact (if_pos h).trans (congrArg (State.withHeads · f b) hsame.symm)
    · have hstart : s.startSending .front = { s with frontSending := s.frontChoice } := if_neg h
      exact (if_neg h).trans (congrArg (State.withHeads · f b) hstart.symm)
  · by_cases h : (s.backSending || s.sendStopped .back) = true
    · have hsame : s.startSending .back = s := if_pos h
      exact (if_pos h).trans (congrArg (State.withHeads · f b) hsame.symm)
    · have hstart : s.startSending .back = { s with backSending := !s.backQueue.isEmpty } := if_neg h
      exact (if_neg h).trans (congrArg (State.withHeads · f b) hstart.symm)

theorem setOutHold_tighter (s : State) (lane : OutLane) (level : Bool) : s.Tighter (s.setOutHold lane level) := by
  cases lane
  · exact tighter_of_tables ⟨rfl, rfl⟩ rfl rfl rfl rfl
  · exact tighter_of_tables ⟨rfl, rfl⟩ rfl rfl rfl rfl

theorem assertPfail_tighter (s : State) : s.Tighter s.assertPfail := by
  unfold State.assertPfail
  split
  · exact .refl s
  · split
    · exact tighter_of_tables ⟨rfl, rfl⟩ rfl rfl rfl rfl
    · have hline : s.Leaves { s with pfailLine := true, pfail := true } := leaves_of_tables rfl rfl rfl rfl
      have h := hline.trans (report_leaves { s with pfailLine := true, pfail := true } (.trip .pfail s.latched))
      have hout := report_outside { s with pfailLine := true, pfail := true } (.trip .pfail s.latched)
      exact tighter_of_same ⟨(congrArg State.frontHead hout :), (congrArg State.backHead hout :)⟩ h.transfers h.marks
        h.loading h.reservations

/-- What the completion of a sending does before the heads are tested (R152). -/
def State.sent (s : State) : OutLane → State
  | .front =>
    match s.frontSending with
    | none => s
    | some source => { s with frontSending := none }.freeFront source
  | .back => if s.backSending then { s with backSending := false }.popBack else s

theorem sent_headsFree (lane : OutLane) : HeadsFree (·.sent lane) := fun s f b => by
  cases lane
  · unfold State.sent
    dsimp only
    rw [withHeads_frontSending]
    cases s.frontSending with
    | none => rfl
    | some source => exact freeFront_withHeads { s with frontSending := none } f b source
  · unfold State.sent
    dsimp only
    rw [withHeads_backSending]
    split
    · exact popBack_withHeads { s with backSending := false } f b
    · rfl

theorem completeSending_eq {s : State} (hs : s.Settled) (lane : OutLane) : s.completeSending lane = (s.sent lane).settle := by
  cases lane
  · unfold State.completeSending State.sent
    dsimp only
    cases s.frontSending with
    | none => exact (settle_of_settled hs).symm
    | some source => rfl
  · unfold State.completeSending State.sent
    dsimp only
    split
    · rfl
    · exact (settle_of_settled hs).symm

/-- The line states that the release of PORST finds (R142, R162). -/
def State.released (s : State) : State :=
  { s with porstLine := false, linkTime := 0, plock := s.plockLine, pfail := s.pfailLine }

theorem releasePorst_eq (s : State) : s.releasePorst =
    if s.porstLine then if s.plockLine then s.released.latch .plock else s.released else s := rfl

theorem releasePorst_headsFree : HeadsFree State.releasePorst := fun s f b => by
  rw [releasePorst_eq, releasePorst_eq, withHeads_porstLine, withHeads_plockLine]
  split
  · split
    · exact latch_withHeads s.released f b .plock
    · rfl
  · rfl

theorem powerOn_heads (s : State) : s.powerOn.frontHead = none ∧ s.powerOn.backHead = none := ⟨rfl, rfl⟩

theorem freed_heads (s : State) : s.freed.frontHead = none ∧ s.freed.backHead = none := ⟨rfl, rfl⟩

theorem clearNotices_heads (s : State) :
    s.clearNotices.frontHead = s.frontHead ∧ s.clearNotices.backHead = s.backHead := ⟨rfl, rfl⟩

/-- Under PORST no frame stands at a head (R154). -/
theorem noHeads_of_powerOk {s : State} (h : s.PowerOk) (hp : s.porstLine = true) : s.frontHead = none ∧ s.backHead = none := by
  have hs := h hp
  rw [← hs]
  exact powerOn_heads s

theorem settled_of_noHeads {s : State} (hf : s.frontHead = none) (hb : s.backHead = none) : s.Settled := by
  intro lane
  cases lane
  · exact headReady_of_none hf
  · exact headReady_of_none hb

theorem releasePorst_settled {s : State} (h : s.PowerOk) (hs : s.Settled) : s.releasePorst.Settled := by
  by_cases hp : s.porstLine = true
  · obtain ⟨hf, hb⟩ := noHeads_of_powerOk h hp
    obtain ⟨hf', hb'⟩ := releasePorst_headsFree.heads s
    exact settled_of_noHeads (hf'.trans hf) (hb'.trans hb)
  · have hsame : s.releasePorst = s := if_neg hp
    rw [hsame]
    exact hs

/-- Link time and the countdowns move, and the purges that are due expire (R100, R102, R162). -/
def State.ticked (s : State) : State :=
  if s.porstLine then s else inAnyOrder (fun k t => t.expireSlot k) s.tick.expiriesDue s.tick

theorem ticked_headsFree : HeadsFree State.ticked := fun s f b => by
  unfold State.ticked
  rw [withHeads_porstLine]
  split
  · rfl
  · exact inAnyOrder_withHeads f b _ _ s.tick fun k t => expireSlot_withHeads t f b k

theorem microsecond_eq {s : State} (hs : s.Settled)
    (h : ∀ (k : SlotId) (l : Load), (s.slots[k]).state = .loading l → 1 < l.timeLeft) : s.microsecond = s.ticked.settle := by
  have hdue : s.unwrapsDue = [] := List.filter_eq_nil_iff.2 fun k _ => by
    cases hk : (s.slots[k]).state with
    | loading l => simpa using h k l hk
    | empty => simp
    | ready m => simp
    | purging m a => simp
    | poisoned m => simp
  unfold State.microsecond State.ticked
  rw [hdue]
  split
  · exact (settle_of_settled hs).symm
  · rfl

/-! ### Every event -/

/-- An event's command does a block's work, which does not read the heads, and the heads are tested. -/
def TestsHeads (c : Instr) (op : State → State) : Prop :=
  HeadsFree op ∧ ∀ s : State, s.PowerOk → s.Settled → exec c s = .next (op s).settle

theorem testsHeads_of_tighter {c : Instr} {op : State → State} (hfree : HeadsFree op)
    (hexec : ∀ s, exec c s = .next (op s)) (h : ∀ s : State, s.Tighter (op s)) : TestsHeads c op :=
  ⟨hfree, fun s _ hs => (hexec s).trans (congrArg Host.Outcome.next (settle_of_settled ((h s).settled hs)).symm)⟩

theorem event_testsHeads {c : Instr} (hc : isFrame c = false) (hl : c ≠ .linkrstAssert) (hp : c ≠ .porstAssert)
    (hm : c ≠ .microsecondPasses) : ∃ op, TestsHeads c op := by
  cases c with
  | unwrapComplete k => exact ⟨(·.completeLoad k), completeLoad_headsFree k, fun _ _ _ => rfl⟩
  | purgeDrain k =>
    exact ⟨(·.drainSlot k), testsHeads_of_tighter (fun s f b => drainSlot_withHeads s f b k) (fun _ => rfl)
      fun s => drainSlot_tighter s k⟩
  | purgeExpiry k => exact ⟨(·.expireSlot k), fun s f b => expireSlot_withHeads s f b k, fun _ _ _ => rfl⟩
  | pendingChangeApply i => exact ⟨(·.applyPending i), fun s f b => applyPending_withHeads s f b i, fun _ _ _ => rfl⟩
  | bitDamage location =>
    exact ⟨(·.damage location), testsHeads_of_tighter (damage_headsFree location) (fun _ => rfl)
      fun s => damage_tighter s location⟩
  | sendStart lane =>
    exact ⟨(·.startSending lane), testsHeads_of_tighter (startSending_headsFree lane) (fun _ => rfl)
      fun s => startSending_tighter s lane⟩
  | frameSent lane =>
    exact ⟨(·.sent lane), sent_headsFree lane, fun s _ hs => congrArg Host.Outcome.next (completeSending_eq hs lane)⟩
  | outboundHold lane level =>
    exact ⟨(·.setOutHold lane level), testsHeads_of_tighter (fun _ _ _ => by cases lane <;> rfl) (fun _ => rfl)
      fun s => setOutHold_tighter s lane level⟩
  | plockAssert => exact ⟨(·.assertPlock), fun s f b => assertPlock_withHeads s f b, fun _ _ _ => rfl⟩
  | plockDeassert =>
    exact ⟨(·.deassertPlock), testsHeads_of_tighter (fun _ _ _ => rfl) (fun _ => rfl)
      fun _ => tighter_of_tables ⟨rfl, rfl⟩ rfl rfl rfl rfl⟩
  | pfailAssert =>
    exact ⟨(·.assertPfail), testsHeads_of_tighter (fun s f b => assertPfail_withHeads s f b) (fun _ => rfl)
      assertPfail_tighter⟩
  | pfailDeassert =>
    exact ⟨(·.deassertPfail), testsHeads_of_tighter (fun _ _ _ => rfl) (fun _ => rfl)
      fun _ => tighter_of_tables ⟨rfl, rfl⟩ rfl rfl rfl rfl⟩
  | linkrstRelease =>
    exact ⟨fun s => { s with linkrstLine := false }, testsHeads_of_tighter (fun _ _ _ => rfl) (fun _ => rfl)
      fun _ => tighter_of_tables ⟨rfl, rfl⟩ rfl rfl rfl rfl⟩
  | porstRelease =>
    exact ⟨State.releasePorst, releasePorst_headsFree, fun s h hs =>
      congrArg Host.Outcome.next (settle_of_settled (releasePorst_settled h hs)).symm⟩
  | linkrstAssert => exact absurd rfl hl
  | porstAssert => exact absurd rfl hp
  | microsecondPasses => exact absurd rfl hm
  | _ => cases hc

theorem exec_settled {c : Instr} {s t : State} (h : s.PowerOk) (hs : s.Settled) (he : exec c s = .next t) : t.Settled := by
  cases hc : isFrame c with
  | true => exact exec_frame_settled hs hc he
  | false =>
    by_cases hl : c = .linkrstAssert
    · subst hl
      change Host.Outcome.next s.assertLinkrst = .next t at he
      cases he
      unfold State.assertLinkrst
      split
      · exact hs
      · split
        · exact (tighter_of_tables (s := s) ⟨rfl, rfl⟩ rfl rfl rfl rfl).settled hs
        · obtain ⟨⟨_, _, _, _, _, _, _, _, hf, hb, _⟩, _⟩ := frame_of_outside (drained_outside s)
          obtain ⟨hf', hb'⟩ := freed_heads s
          obtain ⟨hf'', hb''⟩ := clearNotices_heads s.drained
          rw [linkReset_eq]
          exact settled_of_noHeads (hf''.trans (hf.trans hf')) (hb''.trans (hb.trans hb'))
    · by_cases hp : c = .porstAssert
      · subst hp
        change Host.Outcome.next s.assertPorst = .next t at he
        cases he
        unfold State.assertPorst
        split
        · exact hs
        · obtain ⟨hf, hb⟩ := powerOn_heads s
          exact settled_of_noHeads hf hb
      · by_cases hm : c = .microsecondPasses
        · subst hm
          change Host.Outcome.next s.microsecond = .next t at he
          cases he
          unfold State.microsecond
          split
          · exact hs
          · exact settle_settled _
        · obtain ⟨op, _, hop⟩ := event_testsHeads hc hl hp hm
          rw [hop s h hs] at he
          cases he
          exact settle_settled _

/-- Where the same work is done with and without the frames at the heads, the frames are tested after it. -/
theorem HeadsFree.tested {op : State → State} (hfree : HeadsFree op) {c : Instr} {s v : State}
    (hstripped : exec c { s with frontHead := none, backHead := none } =
      .next (op { s with frontHead := none, backHead := none }).settle)
    (hfull : exec c s = .next (op s).settle) (hv : exec c { s with frontHead := none, backHead := none } = .next v) :
    exec c s = .next ({ v with frontHead := s.frontHead, backHead := s.backHead } : State).settle := by
  obtain ⟨hback, hsettle⟩ := hfree.stripped s
  rw [hfull, ← hback]
  rw [hv] at hstripped
  have hvop : v = op (s.withHeads none none) := (Host.Outcome.next.inj hstripped).trans hsettle
  rw [hvop]
  rfl

theorem powerOk_stripped {s : State} (h : s.PowerOk) : ({ s with frontHead := none, backHead := none } : State).PowerOk := by
  intro hp
  obtain ⟨hf, hb⟩ := noHeads_of_powerOk h hp
  have hsame : s.withHeads none none = s.withHeads s.frontHead s.backHead := by rw [hf, hb]
  have hself : ({ s with frontHead := none, backHead := none } : State) = s := hsame.trans (withHeads_self s)
  rw [hself]
  exact h hp

theorem holdLine_stripped {s : State} {lane : InLane} (h : s.holdLine lane = false) :
    ({ s with frontHead := none, backHead := none } : State).holdLine lane = false := by
  cases lane
  · unfold State.holdLine at h ⊢
    simp only [Bool.or_eq_false_iff] at h ⊢
    exact ⟨⟨rfl, h.1.2⟩, h.2⟩
  · unfold State.holdLine at h ⊢
    simp only [Bool.or_eq_false_iff] at h ⊢
    exact ⟨⟨rfl, h.1.2⟩, h.2⟩

/-- Settles O16. -/
theorem settledIsKept : Obligations.SettledIsKept := by
  refine ⟨fun c s t => exec_settled, fun s lane => settle_settled s lane, fun s => settle_of_settled,
    fun s f => settle_of_front, fun s g => settle_of_back, fun s r f g hf hb =>
    ⟨fun ht hw => settle_of_front_first hf hb ht hw, fun hw ht => settle_of_back_first hf hb hw ht⟩,
    fun s u r q f g hf hb ht ht' => settle_of_both hf hb ht ht',
    fun frame s => exec_taken, fun c s v hp hs hcond hv => ?_⟩
  have hs' : ({ s with frontHead := none, backHead := none } : State).Settled := settled_of_noHeads rfl rfl
  cases hc : isFrame c with
  | true =>
    have hframe : s.holdLine (frameLane c) = false ∧ s.takeable c = true := by
      cases c with
      | linkrstAssert | porstAssert | microsecondPasses => cases hc
      | _ => exact hcond hc
    obtain ⟨hl, ht⟩ := hframe
    exact HeadsFree.tested (fun t f b => takeFrame_withHeads t f b c)
      (exec_taken hs' hc (holdLine_stripped hl) ((takeable_withHeads s none none c).trans ht)) (exec_taken hs hc hl ht) hv
  | false =>
    by_cases hm : c = .microsecondPasses
    · subst hm
      exact ticked_headsFree.tested (congrArg Host.Outcome.next (microsecond_eq hs' hcond))
        (congrArg Host.Outcome.next (microsecond_eq hs hcond)) hv
    · obtain ⟨op, hfree, hop⟩ := event_testsHeads hc (by rintro rfl; exact hcond) (by rintro rfl; exact hcond) hm
      exact hfree.tested (hop _ (powerOk_stripped hp) hs') (hop s hp hs) hv

end Sys2Proof.Machine

/-! PROOFS. The frame layouts of chapter 11 (R143, R145, R172 to R174): little-endian fields, what any inbound bytes give,
and the bytes of every outbound frame. -/

namespace Sys2Proof.Machine

/-! ### Fields -/

theorem leNat_leBytes (size n : Nat) : leNat (leBytes size n) = n % 256 ^ size := by
  induction size generalizing n with
  | zero => rw [Nat.pow_zero, Nat.mod_one]; rfl
  | succ size ih => rw [leBytes, leNat, ih, BitVec.toNat_ofNat, Nat.pow_succ' (n := size), Nat.mod_mul]

theorem ofNat_leNat_leWord {w : Nat} (size : Nat) (v : BitVec w) (h : w = 8 * size) :
    BitVec.ofNat w (leNat (leWord size v)) = v := by
  have hpow : (256 : Nat) ^ size = 2 ^ w := by rw [h, Nat.pow_mul]
  have hlt : v.toNat < 256 ^ size := by rw [hpow]; exact v.isLt
  rw [leWord, leNat_leBytes, Nat.mod_eq_of_lt hlt, BitVec.ofNat_toNat, BitVec.setWidth_eq]

theorem leWord_length {w : Nat} (size : Nat) (v : BitVec w) : (leWord size v).length = size := leBytes_length size v.toNat

/-- The field behind a leading part. -/
theorem fieldAt_append {before field : List Byte} (after : List Byte) {offset size : Nat} (hb : before.length = offset)
    (hf : field.length = size) : fieldAt (before ++ (field ++ after)) offset size = leNat field := by
  rw [fieldAt, ← hb, List.drop_left, ← hf, List.take_left]

/-- A word laid out at its offset is read back. -/
theorem wordAt_append {w : Nat} {before : List Byte} (after : List Byte) {offset : Nat} (size : Nat) (v : BitVec w)
    (hb : before.length = offset) (h : w = 8 * size) :
    BitVec.ofNat w (fieldAt (before ++ (leWord size v ++ after)) offset size) = v := by
  rw [fieldAt_append after hb (leWord_length size v), ofNat_leNat_leWord size v h]

theorem byteAt_zero (b : Byte) (after : List Byte) : byteAt (b :: after) 0 = b := by
  change BitVec.ofNat 8 (b.toNat + 256 * 0) = b
  rw [Nat.mul_zero, Nat.add_zero, BitVec.ofNat_toNat, BitVec.setWidth_eq]

theorem byteAt_succ (b : Byte) (after : List Byte) (offset : Nat) :
    byteAt (b :: after) (offset + 1) = byteAt after offset := rfl

theorem byteAt_append {before : List Byte} (after : List Byte) {offset : Nat} (b : Byte) (hb : before.length = offset) :
    byteAt (before ++ b :: after) offset = b := by
  refine Eq.trans ?_ (byteAt_zero b after)
  rw [byteAt, fieldAt, ← hb, List.drop_left]
  rfl

/-! ### What any bytes give -/

theorem byte_eq_iff (b : Byte) (n : Nat) (h : n < 256) : b.toNat = n ↔ b = BitVec.ofNat 8 n := by
  rw [← BitVec.toNat_inj, BitVec.toNat_ofNat, Nat.mod_eq_of_lt h]

theorem header_length (l0 l1 : Byte) : leNat [l0, l1] = l0.toNat + 256 * l1.toNat := by
  simp [leNat]

theorem frameMalformed_eq (lane : InLane) (kind l0 l1 id : Byte) (body : List Byte) :
    frameMalformed lane (kind :: l0 :: l1 :: id :: body) =
      ((leNat [l0, l1] != body.length) ||
      (match lane, kind.toNat with
        | .front, 0x01 => (leNat [l0, l1] != 11) || decide (64 ≤ id.toNat) ||
            !(byteAt body 0 == 0x01#8 || byteAt body 0 == 0x02#8)
        | _, 0x02 => decide (Config.fragmentMax < leNat [l0, l1]) || decide (64 ≤ id.toNat)
        | .front, 0x03 => (leNat [l0, l1] != 0) || decide (64 ≤ id.toNat)
        | .front, 0x04 => (leNat [l0, l1] == 0) || decide (75 < leNat [l0, l1])
        | _, _ => true)) := rfl

theorem frameMalformed_of_short {lane : InLane} {frame : List Byte} (h : frame.length < 4) : frameMalformed lane frame = true := by
  match frame, h with
  | [], _ => rfl
  | [_], _ => rfl
  | [_, _], _ => rfl
  | [_, _, _], _ => rfl
  | _ :: _ :: _ :: _ :: _, h => exact absurd h (by simp)

theorem malformedCtx_of_short {frame : List Byte} (h : frame.length < 4) : malformedCtx frame = none := by
  match frame, h with
  | [], _ => rfl
  | [_], _ => rfl
  | [_, _], _ => rfl
  | [_, _, _], _ => rfl
  | _ :: _ :: _ :: _ :: _, h => exact absurd h (by simp)

theorem four_bytes {frame : List Byte} (h : ¬frame.length < 4) : ∃ kind l0 l1 id body, frame = kind :: l0 :: l1 :: id :: body := by
  match frame, h with
  | [], h => exact absurd (by simp) h
  | [_], h => exact absurd (by simp) h
  | [_, _], h => exact absurd (by simp) h
  | [_, _, _], h => exact absurd (by simp) h
  | kind :: l0 :: l1 :: id :: body, _ => exact ⟨kind, l0, l1, id, body, rfl⟩

/-- The first byte of a body that is present. -/
theorem byteAt_eq_iff {body : List Byte} (h : body.length ≠ 0) (b : Byte) : byteAt body 0 = b ↔ body[0]? = some b := by
  cases body with
  | nil => exact absurd rfl h
  | cons x rest => rw [byteAt_zero, List.getElem?_cons_zero, Option.some.injEq]

/-- What makes a frame with a whole header malformed (R145, R172). -/
theorem frameMalformed_iff (lane : InLane) (kind l0 l1 id : Byte) (body : List Byte) :
    frameMalformed lane (kind :: l0 :: l1 :: id :: body) = true ↔
      l0.toNat + 256 * l1.toNat ≠ body.length ∨
      (kind ≠ 0x01 ∧ kind ≠ 0x02 ∧ kind ≠ 0x03 ∧ kind ≠ 0x04) ∨ (lane = .back ∧ kind ≠ 0x02) ∨
      (kind = 0x01 ∧ (body.length ≠ 11 ∨ 64 ≤ id.toNat ∨ (body[0]? ≠ some 0x01 ∧ body[0]? ≠ some 0x02))) ∨
      (kind = 0x02 ∧ (2048 < body.length ∨ 64 ≤ id.toNat)) ∨
      (kind = 0x03 ∧ (body.length ≠ 0 ∨ 64 ≤ id.toNat)) ∨
      (kind = 0x04 ∧ (body.length = 0 ∨ 75 < body.length)) := by
  rw [frameMalformed_eq, Bool.or_eq_true, bne_iff_ne, header_length]
  by_cases hlen : l0.toNat + 256 * l1.toNat = body.length
  swap
  · exact iff_of_true (.inl hlen) (.inl hlen)
  rw [hlen]
  by_cases h1 : kind = 0x01
  · subst h1
    cases lane
    · by_cases h11 : body.length = 11
      · have hfirst := byteAt_eq_iff (body := body) (by rw [h11]; decide)
        simp only [ne_eq, ← hfirst]
        simp [h11]
      · simp [h11]
    · simp
  by_cases h2 : kind = 0x02
  · subst h2
    cases lane <;> simp [Config.fragmentMax]
  by_cases h3 : kind = 0x03
  · subst h3
    cases lane <;> simp
  by_cases h4 : kind = 0x04
  · subst h4
    cases lane <;> simp
  · refine iff_of_true (.inr ?_) (.inr (.inl ⟨h1, h2, h3, h4⟩))
    split
    · rename_i hk
      exact absurd ((byte_eq_iff kind 1 (by decide)).1 hk) h1
    · rename_i hk
      exact absurd ((byte_eq_iff kind 2 (by decide)).1 hk) h2
    · rename_i hk
      exact absurd ((byte_eq_iff kind 3 (by decide)).1 hk) h3
    · rename_i hk
      exact absurd ((byte_eq_iff kind 4 (by decide)).1 hk) h4
    · rfl

/-- The body that a request's fields give. -/
theorem bodyOf_of_length {α : Type} {len : Nat} {rest : List Byte} (f : α) (h : rest.length = len) :
    bodyOf len rest f = .fields f := if_pos h

theorem bodyOf_of_ne {α : Type} {len : Nat} {rest : List Byte} (f : α) (h : rest.length ≠ len) :
    bodyOf len rest f = .wrongLength rest := if_neg h

theorem bodyOf_ok {α : Type} {len : Nat} {rest : List Byte} (f : α) (h : rest.length ≤ 74) :
    (bodyOf len rest f).ok len = true := by
  unfold bodyOf
  split
  · rfl
  · rename_i hne
    simp [Body.ok, hne, h]

/-- A well-formed request stands for its row, on front-in. -/
theorem requestCommand_wellFormed (tag code : Byte) {rest : List Byte} (h : rest.length ≤ 74) :
    (requestCommand tag code rest).wellFormed = true ∧ isFrame (requestCommand tag code rest) = true ∧
    frameLane (requestCommand tag code rest) = .front := by
  unfold requestCommand
  split
  case h_19 =>
    have hundefined : requestFieldsLength code = none := by
      unfold requestFieldsLength
      split
      case h_19 => rfl
      all_goals contradiction
    refine ⟨?_, rfl, rfl⟩
    change (requestFieldsLength code == none && decide (rest.length ≤ 74)) = true
    rw [hundefined, decide_eq_true h]
    rfl
  all_goals exact ⟨bodyOf_ok _ h, rfl, rfl⟩

theorem requestCommand_undefined (tag : Byte) {code : Byte} (rest : List Byte) (h : code = 0 ∨ 0x12 < code.toNat) :
    requestCommand tag code rest = .undefinedRequestCode tag code rest := by
  have hrange : code.toNat = 0 ∨ 18 < code.toNat := h.imp_left fun h0 => by rw [h0]; rfl
  unfold requestCommand
  split
  case h_19 => rfl
  all_goals omega

theorem requestCommand_ne_malformed (tag code : Byte) (rest : List Byte) (lane : InLane) (frame : List Byte) :
    requestCommand tag code rest ≠ .malformedFrame lane frame := by
  unfold requestCommand
  split
  all_goals nofun

theorem frameCommand_of_malformed {lane : InLane} {frame : List Byte} (h : frameMalformed lane frame = true) :
    frameCommand lane frame = .malformedFrame lane frame := if_pos h

/-- The command of a frame that is not malformed, by its kind. -/
theorem frameCommand_of_wellFormed {lane : InLane} {kind l0 l1 id : Byte} {body : List Byte}
    (h : frameMalformed lane (kind :: l0 :: l1 :: id :: body) = false) :
    (kind = 0x01 ∧ frameCommand lane (kind :: l0 :: l1 :: id :: body) = .openFrame id
      (if byteAt body 0 = 0x01#8 then .write else .read) (byteAt body 1) (byteAt body 2)
      (BitVec.ofNat 48 (fieldAt body 3 6)) (BitVec.ofNat 16 (fieldAt body 9 2))) ∨
    (kind = 0x02 ∧ frameCommand lane (kind :: l0 :: l1 :: id :: body) = .data lane id body) ∨
    (kind = 0x03 ∧ frameCommand lane (kind :: l0 :: l1 :: id :: body) = .abort id) ∨
    (kind = 0x04 ∧ frameCommand lane (kind :: l0 :: l1 :: id :: body) =
      requestCommand id (byteAt body 0) (body.drop 1)) := by
  have hfalse : ¬frameMalformed lane (kind :: l0 :: l1 :: id :: body) = true := by rw [h]; decide
  have hnot := hfalse
  rw [frameMalformed_iff] at hfalse
  simp only [not_or] at hfalse
  obtain ⟨_, hkind, _⟩ := hfalse
  by_cases h1 : kind = 0x01
  · subst h1
    exact .inl ⟨rfl, if_neg hnot⟩
  by_cases h2 : kind = 0x02
  · subst h2
    exact .inr (.inl ⟨rfl, if_neg hnot⟩)
  by_cases h3 : kind = 0x03
  · subst h3
    exact .inr (.inr (.inl ⟨rfl, if_neg hnot⟩))
  by_cases h4 : kind = 0x04
  · subst h4
    exact .inr (.inr (.inr ⟨rfl, if_neg hnot⟩))
  · exact absurd ⟨h1, h2, h3, h4⟩ hkind

theorem frameCommand_malformed_iff (lane : InLane) (kind l0 l1 id : Byte) (body : List Byte) :
    frameCommand lane (kind :: l0 :: l1 :: id :: body) = .malformedFrame lane (kind :: l0 :: l1 :: id :: body) ↔
      frameMalformed lane (kind :: l0 :: l1 :: id :: body) = true := by
  refine ⟨fun h => ?_, frameCommand_of_malformed⟩
  by_contra hnot
  obtain ⟨_, hc⟩ | ⟨_, hc⟩ | ⟨_, hc⟩ | ⟨_, hc⟩ := frameCommand_of_wellFormed (Bool.eq_false_iff.2 hnot)
  · rw [hc] at h
    cases h
  · rw [hc] at h
    cases h
  · rw [hc] at h
    cases h
  · rw [hc] at h
    exact requestCommand_ne_malformed _ _ _ _ _ h

/-- Every run of bytes is one well-formed frame command of its lane (R143, R145). -/
theorem frameCommand_wellFormed (lane : InLane) (frame : List Byte) : (frameCommand lane frame).wellFormed = true ∧
    isFrame (frameCommand lane frame) = true ∧ frameLane (frameCommand lane frame) = lane := by
  cases hmal : frameMalformed lane frame with
  | true =>
    rw [frameCommand_of_malformed hmal]
    exact ⟨hmal, rfl, rfl⟩
  | false =>
    by_cases hshort : frame.length < 4
    · rw [frameMalformed_of_short hshort] at hmal
      cases hmal
    · obtain ⟨kind, l0, l1, id, body, rfl⟩ := four_bytes hshort
      have hwell : ¬frameMalformed lane (kind :: l0 :: l1 :: id :: body) = true := by rw [hmal]; decide
      rw [frameMalformed_iff] at hwell
      simp only [not_or, not_and, Nat.not_le, Nat.not_lt, ne_eq, not_not] at hwell
      obtain ⟨_, _, hlane, hopen, hdata, habort, hrequest⟩ := hwell
      have hfront : kind ≠ 0x02 → lane = .front := fun hk => by
        cases lane
        · rfl
        · exact absurd (hlane rfl) hk
      obtain ⟨hk, hc⟩ | ⟨hk, hc⟩ | ⟨hk, hc⟩ | ⟨hk, hc⟩ := frameCommand_of_wellFormed hmal
      · rw [hc, hfront (by rw [hk]; decide)]
        exact ⟨decide_eq_true (hopen hk).2.1, rfl, rfl⟩
      · rw [hc]
        obtain ⟨hlen, hid⟩ := hdata hk
        exact ⟨Bool.and_eq_true_iff.2 ⟨decide_eq_true hid, decide_eq_true hlen⟩, rfl, rfl⟩
      · rw [hc, hfront (by rw [hk]; decide)]
        exact ⟨decide_eq_true (habort hk).2, rfl, rfl⟩
      · rw [hc, hfront (by rw [hk]; decide)]
        obtain ⟨_, hlen⟩ := hrequest hk
        exact requestCommand_wellFormed id _ (by rw [List.length_drop]; omega)

theorem malformedCtx_iff (kind l0 l1 id : Byte) (body : List Byte) (j : CtxId) :
    malformedCtx (kind :: l0 :: l1 :: id :: body) = some j ↔ (kind = 0x01 ∨ kind = 0x02 ∨ kind = 0x03) ∧ j.val = id.toNat := by
  have hkind : kind.toNat = 0x01 ∨ kind.toNat = 0x02 ∨ kind.toNat = 0x03 ↔ kind = 0x01 ∨ kind = 0x02 ∨ kind = 0x03 := by
    rw [byte_eq_iff kind 1 (by decide), byte_eq_iff kind 2 (by decide), byte_eq_iff kind 3 (by decide)]
    rfl
  unfold malformedCtx
  dsimp only
  by_cases hk : kind = 0x01 ∨ kind = 0x02 ∨ kind = 0x03
  · rw [if_pos (hkind.2 hk)]
    split
    · rw [Option.some.injEq, Fin.ext_iff]
      exact ⟨fun h => ⟨hk, h.symm⟩, fun h => h.2.symm⟩
    · rename_i hid
      exact iff_of_false nofun fun h => hid (h.2 ▸ j.isLt)
  · rw [if_neg fun h => hk (hkind.1 h)]
    exact iff_of_false nofun fun h => hk h.1

/-! ### Inbound frames -/

/-- A data or request frame's length field. -/
theorem lengthField (n : Nat) (h : n < 65536) :
    (BitVec.ofNat 8 n).toNat + 256 * (BitVec.ofNat 8 (n / 256)).toNat = n := by
  rw [BitVec.toNat_ofNat, BitVec.toNat_ofNat]
  omega

theorem frame_data (lane : InLane) {id : Byte} {bytes : List Byte} (hid : id.toNat < 64) (hlen : bytes.length ≤ 2048) :
    frameCommand lane ([0x02] ++ leBytes 2 bytes.length ++ [id] ++ bytes) = .data lane id bytes := by
  have hwell : frameMalformed lane (0x02 :: BitVec.ofNat 8 bytes.length :: BitVec.ofNat 8 (bytes.length / 256) :: id ::
      bytes) = false := by
    rw [Bool.eq_false_iff, ne_eq, frameMalformed_iff, lengthField _ (by omega)]
    simp
    omega
  obtain ⟨hk, _⟩ | ⟨_, hc⟩ | ⟨hk, _⟩ | ⟨hk, _⟩ := frameCommand_of_wellFormed hwell
  · cases hk
  · exact hc
  · cases hk
  · cases hk

/-- A request frame gives the command of its code (11.3). -/
theorem frame_request (tag code : Byte) {rest : List Byte} (h : rest.length ≤ 74) :
    frameCommand .front ([0x04] ++ leBytes 2 (code :: rest).length ++ [tag] ++ code :: rest) = requestCommand tag code rest := by
  have hwell : frameMalformed .front (0x04 :: BitVec.ofNat 8 (code :: rest).length ::
      BitVec.ofNat 8 ((code :: rest).length / 256) :: tag :: code :: rest) = false := by
    rw [Bool.eq_false_iff, ne_eq, frameMalformed_iff, lengthField _ (by rw [List.length_cons]; omega)]
    simp
    omega
  obtain ⟨hk, _⟩ | ⟨hk, _⟩ | ⟨hk, _⟩ | ⟨_, hc⟩ := frameCommand_of_wellFormed hwell
  · cases hk
  · cases hk
  · cases hk
  · rw [byteAt_zero] at hc
    exact hc

theorem frame_open (id dirByte flags ns : Byte) (first : BitVec 48) (count : BitVec 16) (hid : id.toNat < 64)
    (hdir : dirByte = 0x01 ∨ dirByte = 0x02) :
    frameCommand .front ([0x01, 11, 0, id, dirByte, flags, ns] ++ leWord 6 first ++ leWord 2 count) =
      .openFrame id (if dirByte = 0x01#8 then .write else .read) flags ns first count := by
  have hwell : frameMalformed .front (0x01 :: 11 :: 0 :: id :: dirByte :: flags :: ns :: (leWord 6 first ++ leWord 2 count)) =
      false := by
    rw [Bool.eq_false_iff, ne_eq, frameMalformed_iff]
    obtain rfl | rfl := hdir
    · simp [leWord_length]
      omega
    · simp [leWord_length]
      omega
  have hfirst := wordAt_append (before := [dirByte, flags, ns]) (leWord 2 count) 6 first rfl rfl
  have hcount := wordAt_append (before := dirByte :: flags :: ns :: leWord 6 first) [] 2 count rfl rfl
  rw [List.append_nil] at hcount
  obtain ⟨_, hc⟩ | ⟨hk, _⟩ | ⟨hk, _⟩ | ⟨hk, _⟩ := frameCommand_of_wellFormed hwell
  · refine hc.trans ?_
    rw [byteAt_zero, byteAt_succ, byteAt_zero, byteAt_succ, byteAt_succ, byteAt_zero]
    exact congrArg₂ (Instr.openFrame id _ flags ns) hfirst hcount
  · cases hk
  · cases hk
  · cases hk

theorem frame_abort {id : Byte} (hid : id.toNat < 64) : frameCommand .front [0x03, 0, 0, id] = .abort id := by
  have hwell : frameMalformed .front [0x03, 0, 0, id] = false := by
    rw [Bool.eq_false_iff, ne_eq, frameMalformed_iff]
    simp
    omega
  obtain ⟨hk, _⟩ | ⟨hk, _⟩ | ⟨_, hc⟩ | ⟨hk, _⟩ := frameCommand_of_wellFormed hwell
  · cases hk
  · cases hk
  · exact hc
  · cases hk

/-! ### The fields of each request -/

section Requests

variable (tag : Byte)

theorem requestCommand_wrapLoad (f : WrapLoadFields) :
    requestCommand tag 0x01 (f.wrapSlot :: leWord 32 f.key) = .wrapLoad tag (.fields f) := by
  have hkey := wordAt_append (before := [f.wrapSlot]) [] 32 f.key rfl rfl
  rw [List.append_nil] at hkey
  have hbody := bodyOf_of_length (len := 33) (rest := f.wrapSlot :: leWord 32 f.key)
    (⟨byteAt (f.wrapSlot :: leWord 32 f.key) 0, BitVec.ofNat 256 (fieldAt (f.wrapSlot :: leWord 32 f.key) 1 32)⟩ : WrapLoadFields)
    (by rw [List.length_cons, leWord_length])
  refine (congrArg (Instr.wrapLoad tag) hbody).trans ?_
  rw [byteAt_zero]
  exact congrArg (fun v => Instr.wrapLoad tag (.fields ⟨f.wrapSlot, v⟩)) hkey

theorem requestCommand_keyLoad (f : KeyLoadFields) :
    requestCommand tag 0x02 (f.keySlot :: f.wrapSlot :: leWord 72 f.blob) = .keyLoad tag (.fields f) := by
  have hblob := wordAt_append (before := [f.keySlot, f.wrapSlot]) [] 72 f.blob rfl rfl
  rw [List.append_nil] at hblob
  generalize hrest : f.keySlot :: f.wrapSlot :: leWord 72 f.blob = rest
  have hbody := bodyOf_of_length (len := 74) (rest := rest)
    (⟨byteAt rest 0, byteAt rest 1, BitVec.ofNat 576 (fieldAt rest 2 72)⟩ : KeyLoadFields)
    (by rw [← hrest, List.length_cons, List.length_cons, leWord_length])
  refine (congrArg (Instr.keyLoad tag) hbody).trans ?_
  rw [← hrest, byteAt_zero, byteAt_succ, byteAt_zero]
  exact congrArg (fun v => Instr.keyLoad tag (.fields ⟨f.keySlot, f.wrapSlot, v⟩)) hblob

theorem requestCommand_migrateStart (f : MigrateStartFields) :
    requestCommand tag 0x0A (f.band :: f.target :: leWord 2 f.generation) = .migrateStart tag (.fields f) := by
  have hgeneration := wordAt_append (before := [f.band, f.target]) [] 2 f.generation rfl rfl
  rw [List.append_nil] at hgeneration
  refine Eq.trans (b := Instr.migrateStart tag (.fields ⟨f.band, f.target, _⟩)) ?_
    (congrArg (fun v => Instr.migrateStart tag (.fields ⟨f.band, f.target, v⟩)) hgeneration)
  generalize hrest : f.band :: f.target :: leWord 2 f.generation = rest
  have hbody := bodyOf_of_length (len := 4) (rest := rest)
    (⟨byteAt rest 0, byteAt rest 1, BitVec.ofNat 16 (fieldAt rest 2 2)⟩ : MigrateStartFields) (by rw [← hrest]; rfl)
  refine (congrArg (Instr.migrateStart tag) hbody).trans ?_
  rw [← hrest, byteAt_zero, byteAt_succ, byteAt_zero]
  rfl

theorem requestCommand_bytes (a b : Byte) :
    requestCommand tag 0x08 [a, b] = .bandLock tag (.fields ⟨a, b⟩) ∧
    requestCommand tag 0x0D [a, b] = .noticePeriod tag (.fields ⟨a, b⟩) := by
  have ha : byteAt [a, b] 0 = a := byteAt_zero a [b]
  have hb : byteAt [a, b] 1 = b := byteAt_zero b []
  refine ⟨Eq.trans (b := Instr.bandLock tag (.fields ⟨byteAt [a, b] 0, byteAt [a, b] 1⟩)) rfl ?_,
    Eq.trans (b := Instr.noticePeriod tag (.fields ⟨byteAt [a, b] 0, byteAt [a, b] 1⟩)) rfl ?_⟩
  · rw [ha, hb]
  · rw [ha, hb]

theorem requestCommand_word (v : BitVec 32) :
    requestCommand tag 0x06 (leWord 4 v) = .setGrace tag (.fields v) ∧
    requestCommand tag 0x11 (leWord 4 v) = .timeSet tag (.fields v) := by
  have hv := ofNat_leNat_leWord 4 v rfl
  exact ⟨congrArg (fun x => Instr.setGrace tag (.fields x)) hv, congrArg (fun x => Instr.timeSet tag (.fields x)) hv⟩

theorem requestCommand_byte (b : Byte) :
    requestCommand tag 0x03 [b] = .querySlot tag (.fields b) ∧ requestCommand tag 0x04 [b] = .keyPurge tag (.fields b) ∧
    requestCommand tag 0x09 [b] = .queryBand tag (.fields b) ∧ requestCommand tag 0x0C [b] = .tripClear tag (.fields b) ∧
    requestCommand tag 0x0E [b] = .noticeAck tag (.fields b) ∧
    requestCommand tag 0x0F [b] = .queryContext tag (.fields b) := by
  have hb := byteAt_zero b []
  exact ⟨congrArg (fun x => Instr.querySlot tag (.fields x)) hb, congrArg (fun x => Instr.keyPurge tag (.fields x)) hb,
    congrArg (fun x => Instr.queryBand tag (.fields x)) hb, congrArg (fun x => Instr.tripClear tag (.fields x)) hb,
    congrArg (fun x => Instr.noticeAck tag (.fields x)) hb, congrArg (fun x => Instr.queryContext tag (.fields x)) hb⟩

/-- The 34 bytes of BAND-SET's fields (11.3). -/
def bandSetBytes (f : BandSetFields) : List Byte :=
  [f.band, f.state, f.namespaceNumber, f.format, f.metaMode, f.bindingPresent, f.slot] ++ leWord 2 f.generation ++
    [f.locks, f.saltPresent] ++ leWord 4 f.salt ++ [f.tripMask, f.latchedAction, f.pfailResponse] ++
    leWord 8 f.extentA ++ leWord 8 f.extentB

theorem bandSetFields_bandSetBytes (f : BandSetFields) : bandSetFields (bandSetBytes f) = f := by
  have hbyte : ∀ b after, BitVec.ofNat 8 (leNat ((b :: after : List Byte).take 1)) = b := fun b after => byteAt_zero b after
  have hgeneration := ofNat_leNat_leWord 2 f.generation rfl
  have hsalt := ofNat_leNat_leWord 4 f.salt rfl
  have hA := ofNat_leNat_leWord 8 f.extentA rfl
  have hB := ofNat_leNat_leWord 8 f.extentB rfl
  have h7 : BitVec.ofNat 16 (fieldAt (bandSetBytes f) 7 2) = f.generation := hgeneration
  have h11 : BitVec.ofNat 32 (fieldAt (bandSetBytes f) 11 4) = f.salt := hsalt
  have h18 : BitVec.ofNat 64 (fieldAt (bandSetBytes f) 18 8) = f.extentA := hA
  have h26 : BitVec.ofNat 64 (fieldAt (bandSetBytes f) 26 8) = f.extentB := hB
  have h0 : byteAt (bandSetBytes f) 0 = f.band := hbyte _ _
  have h1 : byteAt (bandSetBytes f) 1 = f.state := hbyte _ _
  have h2 : byteAt (bandSetBytes f) 2 = f.namespaceNumber := hbyte _ _
  have h3 : byteAt (bandSetBytes f) 3 = f.format := hbyte _ _
  have h4 : byteAt (bandSetBytes f) 4 = f.metaMode := hbyte _ _
  have h5 : byteAt (bandSetBytes f) 5 = f.bindingPresent := hbyte _ _
  have h6 : byteAt (bandSetBytes f) 6 = f.slot := hbyte _ _
  have h9 : byteAt (bandSetBytes f) 9 = f.locks := hbyte _ _
  have h10 : byteAt (bandSetBytes f) 10 = f.saltPresent := hbyte _ _
  have h15 : byteAt (bandSetBytes f) 15 = f.tripMask := hbyte _ _
  have h16 : byteAt (bandSetBytes f) 16 = f.latchedAction := hbyte _ _
  have h17 : byteAt (bandSetBytes f) 17 = f.pfailResponse := hbyte _ _
  rw [bandSetFields, h0, h1, h2, h3, h4, h5, h6, h7, h9, h10, h11, h15, h16, h17, h18, h26]

theorem requestCommand_bandSet (f : BandSetFields) : requestCommand tag 0x07 (bandSetBytes f) = .bandSet tag (.fields f) := by
  have hbody := bodyOf_of_length (bandSetFields (bandSetBytes f)) (show (bandSetBytes f).length = 34 from rfl)
  rw [bandSetFields_bandSetBytes] at hbody
  exact (congrArg (fun g => Instr.bandSet tag (bodyOf 34 (bandSetBytes f) g)) (bandSetFields_bandSetBytes f)).trans
    (congrArg (Instr.bandSet tag) hbody)

end Requests

end Sys2Proof.Machine

/-! PROOFS. The layouts of the frames, assembled (R143, R145, R172 to R174). -/

namespace Sys2Proof.Machine

theorem leBytes_getElem? (size n : Nat) {j : Nat} (h : j < size) :
    (leBytes size n)[j]? = some (BitVec.ofNat 8 (n / 256 ^ j)) := by
  rw [leBytes_eq_map, List.getElem?_map, List.getElem?_range h, Option.map_some]

/-- The frame that front-out sends (R151). -/
theorem frontFrame_eq (s : State) : (s.frontSending = none → s.frontFrame = none) ∧
    (∀ k n, s.frontSending = some (.notice k) → s.noticeSlots[k.idx] = some n → s.frontFrame = some n.bytes) ∧
    (∀ r rest, s.frontSending = some .reply → s.replies = r :: rest → s.frontFrame = some r.bytes) ∧
    (∀ e rest, s.frontSending = some .data → s.frontQueue = e :: rest → s.frontFrame = some e.bytes) := by
  refine ⟨fun h => ?_, fun k n h hn => ?_, fun r rest h hr => ?_, fun e rest h he => ?_⟩
  · rw [State.frontFrame, h]
  · rw [State.frontFrame, h]
    dsimp only
    rw [hn]
    rfl
  · rw [State.frontFrame, h, hr]
    rfl
  · rw [State.frontFrame, h, he]
    rfl

theorem backFrame_eq (s : State) :
    (∀ e rest, s.backSending = true → s.backQueue = e :: rest → s.backFrame = some e.bytes) ∧
    (s.backSending = false → s.backFrame = none) := by
  refine ⟨fun e rest h he => ?_, fun h => ?_⟩
  · rw [State.backFrame, if_pos h, he]
    rfl
  · rw [State.backFrame, if_neg (by rw [h]; decide)]

theorem wrongLength_requests (tag : Byte) (rest : List Byte) :
    (rest.length ≠ 33 → requestCommand tag 0x01 rest = .wrapLoad tag (.wrongLength rest)) ∧
    (rest.length ≠ 74 → requestCommand tag 0x02 rest = .keyLoad tag (.wrongLength rest)) ∧
    (rest.length ≠ 1 → requestCommand tag 0x03 rest = .querySlot tag (.wrongLength rest) ∧
      requestCommand tag 0x04 rest = .keyPurge tag (.wrongLength rest) ∧
      requestCommand tag 0x09 rest = .queryBand tag (.wrongLength rest) ∧
      requestCommand tag 0x0C rest = .tripClear tag (.wrongLength rest) ∧
      requestCommand tag 0x0E rest = .noticeAck tag (.wrongLength rest) ∧
      requestCommand tag 0x0F rest = .queryContext tag (.wrongLength rest)) ∧
    (rest.length ≠ 0 → requestCommand tag 0x05 rest = .purgeAll tag (.wrongLength rest) ∧
      requestCommand tag 0x0B rest = .tripForce tag (.wrongLength rest) ∧
      requestCommand tag 0x10 rest = .goOnline tag (.wrongLength rest) ∧
      requestCommand tag 0x12 rest = .queryStatus tag (.wrongLength rest)) ∧
    (rest.length ≠ 4 → requestCommand tag 0x06 rest = .setGrace tag (.wrongLength rest) ∧
      requestCommand tag 0x0A rest = .migrateStart tag (.wrongLength rest) ∧
      requestCommand tag 0x11 rest = .timeSet tag (.wrongLength rest)) ∧
    (rest.length ≠ 34 → requestCommand tag 0x07 rest = .bandSet tag (.wrongLength rest)) ∧
    (rest.length ≠ 2 → requestCommand tag 0x08 rest = .bandLock tag (.wrongLength rest) ∧
      requestCommand tag 0x0D rest = .noticePeriod tag (.wrongLength rest)) := by
  refine ⟨fun h => congrArg (Instr.wrapLoad tag) (bodyOf_of_ne _ h), fun h => congrArg (Instr.keyLoad tag) (bodyOf_of_ne _ h),
    fun h => ⟨congrArg (Instr.querySlot tag) (bodyOf_of_ne _ h), congrArg (Instr.keyPurge tag) (bodyOf_of_ne _ h),
      congrArg (Instr.queryBand tag) (bodyOf_of_ne _ h), congrArg (Instr.tripClear tag) (bodyOf_of_ne _ h),
      congrArg (Instr.noticeAck tag) (bodyOf_of_ne _ h), congrArg (Instr.queryContext tag) (bodyOf_of_ne _ h)⟩,
    fun h => ⟨congrArg (Instr.purgeAll tag) (bodyOf_of_ne _ h), congrArg (Instr.tripForce tag) (bodyOf_of_ne _ h),
      congrArg (Instr.goOnline tag) (bodyOf_of_ne _ h), congrArg (Instr.queryStatus tag) (bodyOf_of_ne _ h)⟩,
    fun h => ⟨congrArg (Instr.setGrace tag) (bodyOf_of_ne _ h), congrArg (Instr.migrateStart tag) (bodyOf_of_ne _ h),
      congrArg (Instr.timeSet tag) (bodyOf_of_ne _ h)⟩, fun h => congrArg (Instr.bandSet tag) (bodyOf_of_ne _ h),
    fun h => ⟨congrArg (Instr.bandLock tag) (bodyOf_of_ne _ h), congrArg (Instr.noticePeriod tag) (bodyOf_of_ne _ h)⟩⟩

/-! ### Frames whose length is known -/

theorem frameBytes_of_length (kind fourth : Byte) {body : List Byte} {n : Nat} (h : body.length = n) :
    frameBytes kind fourth body = kind :: BitVec.ofNat 8 n :: BitVec.ofNat 8 (n / 256) :: fourth :: body := by
  rw [frameBytes, h]
  rfl

theorem frameBytes_of_small (kind fourth : Byte) {body : List Byte} {n : Nat} (h : body.length = n) (hn : n < 256) :
    frameBytes kind fourth body = [kind, BitVec.ofNat 8 n, 0, fourth] ++ body := by
  rw [frameBytes_of_length kind fourth h, Nat.div_eq_of_lt hn]
  rfl

theorem detail_length (d : Detail) : d.bytes.length = 10 := by
  have hused : d.usedBytes.length ≤ 10 := by
    cases d with
    | trip cause latched => exact (by decide : 2 ≤ 10)
    | keyfault subject cut => cases subject <;> exact (by decide : 3 ≤ 10)
    | purge k cause drained cut => exact (by decide : 4 ≤ 10)
    | migrate i kind w => exact (by decide : 10 ≤ 10)
    | discard kind ctx counter => exact (by decide : 6 ≤ 10)
  rw [Detail.bytes, List.length_append, List.length_replicate]
  omega

/-- The bytes of a NOTICE frame (R174, 11.4). -/
theorem notice_bytes (time : BitVec 32) (count : Nat) (d : Detail) : (Notice.mk ⟨time, d⟩ count).bytes =
    [0x14, 15, 0, d.noticeClass.code] ++ leWord 4 time ++ [BitVec.ofNat 8 count] ++ d.bytes := by
  have hlength : (leWord 4 time ++ [countByte count] ++ d.bytes).length = 15 := by
    rw [List.length_append, detail_length]
    rfl
  rw [List.append_assoc, List.append_assoc, ← List.append_assoc (leWord 4 time)]
  exact frameBytes_of_small 0x14 d.noticeClass.code hlength (by decide)

/-- The bytes of the frames of the data queues (11.2). -/
theorem entry_bytes (id : CtxId) (bytes : List Byte) (status : TransferStatus) (sectors : Nat) (elapsed : BitVec 32) :
    (FrontEntry.data id bytes).bytes = [0x02] ++ leBytes 2 bytes.length ++ [ctxByte id] ++ bytes ∧
    (BackEntry.data id bytes).bytes = [0x02] ++ leBytes 2 bytes.length ++ [ctxByte id] ++ bytes ∧
    (FrontEntry.done id status sectors elapsed).bytes =
      [0x11, 9, 0, ctxByte id, status.code] ++ leBytes 4 sectors ++ leWord 4 elapsed ∧
    (FrontEntry.refusal id status).bytes = [0x11, 9, 0, ctxByte id, status.code, 0, 0, 0, 0, 0, 0, 0, 0] ∧
    (BackEntry.ended id status sectors).bytes = [0x12, 5, 0, ctxByte id, status.code] ++ leBytes 4 sectors := by
  refine ⟨rfl, rfl, ?_, ?_, ?_⟩
  · exact frameBytes_of_small 0x11 (ctxByte id) (show (doneBody status sectors elapsed).length = 9 from rfl) (by decide)
  · have hzeros : leBytes 4 0 ++ leWord 4 (0 : BitVec 32) = [0, 0, 0, 0, 0, 0, 0, 0] := by decide
    refine (frameBytes_of_small 0x11 (ctxByte id) (show (doneBody status 0 0).length = 9 from rfl) (by decide)).trans ?_
    rw [doneBody, List.append_assoc, hzeros]
    rfl
  · exact frameBytes_of_small 0x12 (ctxByte id) (show (endedBody status sectors).length = 5 from rfl) (by decide)

/-- Settles O13. -/
theorem framesFollowTheirLayouts : Obligations.FramesFollowTheirLayouts := by
  refine ⟨fun size n => ⟨leBytes_length size n, fun j => leBytes_getElem? size n, fun w v => rfl⟩, fun lane frame => ?anyFrame,
    fun lane kind l0 l1 id body frame hframe => ?malformed, fun lane id flags ns first count bytes hid hlen => ?transfers,
    fun tag request hrequest => ?requests, fun id bytes status sectors elapsed c hc => ?outbound, fun r => ?reply,
    ?results, fun time count notice head hnotice hhead => ?notices, rfl, rfl, rfl, rfl, rfl, rfl, rfl, ?sets, fun s => ?sending⟩
  case anyFrame =>
    obtain ⟨hwell, hframe, hlane⟩ := frameCommand_wellFormed lane frame
    exact ⟨hwell, hframe, hlane, fun h => ⟨frameCommand_of_malformed (frameMalformed_of_short h), malformedCtx_of_short h⟩⟩
  case malformed =>
    subst hframe
    exact ⟨(frameCommand_malformed_iff lane kind l0 l1 id body).trans (frameMalformed_iff lane kind l0 l1 id body),
      malformedCtx_iff kind l0 l1 id body⟩
  case transfers =>
    exact ⟨frame_open id 0x01 flags ns first count hid (.inl rfl), frame_open id 0x02 flags ns first count hid (.inr rfl),
      frame_data lane hid hlen, frame_abort hid⟩
  case requests =>
    have hr : ∀ code rest, rest.length ≤ 74 → request (code :: rest) = requestCommand tag code rest :=
      fun code rest h => (hrequest _).trans (frame_request tag code h)
    refine ⟨fun f => ?_, fun f => ?_, fun f => ?_, fun f => ?_, fun f => ?_, fun f => ?_, fun v => ?_, fun b => ?_,
      hr 0x05 [] (by decide), hr 0x0B [] (by decide), hr 0x10 [] (by decide), hr 0x12 [] (by decide), fun rest h => ?_⟩
    · exact (hr 0x01 _ (by simp [leWord_length])).trans (requestCommand_wrapLoad tag f)
    · exact (hr 0x02 _ (by simp [leWord_length])).trans (requestCommand_keyLoad tag f)
    · exact (hr 0x07 (bandSetBytes f) (by rw [show (bandSetBytes f).length = 34 from rfl]; decide)).trans
        (requestCommand_bandSet tag f)
    · exact (hr 0x08 [f.band, f.locks] (by simp)).trans (requestCommand_bytes tag f.band f.locks).1
    · exact (hr 0x0A _ (by simp [leWord_length])).trans (requestCommand_migrateStart tag f)
    · exact (hr 0x0D [f.noticeClass, f.period] (by simp)).trans (requestCommand_bytes tag f.noticeClass f.period).2
    · obtain ⟨hgrace, htime⟩ := requestCommand_word tag v
      exact ⟨(hr 0x06 _ (by simp [leWord_length])).trans hgrace, (hr 0x11 _ (by simp [leWord_length])).trans htime⟩
    · obtain ⟨h3, h4, h9, hc, he, hf⟩ := requestCommand_byte tag b
      exact ⟨(hr 0x03 [b] (by simp)).trans h3, (hr 0x04 [b] (by simp)).trans h4, (hr 0x09 [b] (by simp)).trans h9,
        (hr 0x0C [b] (by simp)).trans hc, (hr 0x0E [b] (by simp)).trans he, (hr 0x0F [b] (by simp)).trans hf⟩
    · simp only [hr _ rest h]
      obtain ⟨h1, h2, hone, hnone, hfour, hset, htwo⟩ := wrongLength_requests tag rest
      exact ⟨h1, h2, hone, hnone, hfour, hset, htwo, fun code hcode => requestCommand_undefined tag rest hcode⟩
  case outbound =>
    subst hc
    exact entry_bytes id bytes status sectors elapsed
  case reply =>
    rw [Reply.bytes, frameBytes, List.length_append, show [r.code, r.status.code].length = 2 from rfl]
    rfl
  case results =>
    refine ⟨rfl, fun _ _ => rfl, fun _ _ _ => rfl, fun _ => rfl, fun _ => rfl, fun _ _ => rfl, fun _ => rfl, fun _ _ => rfl,
      fun _ => rfl, fun _ => rfl, fun r => ⟨rfl, rfl⟩, fun r => ⟨rfl, rfl⟩, fun r => ⟨rfl, rfl⟩, fun r => ⟨rfl, rfl⟩⟩
  case notices =>
    have hframe : ∀ (d : Detail) (code : Byte) (used pad : List Byte), d.noticeClass.code = code →
        d.bytes = used ++ pad → notice d = head code ++ used ++ pad := fun d code used pad hcode hbytes => by
      rw [hnotice, notice_bytes, hcode, hbytes, hhead, List.append_assoc]
      simp only [List.append_assoc]
    have hmigrate : ∀ i kind w, (Detail.migrate i kind w).bytes = [BitVec.ofNat 8 i.val, kind.code] ++ leBytes 8 w :=
      fun i kind w => List.append_nil _
    refine ⟨fun cause x => hframe _ _ _ _ rfl rfl, fun k n => hframe _ _ _ _ rfl rfl, fun w n => hframe _ _ _ _ rfl rfl,
      fun k cause drained cut => hframe _ _ _ _ rfl rfl, fun i kind w => ?_,
      fun kind n => hframe _ 4 ([kind.code, 0xFF] ++ leWord 4 n) _ rfl rfl |>.trans ?_,
      fun kind id n => hframe _ 4 ([kind.code, BitVec.ofNat 8 id.val] ++ leWord 4 n) _ rfl rfl |>.trans ?_⟩
    · have h := hframe (.migrate i kind w) 3 ([BitVec.ofNat 8 i.val, kind.code] ++ leBytes 8 w) [] rfl
        ((hmigrate i kind w).trans (List.append_nil _).symm)
      rw [List.append_nil, ← List.append_assoc] at h
      exact h
    · simp only [List.append_assoc] <;> rfl
    · simp only [List.append_assoc] <;> rfl
  case sets =>
    intro a b c
    revert a b c
    decide
  case sending =>
    obtain ⟨hnone, hnotice, hreply, hdata⟩ := frontFrame_eq s
    obtain ⟨hback, hidle⟩ := backFrame_eq s
    exact ⟨hnone, hnotice, hreply, hdata, hback, hidle⟩

end Sys2Proof.Machine

/-! PROOFS. The beginning of a purge (R94 to R98, R102, R123): the changes it drops, the migrations it fails, the
contexts it cuts, and what it leaves of its slot. -/

namespace Sys2Proof.Machine

/-! ### Ends that have queued their frames -/

/-- Each context that has ended between two states has its DONE in front-out, and a write its END in back-out, with one
of some statuses. -/
def State.EndQueued (ok : TransferStatus → Prop) (s t : State) : Prop :=
  ∀ (id : CtxId) (c : Context), s.contexts[id] = some c → t.contexts[id] = none → ∃ status, ok status ∧
    FrontEntry.done id status c.sectorsDone (s.linkTime - c.openTime) ∈ t.frontQueue ∧
    (c.dir = .write → BackEntry.ended id status c.sectorsDone ∈ t.backQueue)

theorem State.EndQueued.refl (ok : TransferStatus → Prop) (s : State) : State.EndQueued ok s s :=
  fun id c hc hnone => by rw [hc] at hnone; cases hnone

theorem State.EndQueued.endOne {s t : State} {ok : TransferStatus → Prop} (h : State.EndQueued ok s t)
    (he : ∀ id : CtxId, t.contexts[id] = none ∨ t.contexts[id] = s.contexts[id]) (hl : t.linkTime = s.linkTime)
    (kind : EndKind) (id : CtxId) {status : TransferStatus} (hok : ok status) :
    State.EndQueued ok s (t.endAs kind id status) := by
  intro j c hs hnone
  obtain ⟨hfront, hback⟩ := endAs_queues t kind id status
  rw [endAs_contexts] at hnone
  by_cases hopen : t.contexts[j] = none
  · obtain ⟨st, hst, hdone, hend⟩ := h j c hs hopen
    rw [hfront, hback]
    exact ⟨st, hst, List.mem_append_left _ hdone, fun hd => List.mem_append_left _ (hend hd)⟩
  · have hid : id = j := by
      by_contra hne
      rw [if_neg hne] at hnone
      exact hopen hnone
    subst hid
    have ht : t.contexts[id] = some c := by
      obtain hclosed | hsame := he id
      · exact absurd hclosed hopen
      · exact hsame.trans hs
    rw [hfront, hback, State.doneFor, State.endFor, ht, hl]
    refine ⟨status, hok, List.mem_append_right _ List.mem_cons_self, fun hd => List.mem_append_right _ ?_⟩
    rw [Option.bind_some, if_pos hd]
    exact List.mem_cons_self

theorem State.EndQueued.congr {s t t' : State} {ok : TransferStatus → Prop} (h : State.EndQueued ok s t)
    (ht : t'.transfers = t.transfers) : State.EndQueued ok s t' := by
  obtain ⟨hfront, _, hback, _⟩ := queues_of_transfers ht
  intro id c hs hnone
  rw [contexts_of_transfers ht] at hnone
  rw [hfront, hback]
  exact h id c hs hnone

/-! ### Staged changes that name the slot -/

section Begin

variable (s : State) (k : SlotId)

/-- A band whose staged change is dropped where it names a slot (R98). -/
def Band.unnamed (b : Band) (k : SlotId) : Band := if b.changeNames k then { b with pending := none } else b

/-- The ABANDONED reply of a staged change that names a slot (R66, R98). -/
def State.droppedReply (s : State) (i : BandId) : Option Reply :=
  (s.bands[i]).bind fun b => if b.changeNames k then b.pending.bind fun p => p.owed.map fun owed => match p.change with
    | .bandSet _ => ⟨owed, 0x07, .abandoned, .band (BitVec.ofNat 8 i.val)⟩
    | .migrateStart _ _ => ⟨owed, 0x0A, .abandoned, .migrateStart (BitVec.ofNat 8 i.val) 0⟩
  else none

/-- One band's part of the dropping (R98). -/
def State.dropAt (s : State) (i : BandId) : State :=
  match s.bands[i] with
  | none => s
  | some b => if b.changeNames k then s.dropPending i else s

theorem dropNaming_eq : s.dropNaming k = inOrder (fun i t => State.dropAt k t i) allBands s := rfl

theorem dropAt_replies (i : BandId) (t : State) :
    (State.dropAt k t i).replies = t.replies ++ (State.droppedReply k t i).toList := by
  unfold State.dropAt State.droppedReply
  cases hb : t.bands[i] with
  | none => exact (List.append_nil _).symm
  | some b =>
    dsimp only [Option.bind_some]
    split
    · rw [dropPending_replies, State.abandonedChange, hb]
      rfl
    · exact (List.append_nil _).symm

theorem dropAt_bands_ne {i j : BandId} (t : State) (h : i ≠ j) : (State.dropAt k t i).bands[j] = t.bands[j] := by
  unfold State.dropAt
  split
  · rfl
  · split
    · rw [dropPending_bands_get, if_neg h]
    · rfl

theorem dropNaming_replies : (s.dropNaming k).replies = s.replies ++ allBands.filterMap (State.droppedReply k s) := by
  rw [dropNaming_eq]
  refine inOrder_replies (fun i t => dropAt_replies k i t) (fun i j t h => ?_) (List.nodup_finRange 32) s
  rw [State.droppedReply, dropAt_bands_ne k t h]
  rfl

/-! ### Migrations that fail -/

/-- The FAILED event of a band (R97, R125). -/
def State.failedEvent (s : State) (i : BandId) : Option Detail :=
  (s.bands[i]).bind fun b => if b.failsWith k then b.migration.map fun r => .migrate i .failed r.w else none

theorem mem_failing {i : BandId} : i ∈ s.failing k ↔ ∃ b, s.bands[i] = some b ∧ b.failsWith k = true := by
  rw [State.failing, List.mem_filter]
  cases s.bands[i] <;> simp

theorem reportFailed_reports (i : BandId) (t : State) :
    (t.reportAll (((t.bands[i]).bind fun b => b.migration.map fun r => Detail.migrate i .failed r.w)).toList).SameNotices
      (t.reportFailed i) := by
  unfold State.reportFailed
  cases t.bands[i] with
  | none => exact ⟨rfl, rfl⟩
  | some b =>
    dsimp only [Option.bind_some]
    cases b.migration <;> exact ⟨rfl, rfl⟩

theorem reportFailed_linkTime (i : BandId) (t : State) : (t.reportFailed i).linkTime = t.linkTime := by
  unfold State.reportFailed
  split
  · rfl
  · exact report_linkTime t _

theorem unbind_reports : (s.reportAll (allBands.filterMap (State.failedEvent k s))).SameNotices (s.unbind k) := by
  have hlist : allBands.filterMap (State.failedEvent k s) =
      (s.failing k).filterMap fun i => (s.bands[i]).bind fun b => b.migration.map fun r => Detail.migrate i .failed r.w := by
    rw [State.failing, List.filterMap_filter]
    refine List.filterMap_congr fun i _ => ?_
    unfold State.failedEvent
    cases s.bands[i] <;> rfl
  rw [hlist]
  have hreports := inOrder_reports (f := fun i t => State.reportFailed t i)
    (g := fun t i => (t.bands[i]).bind fun b => b.migration.map fun r => Detail.migrate i .failed r.w)
    (fun i t => reportFailed_reports i t) (fun i t => reportFailed_linkTime i t)
    (fun i j t _ => by rw [reportFailed_bands]) ((List.nodup_finRange 32).filter _ : (s.failing k).Nodup) s
  exact hreports.trans ⟨rfl, rfl⟩

theorem failing_congr {s t : State} (h : ∀ i : BandId, ((t.bands[i]).map fun b => b.failsWith k) =
    (s.bands[i]).map fun b => b.failsWith k) : t.failing k = s.failing k := by
  refine List.filter_congr fun i _ => ?_
  have hi := h i
  cases ht : t.bands[i] <;> cases hs : s.bands[i] <;> simp_all

theorem unnamed_failsWith (b : Band) : (b.unnamed k).failsWith k = b.failsWith k := by
  unfold Band.unnamed
  split <;> rfl

end Begin

/-! ### The first steps of a purge -/

section Start

variable (s : State) (k : SlotId) (m : Material) (a : Account)

theorem startPurge_bands_get (i : BandId) :
    (s.startPurge k m a).bands[i] = (s.bands[i]).map fun b => (b.unnamed k).unbound k := by
  rw [State.startPurge, unbind_get, dropNaming_bands_get, Option.map_map]
  rfl

theorem startPurge_contexts : (s.startPurge k m a).contexts = s.contexts :=
  contexts_of_transfers (startPurge_transfers s k m a)

theorem startPurge_linkTime : (s.startPurge k m a).linkTime = s.linkTime :=
  linkTime_of_outside (startPurge_outside s k m a)

theorem startPurge_slots_self : (s.startPurge k m a).slots[k] = { s.slots[k] with state := .purging m a } := by
  rw [startPurge_slots]
  exact setSlot_get_self s k _

theorem startPurge_slots_ne {j : SlotId} (h : j ≠ k) : (s.startPurge k m a).slots[j] = s.slots[j] := by
  rw [startPurge_slots]
  exact setSlot_get_ne s _ h.symm

theorem startPurge_replies : (s.startPurge k m a).replies = s.replies ++ allBands.filterMap (State.droppedReply k s) :=
  (unbind_replies _ k).trans (dropNaming_replies _ k)

theorem startPurge_reports :
    (s.reportAll (allBands.filterMap (State.failedEvent k s))).SameNotices (s.startPurge k m a) := by
  have hdropped : s.SameNotices ((s.setSlot k { s.slots[k] with state := .purging m a }).dropNaming k) :=
    State.SameNotices.trans (t := s.setSlot k { s.slots[k] with state := .purging m a }) ⟨rfl, rfl⟩
      (dropNaming_sameNotices _ k)
  have hevents : State.failedEvent k ((s.setSlot k { s.slots[k] with state := .purging m a }).dropNaming k) =
      State.failedEvent k s := by
    funext i
    rw [State.failedEvent, State.failedEvent, dropNaming_bands_get]
    show ((s.bands[i]).map _).bind _ = _
    cases s.bands[i] with
    | none => rfl
    | some b =>
      dsimp only [Option.map_some, Option.bind_some]
      split <;> rfl
  have hreports := unbind_reports ((s.setSlot k { s.slots[k] with state := .purging m a }).dropNaming k) k
  rw [hevents] at hreports
  exact (reportAll_sameNotices hdropped (linkTime_of_outside (dropNaming_outside _ k)) _).trans hreports

theorem startPurge_failing :
    ((s.setSlot k { s.slots[k] with state := .purging m a }).dropNaming k).failing k = s.failing k := by
  refine failing_congr k fun i => ?_
  rw [dropNaming_bands_get]
  show ((s.bands[i]).map _).map _ = _
  cases s.bands[i] with
  | none => rfl
  | some b => exact congrArg some (unnamed_failsWith k b)

/-- Whether the event that begins a purge cuts a context (R97, R102). -/
def State.cutByPurge (s : State) (k : SlotId) (grace : Nat) (c : Context) : Bool :=
  (s.failing k).any (fun i => c.names i) || (grace == 0 && c.holds k)

/-- A beginning purge behind its cuts (R96, R97, R102). -/
def State.purgeCuts (s : State) (k : SlotId) (m : Material) (a : Account) : State :=
  let cut := inAnyOrder (fun id t => State.endAs t .cut id .keyPurged) ((s.startPurge k m a).namingAny (s.failing k))
    (s.startPurge k m a)
  if a.grace = 0 then cut.cutAll .keyPurged (cut.holdersOf k) else cut

theorem purgeSteps_eq_cuts (deferred : Bool) : s.purgeSteps deferred k m a =
    if ((s.purgeCuts k m a).slots[k]).holders = 0 ∨ a.grace = 0 then
      ((s.purgeCuts k m a).settleCuts deferred (some k)).endPurge k
    else (s.purgeCuts k m a).settleCuts deferred (some k) := by
  rw [purgeSteps_eq, startPurge_failing]
  unfold State.finishPurge State.purgeCuts
  by_cases hg : a.grace = 0
  · simp only [hg, if_true, or_true]
    rfl
  · simp only [hg, if_false, or_false]
    rfl

theorem purgeCuts_contexts (id : CtxId) : (s.purgeCuts k m a).contexts[id] =
    if (s.contexts[id]).any (s.cutByPurge k a.grace) then none else s.contexts[id] := by
  have hnaming : ∀ t : State, (inAnyOrder (fun id t => State.endAs t .cut id .keyPurged)
      ((s.startPurge k m a).namingAny (s.failing k)) t).contexts[id] =
      if (s.contexts[id]).any (fun c => (s.failing k).any fun i => c.names i) then none else t.contexts[id] := by
    intro t
    rw [inAnyOrder_endAs_contexts]
    refine if_congr (mem_openWith.trans ?_) rfl rfl
    rw [startPurge_contexts]
    cases s.contexts[id] <;> simp
  unfold State.purgeCuts State.cutByPurge
  dsimp only
  split
  · rename_i hg
    rw [cutHolders_contexts, hnaming, startPurge_contexts, hg]
    cases s.contexts[id] with
    | none => rfl
    | some c => cases h : (s.failing k).any fun i => c.names i <;> simp [h]
  · rename_i hg
    rw [hnaming, startPurge_contexts]
    cases s.contexts[id] with
    | none => rfl
    | some c => simp [hg]

theorem purgeCuts_ended : (s.startPurge k m a).Ended .cut (s.purgeCuts k m a) := by
  unfold State.purgeCuts
  dsimp only
  split
  · exact State.Ended.endEach ((State.Ended.refl .cut _).endEachFree _ .keyPurged) _ .keyPurged
  · exact (State.Ended.refl .cut _).endEachFree _ .keyPurged

theorem purgeCuts_onlyEnds : (s.startPurge k m a).OnlyEnds (s.purgeCuts k m a) := by
  unfold State.purgeCuts
  dsimp only
  split
  · exact (endEachFree_onlyEnds _ .cut _ .keyPurged).trans (cutAll_onlyEnds _ .keyPurged _)
  · exact endEachFree_onlyEnds _ .cut _ .keyPurged

theorem purgeCuts_endQueued : State.EndQueued (· = .keyPurged) (s.startPurge k m a) (s.purgeCuts k m a) := by
  have hstep : ∀ (id : CtxId) (t : State), (State.EndQueued (· = .keyPurged) (s.startPurge k m a) t ∧
      (s.startPurge k m a).Ended .cut t ∧ (s.startPurge k m a).OnlyEnds t) →
      State.EndQueued (· = .keyPurged) (s.startPurge k m a) (t.endAs .cut id .keyPurged) ∧
      (s.startPurge k m a).Ended .cut (t.endAs .cut id .keyPurged) ∧
      (s.startPurge k m a).OnlyEnds (t.endAs .cut id .keyPurged) := fun id t ⟨hq, he, ho⟩ =>
    ⟨hq.endOne he.contexts ho.same.2.2.1 .cut id rfl, he.endOne id .keyPurged, ho.trans (endAs_onlyEnds t .cut id .keyPurged)⟩
  have hnaming := inAnyOrder_induct (P := fun t => State.EndQueued (· = .keyPurged) (s.startPurge k m a) t ∧
      (s.startPurge k m a).Ended .cut t ∧ (s.startPurge k m a).OnlyEnds t)
    (fun id t => State.endAs t .cut id .keyPurged) ((s.startPurge k m a).namingAny (s.failing k)) (s.startPurge k m a)
    (fun t n ⟨hq, he, ho⟩ => ⟨hq.congr rfl, he.congr rfl rfl rfl, ho.trans ⟨_, _, _, _, _, _, _, _, rfl⟩⟩)
    (fun id _ t ht => hstep id t ht) ⟨.refl _ _, .refl _ _, .refl _⟩
  unfold State.purgeCuts
  dsimp only
  split
  · exact (inOrder_induct (P := fun t => State.EndQueued (· = .keyPurged) (s.startPurge k m a) t ∧
      (s.startPurge k m a).Ended .cut t ∧ (s.startPurge k m a).OnlyEnds t) _ _ _ (fun id _ t ht => hstep id t ht) hnaming).1
  · exact hnaming.1

theorem purgeCuts_linkTime : (s.purgeCuts k m a).linkTime = s.linkTime :=
  (purgeCuts_onlyEnds s k m a).same.2.2.1.trans (startPurge_linkTime s k m a)

theorem purgeCuts_outside : (s.purgeCuts k m a).outside = s.outside :=
  (purgeCuts_onlyEnds s k m a).same.2.2.2.trans (startPurge_outside s k m a)

theorem purgeCuts_replies : (s.purgeCuts k m a).replies = s.replies ++ allBands.filterMap (State.droppedReply k s) :=
  (purgeCuts_onlyEnds s k m a).same.2.1.trans (startPurge_replies s k m a)

theorem purgeCuts_reports :
    (s.reportAll (allBands.filterMap (State.failedEvent k s))).SameNotices (s.purgeCuts k m a) :=
  (startPurge_reports s k m a).trans (purgeCuts_onlyEnds s k m a).same.1

end Start

end Sys2Proof.Machine

/-! PROOFS. KEY-PURGE (R95) and the state after the event that begins a purge (R94, R96 to R98, R101, R102). -/

namespace Sys2Proof.Machine

/-! ### The replies only grow -/

/-- The waiting replies begin with those of a list. -/
def State.RepliesFrom (rs : List Reply) (s : State) : Prop := ∃ new, s.replies = rs ++ new

theorem State.RepliesFrom.append {rs : List Reply} {s t : State} (h : s.RepliesFrom rs) {new : List Reply}
    (ht : t.replies = s.replies ++ new) : t.RepliesFrom rs := by
  obtain ⟨before, hs⟩ := h
  exact ⟨before ++ new, by rw [ht, hs, List.append_assoc]⟩

theorem State.RepliesFrom.congr {rs : List Reply} {s t : State} (h : s.RepliesFrom rs) (ht : t.replies = s.replies) :
    t.RepliesFrom rs := h.append (ht.trans (List.append_nil _).symm)

theorem State.RepliesFrom.payReply {rs : List Reply} {s t : State} (h : s.RepliesFrom rs) (ht : t.replies = s.replies)
    (owed : Option Byte) (code : RequestCode) (status : ReplyStatus) (result : Result) :
    (t.payReply owed code status result).RepliesFrom rs := h.append (payReply_replies ht owed code status result)

theorem repliesFrom_kept (rs : List Reply) : Kept (State.RepliesFrom rs) where
  choices _ _ h := h
  report s d h := h.congr (report_replies s d)
  discards _ _ h := h
  latched _ _ h := h
  setWrap _ _ _ h := h
  endAs s kind id status h := h.congr (endAs_onlyEnds s kind id status).same.2.1
  applyPending s i h := by
    obtain ⟨ok, hok, _⟩ := applyPending_replies s i
    exact h.append hok
  dropPending s i h := h.append (dropPending_replies i s)
  abandonLoad s k h := h.append (abandonLoad_replies k s)
  endPurge s k _ h := by
    unfold State.endPurge
    split
    · exact (h.payReply (t := s.erase k) rfl _ _ _ _).congr (report_replies _ _)
    · exact h
  lockBand _ _ h := h
  startPurge s k m a _ _ h := h.append (startPurge_replies s k m a)
  zeroGrace _ _ _ _ _ h := h
  poisonAndCut s k h := State.RepliesFrom.congr
    (s := s.setSlot k { s.slots[k] with state := (s.slots[k]).state.poison }) h
    (endEachFree_onlyEnds _ .cut _ .keyFault).same.2.1

theorem State.RepliesFrom.refl (s : State) : s.RepliesFrom s.replies := ⟨[], (List.append_nil _).symm⟩

/-! ### No band with the slot -/

theorem startPurge_unused (s : State) (k : SlotId) (m : Material) (a : Account) : ¬(s.startPurge k m a).uses k := by
  rintro ⟨i, b', hb', hu⟩
  rw [startPurge_bands_get] at hb'
  obtain ⟨b, _, rfl⟩ := Option.map_eq_some_iff.1 hb'
  obtain hu | hu | hu := hu
  · exact (unbound_boundTo hu).2 rfl
  · exact (unbound_migratesTo hu).2 rfl
  · have hnames := unbound_changeNames hu
    unfold Band.unnamed at hnames
    split at hnames
    · exact Bool.false_ne_true ((changeNames_unstaged rfl k).symm.trans hnames)
    · rename_i h
      exact h hnames

theorem State.Ended.uses {kind : EndKind} {s t : State} (h : s.Ended kind t) {k : SlotId} (hu : t.uses k) : s.uses k :=
  uses_of_map (fun i => ⟨_, h.bands i, fun _ _ hb => hb⟩) k hu

theorem applyIdleChanges_uses {s : State} {k : SlotId} (h : s.applyIdleChanges.uses k) : s.uses k :=
  inOrder_induct (P := fun t => t.uses k → s.uses k) _ _ _ (fun _ _ _ ht hu => ht (applyPending_uses k hu)) id h

theorem settleCuts_uses {s : State} {deferred : Bool} {except : Option SlotId} {k : SlotId}
    (h : (s.settleCuts deferred except).uses k) : s.uses k := by
  unfold State.settleCuts at h
  have hsettled := uses_of_bands (drainIdle_bands _ except) h
  split at hsettled
  · exact hsettled
  · exact applyIdleChanges_uses hsettled

theorem unused_iff {s : State} {k : SlotId} : ¬s.uses k ↔ ∀ (i : BandId) (b : Band), s.bands[i] = some b →
    b.boundTo k = false ∧ b.migratesTo k = false ∧ b.changeNames k = false := by
  constructor
  · intro h i b hb
    have hnot : ¬b.uses k := fun hu => h ⟨i, b, hb, hu⟩
    unfold Band.uses at hnot
    simp only [not_or, Bool.not_eq_true] at hnot
    exact hnot
  · rintro h ⟨i, b, hb, hu⟩
    obtain ⟨h1, h2, h3⟩ := h i b hb
    unfold Band.uses at hu
    rw [h1, h2, h3] at hu
    simp at hu

/-! ### The event that begins a purge -/

theorem endedWith_before {s s' : State} (h : s'.contexts = s.contexts) (t : State) (p : Context → Bool) :
    s'.endedWith t p = s.endedWith t p := by
  rw [State.endedWith, h]
  rfl

theorem withoutEnded_before {s s' : State} (h : s'.contexts = s.contexts) (t : State) (i : BandId) :
    s'.withoutEnded t i = s.withoutEnded t i := by
  funext b
  rw [State.withoutEnded, endedWith_before h, h]
  rfl

/-- What the unbinding of a slot leaves of a band, item by item (R97). -/
theorem unbound_eq (b : Band) (k : SlotId) : b.unbound k = { b with
    fields := if b.boundTo k then { b.fields with binding := none } else b.fields
    migration := if b.failsWith k then none else b.migration
    writer := if b.failsWith k then none else b.writer } := by
  unfold Band.unbound
  cases b.failsWith k <;> cases b.boundTo k <;> rfl

theorem unnamed_eq (b : Band) (k : SlotId) :
    b.unnamed k = { b with pending := if b.changeNames k then none else b.pending } := by
  unfold Band.unnamed
  split <;> rfl

theorem unnamed_unbound_eq (b : Band) (k : SlotId) : (b.unnamed k).unbound k = { b with
    fields := if b.boundTo k then { b.fields with binding := none } else b.fields
    migration := if b.failsWith k then none else b.migration
    writer := if b.failsWith k then none else b.writer
    pending := if b.changeNames k then none else b.pending } := by
  rw [unbound_eq, unnamed_failsWith, unnamed_eq]
  rfl

section Steps

variable (s : State) (k : SlotId) (m : Material) (a : Account)

theorem purgeSteps_transfers (deferred : Bool) :
    (s.purgeSteps deferred k m a).transfers = (s.purgeCuts k m a).transfers := by
  rw [purgeSteps_eq_cuts]
  split
  · exact (endPurge_transfers _ k).trans (settleCuts_transfers _ _ _)
  · exact settleCuts_transfers _ _ _

theorem purgeSteps_contexts (deferred : Bool) (id : CtxId) : (s.purgeSteps deferred k m a).contexts[id] =
    if (s.contexts[id]).any (s.cutByPurge k a.grace) then none else s.contexts[id] := by
  rw [contexts_of_transfers (purgeSteps_transfers s k m a deferred)]
  exact purgeCuts_contexts s k m a id

theorem purgeSteps_bands (deferred : Bool) :
    (s.purgeSteps deferred k m a).bands = ((s.purgeCuts k m a).settleCuts deferred (some k)).bands := by
  rw [purgeSteps_eq_cuts]
  split
  · exact endPurge_bands _ k
  · rfl

theorem purgeSteps_unused (deferred : Bool) : ¬(s.purgeSteps deferred k m a).uses k := fun h =>
  startPurge_unused s k m a ((purgeCuts_ended s k m a).uses
    (settleCuts_uses (uses_of_bands (purgeSteps_bands s k m a deferred) h)))

/-- The account of a beginning purge with the holders that its event cuts. -/
def State.begunAccount (s : State) (k : SlotId) (m : Material) (a : Account) : Account :=
  { a with cut := a.cut + s.endedWith (s.purgeCuts k m a) fun c => c.holds k }

theorem purgeCuts_slots (j : SlotId) : (s.purgeCuts k m a).slots[j] =
    ((s.startPurge k m a).slots[j]).after .cut (s.endedWith (s.purgeCuts k m a) fun c => c.holds j) := by
  rw [(purgeCuts_ended s k m a).slots j, endedWith_before (startPurge_contexts s k m a)]

theorem begun_slot (deferred : Bool) : ((s.purgeCuts k m a).settleCuts deferred (some k)).slots[k] =
    { generation := (s.slots[k]).generation
      holders := (s.slots[k]).holders - s.endedWith (s.purgeCuts k m a) fun c => c.holds k
      state := .purging m (s.begunAccount k m a) } := by
  rw [settleCuts_slots_kept (.inr (.inr rfl)), purgeCuts_slots, startPurge_slots_self]
  rfl

theorem begun_state (deferred : Bool) :
    (((s.purgeCuts k m a).settleCuts deferred (some k)).slots[k]).state = .purging m (s.begunAccount k m a) := by
  rw [begun_slot]

/-- The purge has ended in the event that begins it, or it runs on with holders and grace left. -/
theorem purgeSteps_cases (deferred : Bool) :
    (s.purgeSteps deferred k m a = ((s.purgeCuts k m a).settleCuts deferred (some k)).endPurge k ∧
      ((s.slots[k]).holders - (s.endedWith (s.purgeCuts k m a) fun c => c.holds k) = 0 ∨ a.grace = 0)) ∨
    (s.purgeSteps deferred k m a = (s.purgeCuts k m a).settleCuts deferred (some k) ∧
      (s.slots[k]).holders - (s.endedWith (s.purgeCuts k m a) fun c => c.holds k) ≠ 0 ∧ a.grace ≠ 0) := by
  have hholders : ((s.purgeCuts k m a).slots[k]).holders =
      (s.slots[k]).holders - s.endedWith (s.purgeCuts k m a) fun c => c.holds k := by
    rw [purgeCuts_slots, startPurge_slots_self]
    rfl
  rw [purgeSteps_eq_cuts, hholders]
  split
  · rename_i h
    exact .inl ⟨rfl, h⟩
  · rename_i h
    exact .inr ⟨rfl, not_or.1 h⟩

theorem purgeSteps_endedWith (deferred : Bool) (p : Context → Bool) :
    s.endedWith (s.purgeSteps deferred k m a) p = s.endedWith (s.purgeCuts k m a) p :=
  endedWith_congr (contexts_of_transfers (purgeSteps_transfers s k m a deferred)) p

theorem purgeSteps_slotFollows (deferred : Bool) {x : SlotId} (hx : x ≠ k) :
    s.SlotFollows (s.purgeSteps deferred k m a) x fun a n => { a with cut := a.cut + n } := by
  have hslot : (s.purgeCuts k m a).slots[x] =
      (s.slots[x]).after .cut (s.endedWith (s.purgeCuts k m a) fun c => c.holds x) := by
    rw [purgeCuts_slots, startPurge_slots_ne s k m a hx]
  have hfollows := slotFollows_of_after hslot deferred (except := some k) fun h => hx (Option.some.inj h).symm
  obtain ⟨heq, _⟩ | ⟨heq, _⟩ := purgeSteps_cases s k m a deferred
  · rw [heq]
    exact State.SlotFollows.congr hfollows (contexts_of_transfers (endPurge_transfers _ k)) (endPurge_slots_ne _ hx)
      fun r hr => State.HasReply.endPurge hr k
  · rw [heq]
    exact hfollows

theorem purgeSteps_repliesFrom (deferred : Bool) : (s.purgeSteps deferred k m a).RepliesFrom
    (s.replies ++ allBands.filterMap (State.droppedReply k s)) := by
  have hcuts : (s.purgeCuts k m a).RepliesFrom (s.replies ++ allBands.filterMap (State.droppedReply k s)) :=
    ⟨[], by rw [purgeCuts_replies, List.append_nil]⟩
  have hsettled := (repliesFrom_kept _).settleCuts _ deferred (some k) hcuts
  obtain ⟨heq, _⟩ | ⟨heq, _⟩ := purgeSteps_cases s k m a deferred
  · rw [heq]
    exact hsettled.append (endPurge_replies (begun_state s k m a deferred))
  · rw [heq]
    exact hsettled

/-- A band that waits for nothing after the drop of its change keeps all that the purge and the ends do not take. -/
theorem purgeSteps_band {i : BandId} {b : Band} (hb : s.bands[i] = some b)
    (hp : b.pending = none ∨ b.changeNames k = true)
    (hbase : isBase i = false ∨ b.migration = none ∨ b.failsWith k = true ∨
      ∀ (j : BandId) (x : Band), s.bands[j] = some x → x.pending = none ∨ x.changeNames k = true) :
    (s.purgeSteps false k m a).bands[i] =
      some (s.withoutEnded (s.purgeSteps false k m a) i ((b.unnamed k).unbound k)) := by
  have hpending : ∀ x : Band, (x.pending = none ∨ x.changeNames k = true) → ((x.unnamed k).unbound k).pending = none := by
    intro x hx
    rw [unnamed_unbound_eq]
    exact hx.elim (fun h => ite_eq_left_iff.2 fun _ => h) fun h => if_pos h
  have hstarted : (s.startPurge k m a).bands[i] = some ((b.unnamed k).unbound k) := by
    rw [startPurge_bands_get, hb]
    rfl
  have hmigration : b.migration = none ∨ b.failsWith k = true → ((b.unnamed k).unbound k).migration = none := by
    intro h
    rw [unnamed_unbound_eq]
    exact h.elim (fun h => ite_eq_left_iff.2 fun _ => h) fun h => if_pos h
  rw [purgeSteps_bands, settleCuts_band (purgeCuts_ended s k m a) (some k) hstarted (hpending b hp) ?base,
    withoutEnded_congr (contexts_of_transfers (purgeSteps_transfers s k m a false)),
    withoutEnded_before (startPurge_contexts s k m a)]
  case base =>
    obtain h | h | h | h := hbase
    · exact .inl h
    · exact .inr (.inl (hmigration (.inl h)))
    · exact .inr (.inl (hmigration (.inr h)))
    · refine .inr (.inr fun j x hx => ?_)
      rw [startPurge_bands_get] at hx
      obtain ⟨y, hy, rfl⟩ := Option.map_eq_some_iff.1 hx
      exact hpending y (h j y hy)

end Steps

end Sys2Proof.Machine

/-! PROOFS. KEY-PURGE (R95): what it answers by the state of the slot, and the purge of a READY or POISONED one. -/

namespace Sys2Proof.Machine

/-! ### The notice unit -/

theorem reportAll_sameClass {s : State} {ds : List Detail} {c : NoticeClass} (h : ∀ d ∈ ds, c ≠ d.noticeClass) :
    s.SameClass (s.reportAll ds) c := by
  induction ds generalizing s with
  | nil => exact .refl s c
  | cons d ds ih =>
    exact (report_sameClass s d (h d List.mem_cons_self)).trans (ih fun e he => h e (List.mem_cons_of_mem d he))

section Steps

variable (s : State) (k : SlotId) (m : Material) (a : Account)

theorem failedEvent_class {d : Detail} (h : d ∈ allBands.filterMap (State.failedEvent k s)) : d.noticeClass = .migrate := by
  obtain ⟨i, _, hi⟩ := List.mem_filterMap.1 h
  obtain ⟨b, _, hb⟩ := Option.bind_eq_some_iff.1 hi
  split at hb
  · obtain ⟨r, _, rfl⟩ := Option.map_eq_some_iff.1 hb
    rfl
  · cases hb

theorem purgeCuts_sameClass {c : NoticeClass} (hc : c ≠ .migrate) : s.SameClass (s.purgeCuts k m a) c :=
  (reportAll_sameClass fun d hd => by rw [failedEvent_class s k hd]; exact hc).trans
    ((purgeCuts_reports s k m a).sameClass c)

theorem purgeSteps_sameClass_of_settled {c : NoticeClass} (hc : c ≠ .purge) (deferred : Bool)
    (h : (s.purgeCuts k m a).SameClass ((s.purgeCuts k m a).settleCuts deferred (some k)) c) :
    (s.purgeCuts k m a).SameClass (s.purgeSteps deferred k m a) c := by
  obtain ⟨heq, _⟩ | ⟨heq, _⟩ := purgeSteps_cases s k m a deferred
  · rw [heq]
    exact h.trans (endPurge_sameClass hc _ k)
  · rw [heq]
    exact h

/-- Where every staged change is dropped, the FAILED events are all of the class MIGRATE. -/
theorem purgeSteps_migrateClass (h : ∀ (j : BandId) (x : Band), s.bands[j] = some x → x.pending = none ∨ x.changeNames k = true) :
    (s.reportAll (allBands.filterMap (State.failedEvent k s))).SameClass (s.purgeSteps false k m a) .migrate := by
  have hunstaged : (s.purgeCuts k m a).applyIdleChanges = s.purgeCuts k m a := by
    refine applyIdleChanges_of_unstaged ((purgeCuts_ended s k m a).unstaged fun j x hx => ?_)
    rw [startPurge_bands_get] at hx
    obtain ⟨y, hy, rfl⟩ := Option.map_eq_some_iff.1 hx
    rw [unnamed_unbound_eq]
    exact (h j y hy).elim (fun h => ite_eq_left_iff.2 fun _ => h) fun h => if_pos h
  refine ((purgeCuts_reports s k m a).sameClass .migrate).trans
    (purgeSteps_sameClass_of_settled s k m a (by decide) false ?_)
  show (s.purgeCuts k m a).SameClass ((s.purgeCuts k m a).applyIdleChanges.drainIdle (some k)) .migrate
  rw [hunstaged]
  exact drainIdle_sameClass (by decide) _ _

theorem purgeSteps_otherClass {c : NoticeClass} (hp : c ≠ .purge) (hm : c ≠ .migrate) (deferred : Bool) :
    s.SameClass (s.purgeSteps deferred k m a) c :=
  (purgeCuts_sameClass s k m a hm).trans
    (purgeSteps_sameClass_of_settled s k m a hp deferred (settleCuts_sameClass hp hm _ _ _))

/-- Where no other purge runs, the event of this one is all of the class PURGE. -/
theorem begun_purgeClass (h : ∀ x : SlotId, x ≠ k → (s.slots[x]).isPurging = false) :
    s.SameClass ((s.purgeCuts k m a).settleCuts false (some k)) .purge := by
  have hidle : ∀ x, ((s.purgeCuts k m a).applyIdleChanges.slots[x]).isPurging = true → some k = some x := by
    intro x hx
    by_contra hne
    have hxk : x ≠ k := fun he => hne (he ▸ rfl)
    rw [applyIdleChanges_slots, purgeCuts_slots, startPurge_slots_ne s k m a hxk, after_isPurging, h x hxk] at hx
    cases hx
  have hsettled : (s.purgeCuts k m a).settleCuts false (some k) = (s.purgeCuts k m a).applyIdleChanges :=
    drainIdle_of_none fun x hx _ => hidle x hx
  rw [hsettled]
  exact (purgeCuts_sameClass s k m a (by decide)).trans (applyIdleChanges_sameClass (by decide) _)

theorem begun_linkTime (deferred : Bool) : ((s.purgeCuts k m a).settleCuts deferred (some k)).linkTime = s.linkTime :=
  linkTime_of_outside ((settleCuts_outside _ deferred _).trans (purgeCuts_outside s k m a))

end Steps

/-! ### The migrations that fail -/

theorem fails_iff (b : Band) (k : SlotId) : b.failsWith k = true ↔ ∃ r, b.migration = some r ∧
    (r.target = k ∨ ∃ x, b.fields.binding = some x ∧ x.slot = k) := by
  rw [← boundTo_iff, Band.failsWith, Band.migratesTo]
  cases b.migration <;> simp

theorem requestCause_eq (s : State) (k : SlotId) : s.requestCause k =
    if ∃ (i : BandId) (b : Band), s.bands[i] = some b ∧ b.failsWith k = true then .migrateFail else .request := by
  have hempty : (s.failing k).isEmpty = true ↔ ¬∃ (i : BandId) (b : Band), s.bands[i] = some b ∧ b.failsWith k = true := by
    rw [List.isEmpty_iff, List.eq_nil_iff_forall_not_mem, not_exists]
    exact forall_congr' fun i => not_congr (mem_failing s k)
  unfold State.requestCause
  by_cases h : (s.failing k).isEmpty = true
  · rw [if_pos h, if_neg (hempty.1 h)]
  · rw [if_neg h, if_pos (not_not.1 (mt hempty.2 h))]

theorem any_bands {s : State} {p : Band → Bool} : (allBands.any fun i => (s.bands[i]).any p) = true ↔
    ∃ (i : BandId) (b : Band), s.bands[i] = some b ∧ p b = true := by
  simp only [List.any_eq_true, List.mem_finRange, true_and, Option.any_eq_true]

theorem cutByPurge_eq (s : State) (k : SlotId) (grace : Nat) (c : Context) : s.cutByPurge k grace c = true ↔
    (∃ (i : BandId) (b : Band), s.bands[i] = some b ∧ b.failsWith k = true ∧ c.names i = true) ∨
      (grace = 0 ∧ c.holds k = true) := by
  simp only [State.cutByPurge, Bool.or_eq_true, List.any_eq_true, mem_failing, Bool.and_eq_true, beq_iff_eq]
  simp only [← exists_and_right, and_assoc]

/-! ### What the slot answers -/

/-- The account with which a KEY-PURGE begins a purge (R94, R95). -/
def State.requestAccount (s : State) (tag : Byte) (k : SlotId) : Account :=
  { grace := s.graceSetting, cause := s.requestCause k, drained := 0, cut := 0, owed := some tag }

theorem ready_or_poisoned {v : KeySlot} (h : v.isReady = true ∨ v.isPoisoned = true) :
    ∃ m, v.state = .ready m ∨ v.state = .poisoned m := by
  obtain ⟨generation, holders, state⟩ := v
  cases state with
  | ready m => exact ⟨m, .inl rfl⟩
  | poisoned m => exact ⟨m, .inr rfl⟩
  | _ => exact absurd h (by simp [KeySlot.isReady, KeySlot.isPoisoned])

theorem beginPurge_of_material {s : State} {k : SlotId} {m : Material}
    (h : (s.slots[k]).state = .ready m ∨ (s.slots[k]).state = .poisoned m) (deferred : Bool) (cause : PurgeCause)
    (owed : Option Byte) (grace : Nat) : s.beginPurge deferred k cause owed grace =
      s.purgeSteps deferred k m { grace := grace, cause := cause, drained := 0, cut := 0, owed := owed } := by
  unfold State.beginPurge
  obtain h | h := h <;> rw [h]

section Requests

variable {s : State} {tag f : Byte} {k : SlotId} (ht : s.TakesRequests) (hb : s.backHead = none)
include ht hb

theorem exec_keyPurge : exec (.keyPurge tag (.fields f)) s = .next (takeKeyPurge tag (.fields f) s) :=
  exec_settled_request rfl rfl ht hb

theorem exec_keyPurge_none (hf : slotOf f = none) : exec (.keyPurge tag (.fields f)) s =
    .next (s.answered tag .keyPurge .badRequest (.keyPurge 0 0 0)) := by
  rw [exec_keyPurge ht hb]
  unfold takeKeyPurge
  dsimp only
  rw [hf]
  rfl

theorem exec_keyPurge_begins (hf : slotOf f = some k)
    (h : (s.slots[k]).isReady = true ∨ (s.slots[k]).isPoisoned = true) : ∃ m,
    exec (.keyPurge tag (.fields f)) s = .next (s.reserve.purgeSteps false k m (s.requestAccount tag k)) := by
  rw [exec_keyPurge ht hb]
  unfold takeKeyPurge
  dsimp only
  rw [hf]
  dsimp only
  obtain ⟨m, hs⟩ := ready_or_poisoned h
  refine ⟨m, ?_⟩
  have hbegin : s.reserve.beginPurge false k (s.requestCause k) (some tag) s.graceSetting =
      s.reserve.purgeSteps false k m (s.requestAccount tag k) := beginPurge_of_material (s := s.reserve) hs _ _ _ _
  obtain hs | hs := hs
  · rw [hs]
    exact congrArg Host.Outcome.next hbegin
  · rw [hs]
    exact congrArg Host.Outcome.next hbegin

end Requests

end Sys2Proof.Machine

/-! PROOFS. What a purge leaves of its slot, and the obligation of KEY-PURGE. -/

namespace Sys2Proof.Machine

section Steps

variable {s : State} {k : SlotId} {m : Material} {a : Account} {deferred : Bool}

/-- What the event that begins a purge leaves of the slot: EMPTY, or PURGING with a holder and grace left (R101, R102). -/
theorem purgeSteps_slot :
    ((s.purgeSteps deferred k m a).slots[k] = (s.slots[k]).erased ∧
      ((s.slots[k]).holders - s.endedWith (s.purgeSteps deferred k m a) (fun c => c.holds k) = 0 ∨ a.grace = 0)) ∨
    ((s.purgeSteps deferred k m a).slots[k] =
      { generation := (s.slots[k]).generation
        holders := (s.slots[k]).holders - s.endedWith (s.purgeSteps deferred k m a) fun c => c.holds k
        state := .purging m { a with cut := a.cut + s.endedWith (s.purgeSteps deferred k m a) fun c => c.holds k } } ∧
      (s.slots[k]).holders - s.endedWith (s.purgeSteps deferred k m a) (fun c => c.holds k) ≠ 0 ∧ a.grace ≠ 0) := by
  rw [purgeSteps_endedWith]
  have hslot := begun_slot s k m a deferred
  obtain ⟨heq, hend⟩ | ⟨heq, hrun⟩ := purgeSteps_cases s k m a deferred
  · refine .inl ⟨?_, hend⟩
    rw [heq, endPurge_slots_self ((isPurging_iff _).2 ⟨m, _, begun_state s k m a deferred⟩), hslot]
    rfl
  · refine .inr ⟨?_, hrun⟩
    rw [heq]
    exact hslot

theorem purgeSteps_empty (h : ((s.purgeSteps deferred k m a).slots[k]).state = .empty) :
    s.purgeSteps deferred k m a = ((s.purgeCuts k m a).settleCuts deferred (some k)).endPurge k := by
  obtain ⟨heq, _⟩ | ⟨heq, _⟩ := purgeSteps_cases s k m a deferred
  · exact heq
  · rw [heq, begun_state] at h
    cases h

theorem purgeSteps_purging (h : ((s.purgeSteps deferred k m a).slots[k]).isPurging = true) :
    s.purgeSteps deferred k m a = (s.purgeCuts k m a).settleCuts deferred (some k) := by
  obtain ⟨heq, _⟩ | ⟨heq, _⟩ := purgeSteps_cases s k m a deferred
  · rw [heq, endPurge_slots_self ((isPurging_iff _).2 ⟨m, _, begun_state s k m a deferred⟩)] at h
    cases h
  · exact heq

theorem purgeSteps_uncut {id : CtxId} {c : Context} (hc : s.contexts[id] = some c)
    (hcut : ¬s.cutByPurge k a.grace c = true) : (s.purgeSteps deferred k m a).contexts[id] = some c := by
  rw [purgeSteps_contexts, hc, Option.any_some, if_neg hcut]

theorem purgeSteps_cut {id : CtxId} {c : Context} (hc : s.contexts[id] = some c)
    (hcut : s.cutByPurge k a.grace c = true) : (s.purgeSteps deferred k m a).contexts[id] = none := by
  rw [purgeSteps_contexts, hc, Option.any_some, if_pos hcut]

/-- A context that the event cuts has its DONE and for a write its END in the queues. -/
theorem purgeSteps_endQueued {id : CtxId} {c : Context} (hc : s.contexts[id] = some c)
    (hcut : s.cutByPurge k a.grace c = true) :
    FrontEntry.done id .keyPurged c.sectorsDone (s.linkTime - c.openTime) ∈ (s.purgeSteps deferred k m a).frontQueue ∧
    (c.dir = .write → BackEntry.ended id .keyPurged c.sectorsDone ∈ (s.purgeSteps deferred k m a).backQueue) := by
  obtain ⟨hfront, _, hback, _⟩ := queues_of_transfers (purgeSteps_transfers s k m a deferred)
  obtain ⟨_, rfl, hqueued⟩ := purgeCuts_endQueued s k m a id c ((congrArg (·[id]) (startPurge_contexts s k m a)).trans hc)
    (by rw [purgeCuts_contexts, hc, Option.any_some, if_pos hcut])
  rw [startPurge_linkTime] at hqueued
  rw [hfront, hback]
  exact hqueued

/-- The purge runs on exactly while a holder is left that its event does not cut. -/
theorem purgeSteps_purging_iff (hcounts : s.CountsOk) :
    ((s.purgeSteps deferred k m a).slots[k]).isPurging = true ↔
      ∃ (id : CtxId) (c : Context), s.contexts[id] = some c ∧ c.holds k = true ∧ ¬s.cutByPurge k a.grace c = true := by
  have hafter : (s.purgeSteps deferred k m a).CountsOk :=
    countsOk_kept.purgeSteps s deferred k m a (hcounts.startPurge k m a)
  have hholders := hafter.2.2 k
  constructor
  · intro hp
    obtain ⟨herased, _⟩ | ⟨hslot, hne, _⟩ := purgeSteps_slot (s := s) (k := k) (m := m) (a := a) (deferred := deferred)
    · rw [herased] at hp
      cases hp
    · rw [hslot] at hholders
      obtain ⟨id, hid⟩ := List.exists_mem_of_length_pos (Nat.pos_of_ne_zero fun h0 => hne (hholders.trans h0))
      obtain ⟨c, hc, hh⟩ := mem_openWith.1 hid
      rw [purgeSteps_contexts] at hc
      split at hc
      · cases hc
      · rename_i hcut
        rw [hc, Option.any_some] at hcut
        exact ⟨id, c, hc, hh, hcut⟩
  · rintro ⟨id, c, hc, hh, hcut⟩
    have hopen : id ∈ (s.purgeSteps deferred k m a).holdersOf k := mem_openWith.2 ⟨c, purgeSteps_uncut hc hcut, hh⟩
    obtain ⟨herased, _⟩ | ⟨hslot, _⟩ := purgeSteps_slot (s := s) (k := k) (m := m) (a := a) (deferred := deferred)
    · rw [herased] at hholders
      rw [List.length_eq_zero_iff.1 hholders.symm] at hopen
      cases hopen
    · rw [hslot]
      rfl

/-- Where no other purge runs, the class PURGE has the event of this one where it has ended, and nothing more. -/
theorem purgeSteps_purgeClass (h : ∀ x : SlotId, x ≠ k → (s.slots[x]).isPurging = false) :
    (if ((s.purgeSteps false k m a).slots[k]).isPurging then s
      else s.report (.purge k a.cause a.drained (a.cut + s.endedWith (s.purgeSteps false k m a) fun c => c.holds k))).SameClass
      (s.purgeSteps false k m a) .purge := by
  have hbefore := begun_purgeClass s k m a h
  split
  · rename_i hp
    rw [purgeSteps_purging hp]
    exact hbefore
  · rename_i hp
    rw [purgeSteps_endedWith]
    obtain ⟨heq, _⟩ | ⟨heq, _⟩ := purgeSteps_cases s k m a false
    · rw [heq]
      exact State.SameClass.trans
        (State.SameClass.report (d := .purge k a.cause a.drained (s.begunAccount k m a).cut) hbefore (begun_linkTime s k m a false))
        ((endPurge_sameNotices (begun_state s k m a false)).sameClass .purge)
    · rw [heq] at hp
      exact absurd ((isPurging_iff _).2 ⟨m, _, begun_state s k m a false⟩) hp

theorem purgeSteps_bands_none {i : BandId} (h : s.bands[i] = none) : (s.purgeSteps false k m a).bands[i] = none := by
  rw [purgeSteps_bands, settleCuts_bands]
  refine inOrder_applyPending_none allBands ?_
  rw [(purgeCuts_ended s k m a).bands i, startPurge_bands_get, h]
  rfl

end Steps

/-! ### KEY-PURGE -/

/-- What the ends of contexts take of a band is apart from what the beginning of a purge takes. -/
theorem withoutEnded_unbound (s t : State) (i : BandId) (b : Band) (k : SlotId) :
    s.withoutEnded t i ((b.unnamed k).unbound k) = { s.withoutEnded t i b with
      fields := if b.boundTo k then { b.fields with binding := none } else b.fields
      migration := if b.failsWith k then none else b.migration
      writer := if b.failsWith k then none else (s.withoutEnded t i b).writer
      pending := if b.changeNames k then none else b.pending } := by
  rw [unnamed_unbound_eq]
  unfold State.withoutEnded
  dsimp only
  cases b.failsWith k <;> simp

/-- What KEY-PURGE answers where it begins no purge (R95). -/
theorem keyPurge_answers (s : State) (tag f : Byte) (ht : s.TakesRequests) (hb : s.backHead = none) (k : SlotId)
    (hf : slotOf f = some k) :
    ((s.slots[k]).state = .empty → exec (.keyPurge tag (.fields f)) s =
      .next (s.answered tag .keyPurge .ok (.keyPurge (BitVec.ofNat 8 k.val) 0 0))) ∧
    (∀ m a, (s.slots[k]).state = .purging m a → exec (.keyPurge tag (.fields f)) s =
      .next (s.answered tag .keyPurge .busy (.keyPurge 0 0 0))) ∧
    (∀ l, (s.slots[k]).state = .loading l → exec (.keyPurge tag (.fields f)) s =
      .next (({ s with slots := s.slots.set k { s.slots[k] with state := .empty } }.payReply l.owed .keyLoad
        .abandoned (.keyLoad (BitVec.ofNat 8 k.val) 0)).answered tag .keyPurge .ok
        (.keyPurge (BitVec.ofNat 8 k.val) 0 0))) := by
  rw [exec_keyPurge ht hb]
  unfold takeKeyPurge
  dsimp only
  rw [hf]
  dsimp only
  refine ⟨fun hs => ?_, fun m a hs => ?_, fun l hs => ?_⟩
  · rw [hs]
    rfl
  · rw [hs]
    rfl
  · rw [hs]
    have habandon : s.reserve.abandonLoad k = (s.reserve.endLoad k).payReply l.owed .keyLoad .abandoned
        (.keyLoad (slotByte k) 0) := by
      rw [State.abandonLoad, show (s.reserve.slots[k]).state = .loading l from hs]
    dsimp only
    rw [habandon]
    cases l.owed <;> rfl

theorem requestCause_migrateFail {s : State} {k : SlotId} (h : ∃ (i : BandId) (b : Band) (r : Migration),
    s.bands[i] = some b ∧ b.migration = some r ∧ (r.target = k ∨ ∃ x, b.fields.binding = some x ∧ x.slot = k)) :
    s.requestCause k = .migrateFail := by
  obtain ⟨i, b, r, hi, hr, hk⟩ := h
  rw [requestCause_eq, if_pos ⟨i, b, hi, (fails_iff b k).2 ⟨r, hr, hk⟩⟩]

theorem requestCause_request {s : State} {k : SlotId} (h : ∀ (i : BandId) (b : Band) (r : Migration),
    s.bands[i] = some b → b.migration = some r → r.target ≠ k ∧ ∀ x, b.fields.binding = some x → x.slot ≠ k) :
    s.requestCause k = .request := by
  rw [requestCause_eq, if_neg]
  rintro ⟨i, b, hi, hf⟩
  obtain ⟨r, hr, hk | ⟨x, hx, hk⟩⟩ := (fails_iff b k).1 hf
  · exact (h i b r hi hr).1 hk
  · exact (h i b r hi hr).2 x hx hk

section Begun

variable {s : State} {tag : Byte} {k : SlotId} {m : Material}

/-- The slot after a KEY-PURGE that begins a purge: EMPTY, or PURGING with its account (R94, R101). -/
theorem keyPurge_slot {t : State} (ht : s.reserve.purgeSteps false k m (s.requestAccount tag k) = t) :
    ((t.slots[k]).state = .empty ∨ ∃ m a, (t.slots[k]).state = .purging m a ∧ 0 < (t.slots[k]).holders ∧
      a.grace = s.graceSetting ∧ 0 < a.grace ∧ a.owed = some tag ∧ a.drained = 0 ∧
      a.cut = s.endedWith t (fun c => c.holds k) ∧ a.cause = s.requestCause k) ∧
    (t.slots[k]).generation = (s.slots[k]).generation := by
  subst ht
  obtain ⟨herased, _⟩ | ⟨hslot, hne, hg⟩ := purgeSteps_slot (s := s.reserve) (k := k) (m := m)
    (a := s.requestAccount tag k) (deferred := false)
  · rw [herased]
    exact ⟨.inl rfl, rfl⟩
  · rw [hslot]
    exact ⟨.inr ⟨m, _, rfl, Nat.pos_of_ne_zero hne, rfl, Nat.pos_of_ne_zero hg, rfl, rfl, Nat.zero_add _, rfl⟩, rfl⟩

/-- The reply and the event of a KEY-PURGE whose purge ends at once (R101). -/
theorem keyPurge_ended {t : State} (ht : s.reserve.purgeSteps false k m (s.requestAccount tag k) = t)
    (hempty : (t.slots[k]).state = .empty) :
    t.replies.getLast? = some ⟨tag, 0x04, .ok,
      .keyPurge (BitVec.ofNat 8 k.val) 0 (BitVec.ofNat 8 (s.endedWith t fun c => c.holds k))⟩ ∧
    (t.classOf .purge).latest =
      some ⟨s.linkTime, .purge k (s.requestCause k) 0 (s.endedWith t fun c => c.holds k)⟩ := by
  subst ht
  have hstate := begun_state s.reserve k m (s.requestAccount tag k) false
  have haccount : s.reserve.begunAccount k m (s.requestAccount tag k) = { s.requestAccount tag k with
      cut := s.reserve.endedWith (s.reserve.purgeSteps false k m (s.requestAccount tag k)) fun c => c.holds k } := by
    rw [State.begunAccount, purgeSteps_endedWith]
    exact congrArg (fun n => { s.requestAccount tag k with cut := n }) (Nat.zero_add _)
  rw [haccount] at hstate
  have hreplies := endPurge_replies hstate
  have hlatest := endPurge_latest hstate
  rw [begun_linkTime] at hlatest
  rw [← purgeSteps_empty hempty] at hreplies hlatest
  refine ⟨?_, hlatest⟩
  rw [hreplies]
  exact List.getLast?_concat

end Begun

/-- Settles O35. -/
theorem keyPurgeBySlotState : Obligations.KeyPurgeBySlotState := by
  refine ⟨fun s tag f ht hb => ⟨exec_keyPurge_none ht hb, keyPurge_answers s tag f ht hb⟩,
    fun s tag f k ht hb hf hk => ?begins, fun s t tag f k fails ht hb hf hk hfails hexec => ?after⟩
  case begins =>
    obtain ⟨m, hexec⟩ := exec_keyPurge_begins (tag := tag) ht hb hf hk
    obtain ⟨hlines, hcontrol, hwraps, hlatched, hdiscards, hreservations⟩ :=
      frame_of_outside (purgeSteps_outside s.reserve false k m (s.requestAccount tag k))
    obtain ⟨hslot, hgeneration⟩ := keyPurge_slot (s := s) (tag := tag) (k := k) (m := m) rfl
    refine ⟨_, _, s.requestCause k, hexec, rfl, requestCause_migrateFail, requestCause_request, hslot, hgeneration,
      unused_iff.1 (purgeSteps_unused _ _ _ _ _), fun i b id c hi hm hu hc hn => ?_, keyPurge_ended rfl,
      purgeSteps_repliesFrom s.reserve k m (s.requestAccount tag k) false, hreservations, hlines, hcontrol, hwraps,
      hlatched, hdiscards⟩
    have hfail : b.failsWith k = true := by
      rw [Band.failsWith, hm, Bool.true_and, Bool.or_eq_true]
      exact hu.symm
    have hcut : s.reserve.cutByPurge k (s.requestAccount tag k).grace c = true :=
      (cutByPurge_eq _ _ _ _).2 (.inl ⟨i, b, hi, hfail, hn⟩)
    exact ⟨purgeSteps_cut (s := s.reserve) hc hcut, purgeSteps_endQueued (s := s.reserve) hc hcut⟩
  case after =>
    obtain rfl : fails = fun b => b.failsWith k := funext fun b => by
      rw [hfails, Band.failsWith, Bool.or_comm (b.boundTo k)]
    obtain ⟨m, hexec'⟩ := exec_keyPurge_begins (tag := tag) ht hb hf hk
    obtain rfl : s.reserve.purgeSteps false k m (s.requestAccount tag k) = t :=
      Host.Outcome.next.inj (hexec'.symm.trans hexec)
    have hcut : ∀ c : Context, s.reserve.cutByPurge k (s.requestAccount tag k).grace c = true ↔
        (∃ (i : BandId) (b : Band), s.bands[i] = some b ∧ b.failsWith k = true ∧ c.names i = true) ∨
          (s.graceSetting = 0 ∧ c.holds k = true) := fun c => cutByPurge_eq s.reserve k s.graceSetting c
    have hspared : ∀ c : Context, (∀ (i : BandId) (b : Band), s.bands[i] = some b → b.failsWith k = true → c.names i = false) →
        ¬∃ (i : BandId) (b : Band), s.bands[i] = some b ∧ b.failsWith k = true ∧ c.names i = true :=
      fun c h ⟨i, b, hi, hf, hn⟩ => Bool.false_ne_true ((h i b hi hf).symm.trans hn)
    refine ⟨fun hg id c hc hn => purgeSteps_uncut (s := s.reserve) hc fun h => ?_, fun hg => ⟨?_, fun id c hc hh => ?_⟩,
      fun id c hc hh hn => purgeSteps_uncut (s := s.reserve) hc fun h => ?_, fun hg hcounts => ?_, fun hp => ?_,
      fun x hx => purgeSteps_slotFollows s.reserve k m _ false hx, fun i hi => purgeSteps_bands_none (s := s.reserve) hi,
      fun i b hi hp hbase => ?_, fun halone cause cut u hcause hcut' hu => ?_, fun hun u hu => ?_, fun c hp hm => ?_⟩
    · obtain hn' | ⟨h0, _⟩ := (hcut c).1 h
      · exact hspared c hn hn'
      · exact Nat.ne_of_gt hg h0
    · obtain ⟨herased, _⟩ | ⟨_, _, hne⟩ := purgeSteps_slot (s := s.reserve) (k := k) (m := m)
        (a := s.requestAccount tag k) (deferred := false)
      · rw [herased]
        rfl
      · exact absurd hg hne
    · exact purgeSteps_cut (s := s.reserve) hc ((hcut c).2 (.inr ⟨hg, hh⟩))
    · obtain hn' | ⟨_, hh'⟩ := (hcut c).1 h
      · exact hspared c hn hn'
      · exact Bool.false_ne_true (hh.symm.trans hh')
    · refine (purgeSteps_purging_iff (s := s.reserve) hcounts).trans (exists_congr fun id => exists_congr fun c =>
        and_congr_right fun _ => and_congr_right fun _ => (not_congr (hcut c)).trans ⟨fun h i b hi hf => ?_, fun hn h => ?_⟩)
      · exact Bool.eq_false_iff.2 fun hn => h (.inl ⟨i, b, hi, hf, hn⟩)
      · obtain hn' | ⟨h0, _⟩ := h
        · exact hspared c hn hn'
        · exact Nat.ne_of_gt hg h0
    · obtain ⟨herased, _⟩ | ⟨hslot, _⟩ := purgeSteps_slot (s := s.reserve) (k := k) (m := m)
        (a := s.requestAccount tag k) (deferred := false)
      · rw [herased] at hp
        cases hp
      · exact congrArg KeySlot.holders hslot
    · refine (purgeSteps_band s.reserve k m _ hi hp hbase).trans (congrArg some ?_)
      have hunstaged : (if b.changeNames k then none else b.pending) = none :=
        hp.elim (fun h => ite_eq_left_iff.2 fun _ => h) fun h => if_pos h
      rw [withoutEnded_unbound, hunstaged]
      rfl
    · have hcause' : cause = s.requestCause k := by
        rw [hcause, requestCause_eq]
        exact if_congr any_bands rfl rfl
      have hclass := purgeSteps_purgeClass (s := s.reserve) (k := k) (m := m) (a := s.requestAccount tag k) fun x _ => halone x
      have hcount : (s.requestAccount tag k).cut + s.reserve.endedWith (s.reserve.purgeSteps false k m (s.requestAccount tag k))
          (fun c => c.holds k) = cut := (Nat.zero_add _).trans hcut'.symm
      have hreserve : s.SameClass s.reserve .purge := ⟨rfl, rfl⟩
      rw [hcount] at hclass
      rw [hu, hcause']
      split at hclass
      · rename_i hp
        rw [if_pos hp]
        exact hreserve.trans hclass
      · rename_i hp
        rw [if_neg hp]
        exact State.SameClass.trans (State.SameClass.report (d := .purge k (s.requestCause k) 0 cut) hreserve rfl) hclass
    · subst hu
      have hreserve := (reportAll_sameNotices (s := s) (t := s.reserve) ⟨rfl, rfl⟩ rfl
        (allBands.filterMap (State.failedEvent k s.reserve))).sameClass .migrate
      exact hreserve.trans (purgeSteps_migrateClass s.reserve k m (s.requestAccount tag k) hun)
    · exact purgeSteps_otherClass s.reserve k m (s.requestAccount tag k) hp hm false

end Sys2Proof.Machine

/-! PROOFS. The latched actions (R129 to R132): what they keep, operation by operation, apart from the staged changes,
which wait for the end of the latching (R133). -/

namespace Sys2Proof.Machine

/-! ### What the purges of a latching keep -/

/-- The operations that the purges of a latching consist of keep a property. -/
structure Acts (P : State → Prop) : Prop where
  choices : ∀ (s : State) n, P s → P { s with choices := n }
  cut : ∀ (s : State) id, P s → P (s.endAs .cut id .keyPurged)
  endPurge : ∀ (s : State) k, (s.slots[k]).holders = 0 ∨ s.holdersOf k = [] → P s → P (s.endPurge k)
  startPurge : ∀ (s : State) k m account, account.owed = none →
    (s.slots[k]).state = .ready m ∨ (s.slots[k]).state = .poisoned m → P s → P (s.startPurge k m account)
  zeroGrace : ∀ (s : State) k m a, (s.slots[k]).state = .purging m a → P s →
    P (s.setSlot k { s.slots[k] with state := .purging m { a with grace := 0 } })

theorem Kept.acts {P : State → Prop} (h : Kept P) : Acts P where
  choices := h.choices
  cut s id := h.endAs s .cut id .keyPurged
  endPurge := h.endPurge
  startPurge := h.startPurge
  zeroGrace := h.zeroGrace

theorem Acts.and {P Q : State → Prop} (h : Acts P) (h' : Acts Q) : Acts fun s => P s ∧ Q s where
  choices s n hs := ⟨h.choices s n hs.1, h'.choices s n hs.2⟩
  cut s id hs := ⟨h.cut s id hs.1, h'.cut s id hs.2⟩
  endPurge s k hk hs := ⟨h.endPurge s k hk hs.1, h'.endPurge s k hk hs.2⟩
  startPurge s k m a ha hm hs := ⟨h.startPurge s k m a ha hm hs.1, h'.startPurge s k m a ha hm hs.2⟩
  zeroGrace s k m a hm hs := ⟨h.zeroGrace s k m a hm hs.1, h'.zeroGrace s k m a hm hs.2⟩

namespace Acts

variable {P : State → Prop} (h : Acts P)
include h

theorem drainIdle (s : State) (except : Option SlotId) (hs : P s) : P (s.drainIdle except) := by
  have hzero : ∀ k ∈ s.drainable except, (s.slots[k]).holders = 0 := fun k hk => (mem_drainable.1 hk).2.1
  refine (inAnyOrder_induct (P := fun t => P t ∧ ∀ k ∈ s.drainable except, (t.slots[k]).holders = 0) _ _ _
    (fun t n ht => ⟨h.choices t n ht.1, ht.2⟩) (fun k hk t ht => ?_) ⟨hs, hzero⟩).1
  exact ⟨h.endPurge t k (.inl (ht.2 k hk)) ht.1, fun j hj => endPurge_holders_zero t k j (ht.2 j hj)⟩

theorem cutHolders (s : State) (k : SlotId) (hs : P s) :
    P (((s.cutAll .keyPurged (s.holdersOf k)).settleCuts true (some k)).endPurge k) := by
  refine h.endPurge _ _ (.inr ?_) (h.drainIdle _ _ (inOrder_induct _ _ _ (fun id _ t ht => h.cut t id ht) hs))
  rw [State.holdersOf, openWith_congr (contexts_of_transfers (settleCuts_transfers _ _ _))]
  exact holdersOf_cutAll s .keyPurged k

/-- The purge of one slot of a slot set (R106, R132). -/
theorem tripPurge (s : State) (k : SlotId) (hs : P s) : P (s.tripPurge k) := by
  have hbegin : ∀ m, (s.slots[k]).state = .ready m ∨ (s.slots[k]).state = .poisoned m →
      P (s.beginPurge true k .trip none 0) := by
    intro m hm
    rw [beginPurge_of_material hm, purgeSteps_eq, finishPurge_zero]
    exact h.cutHolders _ k (inAnyOrder_induct _ _ _ h.choices (fun id _ t ht => h.cut t id ht)
      (h.startPurge s k m _ rfl hm hs))
  unfold State.tripPurge
  split
  · rename_i m hm
    exact hbegin m (.inl hm)
  · rename_i m hm
    exact hbegin m (.inr hm)
  · rename_i m a hm
    rw [expire_of_purging (m := m) (a := { a with grace := 0 }) (by rw [setSlot_get_self])]
    exact h.cutHolders _ k (h.zeroGrace s k m a hm hs)
  · exact hs
  · exact hs

theorem tripPurges (s : State) (ks : List SlotId) (hs : P s) : P (inOrder (fun k t => State.tripPurge t k) ks s) :=
  inOrder_induct _ _ _ (fun k _ t ht => h.tripPurge t k ht) hs

variable {i : BandId} (hlock : ∀ t : State, P t → P (t.lockBand i))
  (htrip : ∀ (t : State) kind id, P t → P (t.endAs kind id .tripped))
include hlock htrip

theorem cutBand (s : State) (kind : EndKind) (hs : P s) : P (s.cutBand kind i) :=
  h.drainIdle _ _ (inOrder_induct _ _ _ (fun id _ t ht => htrip t kind id ht) (hlock s hs))

theorem bandAction (s : State) (src : TripSource) (hs : P s) : P (s.bandAction src i) := by
  unfold State.bandAction
  split
  · exact hs
  · split
    · split
      · exact hs
      · exact hlock s hs
      · exact h.cutBand hlock htrip s _ hs
      · exact h.tripPurges _ _ (h.cutBand hlock htrip s _ hs)
    · exact hs

end Acts

/-! ### A latching step by step -/

/-- A latching behind the actions of the bands, before the staged changes (R129, R133). -/
def State.actedOn (s : State) (src : TripSource) : State :=
  inOrder (fun i t => State.bandAction t src i) allBands { s with latched := s.latched.insert src }

theorem actedOn_outside (s : State) (src : TripSource) :
    (s.actedOn src).outside = { s with latched := s.latched.insert src }.outside :=
  inOrder_outside _ _ _ fun i _ t => bandAction_outside t src i

theorem latched_of_outside {s t : State} (h : t.outside = s.outside) : t.latched = s.latched :=
  (congrArg State.latched h :)

theorem latch_eq_actedOn {s : State} {src : TripSource} (h : s.latched.has src = false) :
    s.latch src = (s.actedOn src).applyIdleChanges.report (.trip (.source src) (s.latched.insert src)) := by
  have hlatched : (s.actedOn src).applyIdleChanges.latched = s.latched.insert src :=
    (latched_of_outside (applyIdleChanges_outside (s.actedOn src))).trans (latched_of_outside (actedOn_outside s src))
  rw [latch_of_not s src h (s.actedOn src).applyIdleChanges rfl, hlatched]

theorem bandAction_none {s : State} {i : BandId} (h : s.bands[i] = none) (src : TripSource) : s.bandAction src i = s := by
  rw [State.bandAction, h]

/-- What the action of a band is, by its trip mask and its latched action (R129 to R132). -/
theorem bandAction_of_band {s : State} {i : BandId} {b : Band} (h : s.bands[i] = some b) (src : TripSource) :
    s.bandAction src i = if b.fields.tripMask.has src then
      match b.fields.action with
      | .none => s
      | .lock => s.lockBand i
      | .cut => s.cutBand .cut i
      | .purge => s.purgeBand i
    else s := by
  rw [State.bandAction, h] <;> rfl

/-! ### What the actions take from a state -/

/-- A band after actions: its trip mask and its action stay, and its binding and its record stay or are gone. -/
def Band.Shrinks (b b' : Band) : Prop :=
  b'.fields.tripMask = b.fields.tripMask ∧ b'.fields.action = b.fields.action ∧
  (b'.fields.binding = none ∨ b'.fields.binding = b.fields.binding) ∧ (b'.migration = none ∨ b'.migration = b.migration)

theorem Band.Shrinks.refl (b : Band) : b.Shrinks b := ⟨rfl, rfl, .inr rfl, .inr rfl⟩

theorem Band.Shrinks.trans {b b' b'' : Band} (h : b.Shrinks b') (h' : b'.Shrinks b'') : b.Shrinks b'' := by
  obtain ⟨hmask, haction, hbinding, hmigration⟩ := h
  obtain ⟨hmask', haction', hbinding', hmigration'⟩ := h'
  exact ⟨hmask'.trans hmask, haction'.trans haction, hbinding'.elim .inl fun h => hbinding.imp h.trans h.trans,
    hmigration'.elim .inl fun h => hmigration.imp h.trans h.trans⟩

theorem closed_shrinks (b : Band) (id : CtxId) : b.Shrinks (b.closed id) := ⟨rfl, rfl, .inr rfl, .inr rfl⟩

theorem locked_shrinks (b : Band) : b.Shrinks b.locked := ⟨rfl, rfl, .inr rfl, .inr rfl⟩

theorem unnamed_unbound_shrinks (b : Band) (k : SlotId) : b.Shrinks ((b.unnamed k).unbound k) := by
  rw [unnamed_unbound_eq]
  unfold Band.Shrinks
  cases b.boundTo k <;> cases b.failsWith k <;> simp

/-- Between two states records have been freed, and bindings and migration records removed, and no more has happened to
the records and to what a latching reads of the bands. -/
structure State.Shrinks (s t : State) : Prop where
  contexts : ∀ id : CtxId, t.contexts[id] = none ∨ t.contexts[id] = s.contexts[id]
  bands : ∀ i : BandId, ∃ f : Band → Band, t.bands[i] = (s.bands[i]).map f ∧ ∀ b : Band, b.Shrinks (f b)

theorem State.Shrinks.refl (s : State) : s.Shrinks s := ⟨fun _ => .inr rfl, fun _ => ⟨id, (Option.map_id_apply).symm, .refl⟩⟩

theorem State.Shrinks.trans {s t u : State} (h : s.Shrinks t) (h' : t.Shrinks u) : s.Shrinks u where
  contexts id := (h'.contexts id).elim .inl fun he => (h.contexts id).imp he.trans he.trans
  bands i := by
    obtain ⟨f, hf, hshrink⟩ := h.bands i
    obtain ⟨g, hg, hshrink'⟩ := h'.bands i
    exact ⟨g ∘ f, by rw [hg, hf, Option.map_map], fun b => (hshrink b).trans (hshrink' (f b))⟩

theorem State.Shrinks.of_same {s t : State} (hc : t.contexts = s.contexts) (hb : t.bands = s.bands) : s.Shrinks t where
  contexts _ := .inr (by rw [hc])
  bands _ := ⟨id, by rw [hb]; exact (Option.map_id_apply).symm, .refl⟩

theorem endAs_shrinks (s : State) (kind : EndKind) (id : CtxId) (status : TransferStatus) :
    s.Shrinks (s.endAs kind id status) := by
  cases hc : s.contexts[id] with
  | none =>
    rw [endAs_of_free hc]
    exact .refl s
  | some c =>
    refine ⟨fun j => ?_, fun i => ⟨_, endAs_bands_get hc kind status i, fun b => ?_⟩⟩
    · rw [endAs_contexts]
      split
      · exact .inl rfl
      · exact .inr rfl
    · split
      · exact closed_shrinks b id
      · exact .refl b

theorem lockBand_shrinks (s : State) (i : BandId) : s.Shrinks (s.lockBand i) := by
  refine ⟨fun _ => .inr rfl, fun j => ?_⟩
  by_cases hij : i = j
  · subst hij
    exact ⟨Band.locked, setBand_get_self s i _, locked_shrinks⟩
  · exact ⟨id, (setBand_get_ne s _ hij).trans (Option.map_id_apply).symm, .refl⟩

theorem endPurge_shrinks (s : State) (k : SlotId) : s.Shrinks (s.endPurge k) :=
  .of_same (contexts_of_transfers (endPurge_transfers s k)) (endPurge_bands s k)

theorem startPurge_shrinks (s : State) (k : SlotId) (m : Material) (a : Account) : s.Shrinks (s.startPurge k m a) where
  contexts id := .inr (by rw [startPurge_contexts])
  bands i := ⟨_, startPurge_bands_get s k m a i, fun b => unnamed_unbound_shrinks b k⟩

theorem shrinks_acts (s : State) : Acts s.Shrinks where
  choices _ _ h := h.trans (.of_same rfl rfl)
  cut t id h := h.trans (endAs_shrinks t _ id _)
  endPurge t k _ h := h.trans (endPurge_shrinks t k)
  startPurge t k m a _ _ h := h.trans (startPurge_shrinks t k m a)
  zeroGrace _ _ _ _ _ h := h.trans (.of_same rfl rfl)

theorem bandAction_shrinks (s : State) (src : TripSource) (i : BandId) : s.Shrinks (s.bandAction src i) :=
  (shrinks_acts s).bandAction (fun t h => h.trans (lockBand_shrinks t i))
    (fun t kind id h => h.trans (endAs_shrinks t kind id _)) s src (.refl s)

theorem cutBand_shrinks (s : State) (kind : EndKind) (i : BandId) : s.Shrinks (s.cutBand kind i) :=
  (shrinks_acts s).cutBand (fun t h => h.trans (lockBand_shrinks t i))
    (fun t kind id h => h.trans (endAs_shrinks t kind id _)) s kind (.refl s)

theorem tripPurge_shrinks (s : State) (k : SlotId) : s.Shrinks (s.tripPurge k) := (shrinks_acts s).tripPurge s k (.refl s)

theorem bandActions_shrink (src : TripSource) (is : List BandId) (s : State) :
    s.Shrinks (inOrder (fun i t => State.bandAction t src i) is s) :=
  inOrder_induct (P := s.Shrinks) _ _ _ (fun i _ t ht => ht.trans (bandAction_shrinks t src i)) (.refl s)

section Shrinks

variable {s t : State} (h : s.Shrinks t)
include h

theorem State.Shrinks.some_of_open {id : CtxId} {c : Context} (hc : t.contexts[id] = some c) : s.contexts[id] = some c := by
  obtain hnone | hsame := h.contexts id
  · rw [hnone] at hc
    cases hc
  · exact hsame.symm.trans hc

theorem State.Shrinks.band_before {i : BandId} {b' : Band} (hb : t.bands[i] = some b') :
    ∃ b, s.bands[i] = some b ∧ b.Shrinks b' := by
  obtain ⟨f, hf, hshrink⟩ := h.bands i
  rw [hf] at hb
  obtain ⟨b, hs, rfl⟩ := Option.map_eq_some_iff.1 hb
  exact ⟨b, hs, hshrink b⟩

theorem State.Shrinks.band_after {i : BandId} {b : Band} (hb : s.bands[i] = some b) :
    ∃ b', t.bands[i] = some b' ∧ b.Shrinks b' := by
  obtain ⟨f, hf, hshrink⟩ := h.bands i
  exact ⟨f b, by rw [hf, hb]; rfl, hshrink b⟩

end Shrinks

end Sys2Proof.Machine

/-! PROOFS. The purges of a latching (R106, R132): the contexts and the slots that each leaves. -/

namespace Sys2Proof.Machine

/-! ### Slots -/

theorem State.SlotFollows.before {s s' t : State} {k : SlotId} {enter : Account → Nat → Account}
    (h : s'.SlotFollows t k enter) (hc : s'.contexts = s.contexts) (hslot : s'.slots[k] = s.slots[k]) :
    s.SlotFollows t k enter := by
  intro n hn
  have hsame := h n (hn.trans (endedWith_before hc t _).symm)
  rw [hslot] at hsame
  exact hsame

theorem State.SlotFollows.idle {s t : State} {k : SlotId} {enter : Account → Nat → Account}
    (h : s.SlotFollows t k enter) (hp : (s.slots[k]).isPurging = false) :
    (t.slots[k]).state = (s.slots[k]).state ∧ (t.slots[k]).generation = (s.slots[k]).generation := by
  obtain ⟨hgen, hidle, _⟩ := h _ rfl
  exact ⟨(hidle hp).1, hgen⟩

/-- A running purge whose grace is set to 0 (R106). -/
def State.graceless (s : State) (k : SlotId) (m : Material) (a : Account) : State :=
  s.setSlot k { s.slots[k] with state := .purging m { a with grace := 0 } }

theorem tripPurge_of_material {s : State} {k : SlotId} {m : Material}
    (h : (s.slots[k]).state = .ready m ∨ (s.slots[k]).state = .poisoned m) : s.tripPurge k =
      s.purgeSteps true k m { grace := 0, cause := .trip, drained := 0, cut := 0, owed := none } := by
  have hbegin := beginPurge_of_material h true .trip none 0
  unfold State.tripPurge
  obtain hs | hs := h
  · rw [hs]
    exact hbegin
  · rw [hs]
    exact hbegin

theorem graceless_state (s : State) (k : SlotId) (m : Material) (a : Account) :
    ((s.graceless k m a).slots[k]).state = .purging m { a with grace := 0 } := by
  rw [State.graceless, setSlot_get_self]

theorem tripPurge_of_purging {s : State} {k : SlotId} {m : Material} {a : Account}
    (h : (s.slots[k]).state = .purging m a) : s.tripPurge k =
      (((s.graceless k m a).cutAll .keyPurged ((s.graceless k m a).holdersOf k)).settleCuts true (some k)).endPurge k := by
  rw [← expire_of_purging (graceless_state s k m a), State.tripPurge, h]
  rfl

theorem tripPurge_of_idle {s : State} {k : SlotId} (h : (s.slots[k]).isEmpty = true ∨ (s.slots[k]).isLoading = true) :
    s.tripPurge k = s := by
  unfold KeySlot.isEmpty KeySlot.isLoading at h
  unfold State.tripPurge
  cases hs : (s.slots[k]).state with
  | empty => rfl
  | loading => rfl
  | _ => rw [hs] at h; simp at h

theorem isEmpty_iff (v : KeySlot) : v.isEmpty = true ↔ v.state = .empty := by
  obtain ⟨generation, holders, state⟩ := v
  cases state <;> simp [KeySlot.isEmpty]

/-- A slot is EMPTY or LOADING, READY or POISONED, or PURGING. -/
theorem slot_cases (v : KeySlot) : (v.isEmpty = true ∨ v.isLoading = true) ∨
    (∃ m, v.state = .ready m ∨ v.state = .poisoned m) ∨ ∃ m a, v.state = .purging m a := by
  obtain ⟨generation, holders, state⟩ := v
  cases state with
  | empty => exact .inl (.inl rfl)
  | loading l => exact .inl (.inr rfl)
  | ready m => exact .inr (.inl ⟨m, .inl rfl⟩)
  | poisoned m => exact .inr (.inl ⟨m, .inr rfl⟩)
  | purging m a => exact .inr (.inr ⟨m, a, rfl⟩)

/-- The purge of a slot leaves every other slot that is not PURGING in its state. -/
theorem tripPurge_slots_ne {s : State} {k x : SlotId} (hx : x ≠ k) (hp : (s.slots[x]).isPurging = false) :
    ((s.tripPurge k).slots[x]).state = (s.slots[x]).state ∧
      ((s.tripPurge k).slots[x]).generation = (s.slots[x]).generation := by
  obtain h | ⟨m, h⟩ | ⟨m, a, h⟩ := slot_cases s.slots[k]
  · rw [tripPurge_of_idle h]
    exact ⟨rfl, rfl⟩
  · rw [tripPurge_of_material h]
    exact (purgeSteps_slotFollows s k m _ true hx).idle hp
  · have hslot : (s.graceless k m a).slots[x] = s.slots[x] := setSlot_get_ne s _ (Ne.symm hx)
    have hended := cutAll_ended (s.graceless k m a) ((s.graceless k m a).holdersOf k)
    have hfollows := settleCuts_slotFollows hended true (except := some k) (k := x) fun he => hx (Option.some.inj he).symm
    rw [tripPurge_of_purging h, endPurge_slots_ne _ hx, ← hslot]
    exact hfollows.idle (hslot ▸ hp)

/-- The purge of a slot erases it, but for a loading one. -/
theorem tripPurge_slots_self {s : State} {k : SlotId} (hl : (s.slots[k]).isLoading = false) :
    ((s.tripPurge k).slots[k]).state = .empty ∧ ((s.tripPurge k).slots[k]).generation = (s.slots[k]).generation := by
  obtain h | ⟨m, h⟩ | ⟨m, a, h⟩ := slot_cases s.slots[k]
  · rw [tripPurge_of_idle h]
    exact ⟨(isEmpty_iff _).1 (h.resolve_right (Bool.eq_false_iff.1 hl)), rfl⟩
  · rw [tripPurge_of_material h]
    obtain ⟨herased, _⟩ | ⟨_, _, hg⟩ := purgeSteps_slot (s := s) (k := k) (m := m)
      (a := { grace := 0, cause := .trip, drained := 0, cut := 0, owed := none }) (deferred := true)
    · rw [herased]
      exact ⟨rfl, rfl⟩
    · exact absurd rfl hg
  · have hslot : (((s.graceless k m a).cutAll .keyPurged ((s.graceless k m a).holdersOf k)).settleCuts true (some k)).slots[k] =
        ((s.graceless k m a).slots[k]).after .cut ((s.graceless k m a).endedWith
          ((s.graceless k m a).cutAll .keyPurged ((s.graceless k m a).holdersOf k)) fun c => c.holds k) := by
      rw [settleCuts_slots_kept (.inr (.inr rfl)), (cutAll_ended _ _).slots k]
    have hpurging : (((s.graceless k m a).slots[k]).after .cut ((s.graceless k m a).endedWith
        ((s.graceless k m a).cutAll .keyPurged ((s.graceless k m a).holdersOf k)) fun c => c.holds k)).isPurging = true := by
      rw [after_isPurging, KeySlot.isPurging, graceless_state]
    rw [tripPurge_of_purging h, endPurge_slots_self (by rw [hslot]; exact hpurging), hslot]
    refine ⟨rfl, ?_⟩
    show ((s.graceless k m a).slots[k]).generation = _
    rw [State.graceless, setSlot_get_self]

/-- A slot keeps its generation, and loads only where it did. -/
def quietAt (k : SlotId) (generation : BitVec 16) (j : SlotId) (v : KeySlot) : Prop :=
  j = k → v.isLoading = false ∧ v.generation = generation

theorem quietAt_kept (k : SlotId) (generation : BitVec 16) : SlotKept (quietAt k generation) where
  enter j v kind h hj := by
    obtain ⟨hl, hg⟩ := h hj
    refine ⟨?_, hg⟩
    unfold KeySlot.isLoading at hl ⊢
    dsimp only
    cases hs : v.state <;> simp_all [SlotState.enter]
    cases kind <;> rfl
  erase j v _ h hj := ⟨rfl, (h hj).2⟩
  abandon j v l _ h hj := ⟨rfl, (h hj).2⟩
  start j v m account _ h hj := ⟨rfl, (h hj).2⟩
  zero j v m a _ h hj := ⟨rfl, (h hj).2⟩
  poison j v h hj := by
    obtain ⟨hl, hg⟩ := h hj
    refine ⟨?_, hg⟩
    unfold KeySlot.isLoading at hl ⊢
    dsimp only
    cases hs : v.state <;> simp_all [SlotState.poison]

/-- The purge of a slot set erases each slot of it, but for a loading one. -/
theorem tripPurges_slots {s : State} {ks : List SlotId} {k : SlotId} (hk : k ∈ ks) (hl : (s.slots[k]).isLoading = false) :
    ((inOrder (fun k t => State.tripPurge t k) ks s).slots[k]).state = .empty ∧
      ((inOrder (fun k t => State.tripPurge t k) ks s).slots[k]).generation = (s.slots[k]).generation := by
  have hquiet := (slots_kept (quietAt_kept k (s.slots[k]).generation)).acts
  have hempty := (slots_kept (emptyAt_kept k (s.slots[k]).generation)).acts
  have hrun : ∀ (ks : List SlotId) (t : State), t.Slots (quietAt k (s.slots[k]).generation) → k ∈ ks →
      (inOrder (fun k t => State.tripPurge t k) ks t).Slots (emptyAt k (s.slots[k]).generation) := by
    intro ks
    induction ks with
    | nil => exact fun _ _ hk => absurd hk List.not_mem_nil
    | cons x xs ih =>
      intro t ht hk
      rw [inOrder_cons]
      by_cases hx : x = k
      · subst hx
        refine hempty.tripPurges _ xs fun j hj => ?_
        subst hj
        obtain ⟨hl, hg⟩ := ht j rfl
        obtain ⟨hstate, hgen⟩ := tripPurge_slots_self hl
        exact ⟨hstate, hgen.trans hg⟩
      · exact ih _ (hquiet.tripPurge t x ht) (List.mem_of_ne_of_mem (Ne.symm hx) hk)
  refine hrun ks s (fun j hj => ?_) hk k rfl
  subst hj
  exact ⟨hl, rfl⟩

/-- The purge of a slot set leaves every slot outside it that is not PURGING in its state. -/
theorem tripPurges_slots_ne {ks : List SlotId} {k : SlotId} (hk : k ∉ ks) (s : State) (hp : (s.slots[k]).isPurging = false) :
    ((inOrder (fun k t => State.tripPurge t k) ks s).slots[k]).state = (s.slots[k]).state ∧
      ((inOrder (fun k t => State.tripPurge t k) ks s).slots[k]).generation = (s.slots[k]).generation := by
  refine inOrder_induct (P := fun t => (t.slots[k]).state = (s.slots[k]).state ∧
    (t.slots[k]).generation = (s.slots[k]).generation) _ _ _ (fun x hx t ⟨hstate, hgen⟩ => ?_) ⟨rfl, rfl⟩
  have hp' : (t.slots[k]).isPurging = false := by
    rw [KeySlot.isPurging, hstate]
    exact hp
  obtain ⟨hstate', hgen'⟩ := tripPurge_slots_ne (show k ≠ x from fun he => hk (he ▸ hx)) hp'
  exact ⟨hstate'.trans hstate, hgen'.trans hgen⟩

/-! ### Contexts -/

/-- The purge of a slot leaves a context that does not hold it and names no band whose migration it fails. -/
theorem tripPurge_uncut {s : State} {k : SlotId} {id : CtxId} {c : Context} (hc : s.contexts[id] = some c)
    (hk : c.holds k = false)
    (hn : ∀ (i : BandId) (b : Band), s.bands[i] = some b → b.failsWith k = true → c.names i = false) :
    (s.tripPurge k).contexts[id] = some c := by
  obtain h | ⟨m, h⟩ | ⟨m, a, h⟩ := slot_cases s.slots[k]
  · rw [tripPurge_of_idle h]
    exact hc
  · rw [tripPurge_of_material h]
    refine purgeSteps_uncut hc fun hcut => ?_
    obtain ⟨i, b, hi, hf, hname⟩ | ⟨_, hh⟩ := (cutByPurge_eq _ _ _ _).1 hcut
    · exact Bool.false_ne_true ((hn i b hi hf).symm.trans hname)
    · exact Bool.false_ne_true (hk.symm.trans hh)
  · rw [tripPurge_of_purging h, contexts_of_transfers ((endPurge_transfers _ k).trans (settleCuts_transfers _ _ _)),
      cutHolders_contexts]
    show (if (s.contexts[id]).any (fun c => c.holds k) then none else s.contexts[id]) = some c
    rw [hc, Option.any_some, if_neg (Bool.eq_false_iff.1 hk)]

/-- The CUT part of an action up to its ends: the band is locked, and the contexts that name it are cut (R131). -/
def State.tripped (s : State) (kind : EndKind) (i : BandId) : State :=
  inOrder (fun id t => State.endAs t kind id .tripped) ((s.lockBand i).naming i) (s.lockBand i)

theorem cutBand_eq (s : State) (kind : EndKind) (i : BandId) : s.cutBand kind i = (s.tripped kind i).settleCuts true none := rfl

theorem tripped_induct {P : State → Prop} {s : State} {kind : EndKind} {i : BandId} (hlock : P (s.lockBand i))
    (hend : ∀ (t : State) id, P t → P (t.endAs kind id .tripped)) : P (s.tripped kind i) :=
  inOrder_induct _ _ _ (fun id _ t ht => hend t id ht) hlock

/-- What the CUT part of an action leaves of the contexts: those that name the band end, and no other (R131). -/
theorem cutBand_contexts (s : State) (kind : EndKind) (i : BandId) (id : CtxId) : (s.cutBand kind i).contexts[id] =
    if (s.contexts[id]).any (fun c => c.names i) then none else s.contexts[id] := by
  rw [cutBand_eq, contexts_of_transfers (settleCuts_transfers _ _ _), State.tripped, inOrder_endAs_contexts]
  refine if_congr (mem_openWith.trans ?_) rfl rfl
  show (∃ c, s.contexts[id] = some c ∧ c.names i = true) ↔ _
  cases s.contexts[id] <;> simp

theorem cutBand_queues (s : State) (kind : EndKind) (i : BandId) :
    (s.cutBand kind i).frontQueue = s.frontQueue ++ (s.naming i).filterMap (s.doneFor .tripped) ∧
    (s.cutBand kind i).backQueue = s.backQueue ++ (s.naming i).filterMap (s.endFor .tripped) := by
  obtain ⟨hfront, _, hback, _⟩ := queues_of_transfers (settleCuts_transfers (s.tripped kind i) true none)
  obtain ⟨hfront', hback'⟩ := endEach_queues kind .tripped (openWith_nodup (s.lockBand i) fun c => c.names i)
    (s.lockBand i)
  exact ⟨hfront.trans hfront', hback.trans hback'⟩

end Sys2Proof.Machine

/-! PROOFS. A latching (R129 to R133, R141): its event, its steps, and what it leaves alone. -/

namespace Sys2Proof.Machine

/-! ### The event -/

theorem startPurge_sameClass (s : State) (k : SlotId) (m : Material) (a : Account) {c : NoticeClass} (hc : c ≠ .migrate) :
    s.SameClass (s.startPurge k m a) c :=
  (reportAll_sameClass fun d hd => by rw [failedEvent_class s k hd]; exact hc).trans
    ((startPurge_reports s k m a).sameClass c)

theorem sameClass_acts (s : State) {c : NoticeClass} (hp : c ≠ .purge) (hm : c ≠ .migrate) :
    Acts fun t => s.SameClass t c where
  choices _ _ h := h
  cut t id h := h.trans ((endAs_onlyEnds t _ id _).same.1.sameClass c)
  endPurge t k _ h := h.trans (endPurge_sameClass hp t k)
  startPurge t k m a _ _ h := h.trans (startPurge_sameClass t k m a hm)
  zeroGrace _ _ _ _ _ h := h

theorem actedOn_sameClass (s : State) (src : TripSource) {c : NoticeClass} (hp : c ≠ .purge) (hm : c ≠ .migrate) :
    s.SameClass (s.actedOn src) c :=
  inOrder_induct (P := fun t => s.SameClass t c) _ _ { s with latched := s.latched.insert src }
    (fun i _ t ht => (sameClass_acts s hp hm).bandAction (i := i) (fun _ h => h)
      (fun t kind id h => h.trans ((endAs_onlyEnds t kind id _).same.1.sameClass c)) t src ht) ⟨rfl, rfl⟩

section Event

variable {s : State} {src : TripSource} (h : s.latched.has src = false)

theorem actedOn_linkTime (s : State) (src : TripSource) : (s.actedOn src).applyIdleChanges.linkTime = s.linkTime :=
  (linkTime_of_outside (applyIdleChanges_outside (s.actedOn src))).trans
    (linkTime_of_outside (s := { s with latched := s.latched.insert src }) (actedOn_outside s src))

include h

theorem latch_latest : ((s.latch src).classOf .trip).latest =
    some { time := s.linkTime, detail := .trip (.source src) (s.latched.insert src) } := by
  have hreport := report_latest (s.actedOn src).applyIdleChanges (.trip (.source src) (s.latched.insert src))
  rw [actedOn_linkTime] at hreport
  rw [latch_eq_actedOn h]
  exact hreport

theorem latch_sameClass : (s.report (.trip (.source src) (s.latched.insert src))).SameClass (s.latch src) .trip := by
  have hbefore : s.SameClass (s.actedOn src).applyIdleChanges .trip :=
    (actedOn_sameClass s src (by decide) (by decide)).trans (applyIdleChanges_sameClass (by decide) _)
  rw [latch_eq_actedOn h]
  exact State.SameClass.report (d := .trip (.source src) (s.latched.insert src)) hbefore (actedOn_linkTime s src)

theorem latch_frame : s.SameLines (s.latch src) ∧ s.SameControl (s.latch src) ∧ (s.latch src).wraps = s.wraps ∧
    (s.latch src).latched = s.latched.insert src ∧ (s.latch src).discards = s.discards ∧
    (s.latch src).reservations = s.reservations := frame_of_outside (latch_outside s src h)

end Event

/-! ### The steps -/

theorem locked_eq (b : Band) : b.locked = { b with
    fields := { b.fields with readLock := true, writeLock := true }
    pending := match b.pending with
      | some ⟨.bandSet (some g), owed⟩ => some ⟨.bandSet (some { g with readLock := true, writeLock := true }), owed⟩
      | other => other } := by
  obtain ⟨fields, openCount, migration, writer, pending⟩ := b
  cases pending with
  | none => rfl
  | some p =>
    obtain ⟨change, owed⟩ := p
    cases change with
    | migrateStart => rfl
    | bandSet new => cases new <;> rfl

theorem lockBand_of_band {s : State} {i : BandId} {b : Band} (h : s.bands[i] = some b) :
    s.lockBand i = { s with bands := s.bands.set i (some b.locked) } := by
  rw [State.lockBand, h]
  rfl

theorem inSlotSet_iff (s : State) (i : BandId) (k : SlotId) : s.inSlotSet i k = true ↔
    ((∃ b, s.bands[i] = some b ∧ (b.boundTo k = true ∨ b.migratesTo k = true)) ∨
      (∃ (id : CtxId) (c : Context) (g : Segment), s.contexts[id] = some c ∧ g ∈ c.segments ∧ g.band = i ∧
        (g.current = k ∨ g.target = some k))) := by
  rw [State.inSlotSet, Bool.or_eq_true, List.any_eq_true]
  refine or_congr ?_ (exists_congr fun id => ?_)
  · cases s.bands[i] <;> simp
  · rw [and_iff_right (List.mem_finRange id)]
    cases s.contexts[id] with
    | none => simp
    | some c => simp

/-! ### What a latching leaves alone -/

/-- A source reaches a band with an action: the band's trip mask has it, and the action is the band's (R129). -/
def State.reached (s : State) (src : TripSource) (i : BandId) (action : LatchedAction) : Prop :=
  ∃ b, s.bands[i] = some b ∧ b.fields.tripMask.has src = true ∧ b.fields.action = action

/-- The action that a band receives after others is the one that the state before gives it. -/
theorem bandAction_cases {s t : State} (h : s.Shrinks t) (src : TripSource) (i : BandId) :
    t.bandAction src i = t ∨ (s.reached src i .lock ∧ t.bandAction src i = t.lockBand i) ∨
    (s.reached src i .cut ∧ t.bandAction src i = t.cutBand .cut i) ∨
    (s.reached src i .purge ∧ t.bandAction src i = t.purgeBand i) := by
  cases hb : t.bands[i] with
  | none => exact .inl (bandAction_none hb src)
  | some b' =>
    obtain ⟨b, hs, hmask, haction, _⟩ := h.band_before hb
    rw [bandAction_of_band hb]
    split
    · rename_i hhas
      rw [hmask] at hhas
      cases ha : b'.fields.action with
      | none => exact .inl rfl
      | lock => exact .inr (.inl ⟨⟨b, hs, hhas, haction.symm.trans ha⟩, rfl⟩)
      | cut => exact .inr (.inr (.inl ⟨⟨b, hs, hhas, haction.symm.trans ha⟩, rfl⟩))
      | purge => exact .inr (.inr (.inr ⟨⟨b, hs, hhas, haction.symm.trans ha⟩, rfl⟩))
    · exact .inl rfl

/-- What every band's action keeps holds behind all of them. -/
theorem actedOn_induct {P : State → Prop} {s : State} {src : TripSource}
    (hs : P { s with latched := s.latched.insert src })
    (h : ∀ (i : BandId) (t : State), s.Shrinks t → P t → P (t.bandAction src i)) : P (s.actedOn src) := by
  have hboth := inOrder_induct (P := fun t => s.Shrinks t ∧ P t) (fun i t => State.bandAction t src i) allBands
    { s with latched := s.latched.insert src }
    (fun i _ t ⟨hshrink, ht⟩ => ⟨hshrink.trans (bandAction_shrinks t src i), h i t hshrink ht⟩) ⟨.of_same rfl rfl, hs⟩
  exact hboth.2

/-- The actions of the lower bands, the action of one band, and the actions of the others. -/
theorem actedOn_split {P : State → Prop} {s : State} {src : TripSource} (i : BandId)
    (hs : P { s with latched := s.latched.insert src })
    (h : ∀ (j : BandId) (t : State), j < i → s.Shrinks t → P t → P (t.bandAction src j)) :
    ∃ t after, s.Shrinks t ∧ P t ∧
      s.actedOn src = inOrder (fun i t => State.bandAction t src i) after (t.bandAction src i) := by
  obtain ⟨before, after, hsplit, hlower, _⟩ := allBands_split i
  have hboth := inOrder_induct (P := fun t => s.Shrinks t ∧ P t) (fun i t => State.bandAction t src i) before
    { s with latched := s.latched.insert src }
    (fun j hj t ⟨hshrink, ht⟩ => ⟨hshrink.trans (bandAction_shrinks t src j), h j t (hlower j hj) hshrink ht⟩)
    ⟨.of_same rfl rfl, hs⟩
  exact ⟨_, after, hboth.1, hboth.2, by rw [State.actedOn, hsplit, inOrder_append, inOrder_cons]⟩

/-- The state after an action on a band (R130 to R132). -/
def State.act (s : State) (i : BandId) : LatchedAction → State
  | .none => s
  | .lock => s.lockBand i
  | .cut => s.cutBand .cut i
  | .purge => s.purgeBand i

theorem bandAction_of_reached {s t : State} (h : s.Shrinks t) {src : TripSource} {i : BandId} {action : LatchedAction}
    (hr : s.reached src i action) : t.bandAction src i = t.act i action := by
  obtain ⟨b, hs, hhas, rfl⟩ := hr
  obtain ⟨b', hb, hmask, haction, _⟩ := h.band_after hs
  rw [bandAction_of_band hb, hmask, haction, if_pos hhas]
  cases b.fields.action <;> rfl

section Shrinks

variable {b b' : Band} (h : b.Shrinks b') {k : SlotId}
include h

theorem Band.Shrinks.boundTo (hk : b'.boundTo k = true) : b.boundTo k = true := by
  obtain ⟨_, _, hbinding, _⟩ := h
  obtain ⟨x, hx, rfl⟩ := boundTo_iff.1 hk
  exact boundTo_iff.2 ⟨x, hbinding.elim (fun h => by rw [h] at hx; cases hx) fun h => h ▸ hx, rfl⟩

theorem Band.Shrinks.record {r : Migration} (hr : b'.migration = some r) : b.migration = some r := by
  obtain ⟨_, _, _, hmigration⟩ := h
  exact hmigration.elim (fun h => by rw [h] at hr; cases hr) fun h => h ▸ hr

theorem Band.Shrinks.migratesTo (hk : b'.migratesTo k = true) : b.migratesTo k = true := by
  obtain ⟨r, hr, hk⟩ := migratesTo_iff.1 hk
  exact migratesTo_iff.2 ⟨r, h.record hr, hk⟩

theorem Band.Shrinks.failsWith (hk : b'.failsWith k = true) : b.failsWith k = true := by
  obtain ⟨r, hr, hk⟩ := (fails_iff b' k).1 hk
  exact (fails_iff b k).2 ⟨r, h.record hr, hk.imp_right fun hb => boundTo_iff.1 (h.boundTo (boundTo_iff.2 hb))⟩

end Shrinks

theorem State.Shrinks.inSlotSet {s t : State} (h : s.Shrinks t) {i : BandId} {k : SlotId} (hk : t.inSlotSet i k = true) :
    s.inSlotSet i k = true := by
  rw [inSlotSet_iff] at hk ⊢
  obtain ⟨b', hb', hu⟩ | ⟨id, c, g, hc, hg⟩ := hk
  · obtain ⟨b, hb, hshrink⟩ := h.band_before hb'
    exact .inl ⟨b, hb, hu.imp hshrink.boundTo hshrink.migratesTo⟩
  · exact .inr ⟨id, c, g, h.some_of_open hc, hg⟩

theorem purgeBand_eq (s : State) (i : BandId) : s.purgeBand i = inOrder (fun k t => State.tripPurge t k)
    (allSlots.filter fun k => s.inSlotSet i k) (s.cutBand .uncounted i) := rfl

theorem cutBand_slots_idle {s : State} (kind : EndKind) (i : BandId) {k : SlotId} (hp : (s.slots[k]).isPurging = false) :
    ((s.cutBand kind i).slots[k]).state = (s.slots[k]).state ∧
      ((s.cutBand kind i).slots[k]).generation = (s.slots[k]).generation :=
  State.SlotFollows.idle (enter := Account.entered kind) (State.SlotFollows.before (settleCuts_slotFollows
    ((State.Ended.refl kind (s.lockBand i)).endEach ((s.lockBand i).naming i) .tripped) true nofun) rfl rfl) hp

section Alone

variable {s : State} {src : TripSource}

/-- A context that no action reaches, by its bands, by a purged slot, or by a migration that fails, stays (R131, R132). -/
theorem actedOn_open {id : CtxId} {c : Context} (hc : s.contexts[id] = some c)
    (hbands : ∀ i : BandId, s.reached src i .cut ∨ s.reached src i .purge → c.names i = false)
    (hslots : ∀ (i : BandId) (k : SlotId), s.reached src i .purge → s.inSlotSet i k = true → c.holds k = false ∧
      ∀ (j : BandId) (b : Band), s.bands[j] = some b → b.failsWith k = true → c.names j = false) :
    (s.actedOn src).contexts[id] = some c := by
  have hcut : ∀ (t : State) kind i, t.contexts[id] = some c → c.names i = false →
      (t.cutBand kind i).contexts[id] = some c := fun t kind i ht hn => by
    rw [cutBand_contexts, ht, Option.any_some, if_neg (Bool.eq_false_iff.1 hn)]
  refine actedOn_induct (P := fun t => t.contexts[id] = some c) hc fun i t hshrink ht => ?_
  obtain heq | ⟨_, heq⟩ | ⟨hr, heq⟩ | ⟨hr, heq⟩ := bandAction_cases hshrink src i
  · rw [heq]
    exact ht
  · rw [heq]
    exact ht
  · rw [heq]
    exact hcut t _ i ht (hbands i (.inl hr))
  · rw [heq, purgeBand_eq]
    refine (inOrder_induct (P := fun u => s.Shrinks u ∧ u.contexts[id] = some c) _ _ _ (fun k hk u ⟨hsu, hu⟩ => ?_)
      ⟨hshrink.trans (cutBand_shrinks t _ i), hcut t _ i ht (hbands i (.inr hr))⟩).2
    obtain ⟨hholds, hfails⟩ := hslots i k hr (hshrink.inSlotSet (List.mem_filter.1 hk).2)
    refine ⟨hsu.trans (tripPurge_shrinks u k), tripPurge_uncut hu hholds fun j b' hb' hf => ?_⟩
    obtain ⟨b, hb, hshrinks⟩ := hsu.band_before hb'
    exact hfails j b hb (hshrinks.failsWith hf)

/-- A slot that is not PURGING and in no slot set of a PURGE stays in its state (R132). -/
theorem actedOn_slots_idle {k : SlotId} (hp : (s.slots[k]).isPurging = false)
    (hset : ∀ i : BandId, s.reached src i .purge → s.inSlotSet i k = false) :
    ((s.actedOn src).slots[k]).state = (s.slots[k]).state ∧
      ((s.actedOn src).slots[k]).generation = (s.slots[k]).generation := by
  refine actedOn_induct (P := fun t => (t.slots[k]).state = (s.slots[k]).state ∧
    (t.slots[k]).generation = (s.slots[k]).generation) ⟨rfl, rfl⟩ fun i t hshrink ⟨hstate, hgen⟩ => ?_
  have hidle : ∀ u : State, (u.slots[k]).state = (s.slots[k]).state → (u.slots[k]).isPurging = false := fun u hu => by
    rw [KeySlot.isPurging, hu]
    exact hp
  have hcut : ∀ kind, ((t.cutBand kind i).slots[k]).state = (s.slots[k]).state ∧
      ((t.cutBand kind i).slots[k]).generation = (s.slots[k]).generation := fun kind => by
    obtain ⟨hs, hg⟩ := cutBand_slots_idle kind i (hidle t hstate)
    exact ⟨hs.trans hstate, hg.trans hgen⟩
  obtain heq | ⟨_, heq⟩ | ⟨hr, heq⟩ | ⟨hr, heq⟩ := bandAction_cases hshrink src i
  · rw [heq]
    exact ⟨hstate, hgen⟩
  · rw [heq]
    exact ⟨hstate, hgen⟩
  · rw [heq]
    exact hcut _
  · have hk : k ∉ allSlots.filter fun k => t.inSlotSet i k := fun hk =>
      Bool.false_ne_true ((hset i hr).symm.trans (hshrink.inSlotSet (List.mem_filter.1 hk).2))
    obtain ⟨hs, hg⟩ := hcut .uncounted
    obtain ⟨hs', hg'⟩ := tripPurges_slots_ne hk _ (hidle _ hs)
    rw [heq, purgeBand_eq]
    exact ⟨hs'.trans hs, hg'.trans hg⟩

theorem latch_contexts (h : s.latched.has src = false) : (s.latch src).contexts = (s.actedOn src).contexts := by
  rw [latch_eq_actedOn h, contexts_of_transfers (report_transfers _ _), applyIdleChanges_contexts]

theorem latch_slots (h : s.latched.has src = false) : (s.latch src).slots = (s.actedOn src).slots := by
  rw [latch_eq_actedOn h, report_slots, applyIdleChanges_slots]

end Alone

end Sys2Proof.Machine

/-! PROOFS. The end frames of a latching (R131, R132): every context that it ends has its DONE, and a write its END. -/

namespace Sys2Proof.Machine

/-! ### The queues only grow -/

/-- The output queues begin with those of another state. -/
def State.QueuesFrom (s t : State) : Prop :=
  (∃ dones, t.frontQueue = s.frontQueue ++ dones) ∧ ∃ ends, t.backQueue = s.backQueue ++ ends

theorem State.QueuesFrom.refl (s : State) : s.QueuesFrom s := ⟨⟨[], (List.append_nil _).symm⟩, [], (List.append_nil _).symm⟩

theorem State.QueuesFrom.trans {s t u : State} (h : s.QueuesFrom t) (h' : t.QueuesFrom u) : s.QueuesFrom u := by
  obtain ⟨⟨dones, hd⟩, ends, he⟩ := h
  obtain ⟨⟨dones', hd'⟩, ends', he'⟩ := h'
  exact ⟨⟨dones ++ dones', by rw [hd', hd, List.append_assoc]⟩, ends ++ ends', by rw [he', he, List.append_assoc]⟩

theorem State.QueuesFrom.congr {s t u : State} (h : s.QueuesFrom t) (hu : u.transfers = t.transfers) : s.QueuesFrom u := by
  obtain ⟨hfront, _, hback, _⟩ := queues_of_transfers hu
  unfold State.QueuesFrom
  rw [hfront, hback]
  exact h

theorem State.QueuesFrom.endAs {s t : State} (h : s.QueuesFrom t) (kind : EndKind) (id : CtxId) (status : TransferStatus) :
    s.QueuesFrom (t.endAs kind id status) := by
  obtain ⟨hfront, hback⟩ := endAs_queues t kind id status
  exact h.trans ⟨⟨_, hfront⟩, _, hback⟩

theorem queuesFrom_kept (s : State) : Kept s.QueuesFrom where
  choices _ _ h := h
  report t d h := h.congr (report_transfers t d)
  discards _ _ h := h
  latched _ _ h := h
  setWrap _ _ _ h := h
  endAs _ kind id status h := h.endAs kind id status
  applyPending t i h := h.congr (applyPending_transfers t i)
  dropPending t i h := h.congr (dropPending_transfers t i)
  abandonLoad t k h := h.congr (abandonLoad_transfers t k)
  endPurge t k _ h := h.congr (endPurge_transfers t k)
  lockBand _ _ h := h
  startPurge t k m a _ _ h := h.congr (startPurge_transfers t k m a)
  zeroGrace _ _ _ _ _ h := h
  poisonAndCut _ _ h := inAnyOrder_induct (P := s.QueuesFrom) _ _ _ (fun _ _ ht => ht)
    (fun id _ _ hu => hu.endAs _ id _) h

section QueuesFrom

variable {s t : State} (h : s.QueuesFrom t)
include h

theorem State.QueuesFrom.front {e : FrontEntry} (he : e ∈ s.frontQueue) : e ∈ t.frontQueue := by
  obtain ⟨⟨dones, hd⟩, _⟩ := h
  exact hd ▸ List.mem_append_left _ he

theorem State.QueuesFrom.back {e : BackEntry} (he : e ∈ s.backQueue) : e ∈ t.backQueue := by
  obtain ⟨_, ends, hd⟩ := h
  exact hd ▸ List.mem_append_left _ he

end QueuesFrom

/-! ### Every end has its frames -/

/-- The contexts that have ended have their frames, at the link time of the state before. -/
structure State.EndsAs (ok : TransferStatus → Prop) (s t : State) : Prop where
  shrinks : s.Shrinks t
  linkTime : t.linkTime = s.linkTime
  queued : State.EndQueued ok s t

section EndsAs

variable {ok : TransferStatus → Prop} {s : State}

theorem State.EndsAs.refl (ok : TransferStatus → Prop) (s : State) : State.EndsAs ok s s := ⟨.refl s, rfl, .refl ok s⟩

theorem State.EndsAs.endOne {t : State} (h : State.EndsAs ok s t) (kind : EndKind) (id : CtxId) {status : TransferStatus}
    (hok : ok status) : State.EndsAs ok s (t.endAs kind id status) where
  shrinks := h.shrinks.trans (endAs_shrinks t kind id status)
  linkTime := (linkTime_of_outside (endAs_outside t kind id status)).trans h.linkTime
  queued := h.queued.endOne h.shrinks.contexts h.linkTime kind id hok

theorem State.EndsAs.congr {t u : State} (h : State.EndsAs ok s t) (hshrinks : t.Shrinks u)
    (ht : u.transfers = t.transfers) (ho : u.outside = t.outside) : State.EndsAs ok s u where
  shrinks := h.shrinks.trans hshrinks
  linkTime := (linkTime_of_outside ho).trans h.linkTime
  queued := h.queued.congr ht

theorem State.EndsAs.lockBand {t : State} (h : State.EndsAs ok s t) (i : BandId) : State.EndsAs ok s (t.lockBand i) :=
  ⟨h.shrinks.trans (lockBand_shrinks t i), h.linkTime, h.queued.congr rfl⟩

theorem endsAs_acts (hok : ok .keyPurged) : Acts (State.EndsAs ok s) where
  choices _ _ h := ⟨h.shrinks.trans (.of_same rfl rfl), h.linkTime, h.queued.congr rfl⟩
  cut _ id h := h.endOne .cut id hok
  endPurge t k _ h := h.congr (endPurge_shrinks t k) (endPurge_transfers t k) (endPurge_outside t k)
  startPurge t k m a _ _ h := h.congr (startPurge_shrinks t k m a) (startPurge_transfers t k m a) (startPurge_outside t k m a)
  zeroGrace _ _ _ _ _ h := ⟨h.shrinks.trans (.of_same rfl rfl), h.linkTime, h.queued.congr rfl⟩

theorem State.EndsAs.cutBand {t : State} (h : State.EndsAs ok s t) (hok : ok .tripped) (kind : EndKind) (i : BandId) :
    State.EndsAs ok s (t.cutBand kind i) := by
  have hends : State.EndsAs ok s (t.tripped kind i) := tripped_induct (h.lockBand i) fun _ id hu => hu.endOne kind id hok
  exact hends.congr (.of_same (settleCuts_contexts _ _ _) (drainIdle_bands _ _)) (settleCuts_transfers _ _ _)
    (settleCuts_outside _ _ _)

end EndsAs

/-- The statuses with which a latching ends contexts (R131, R132). -/
def ofLatching (status : TransferStatus) : Prop := status = .tripped ∨ status = .keyPurged

section Latching

variable {s : State} {src : TripSource} (h : s.latched.has src = false)

theorem actedOn_endsAs (s : State) (src : TripSource) : State.EndsAs ofLatching s (s.actedOn src) :=
  actedOn_induct ⟨.of_same rfl rfl, rfl, (State.EndQueued.refl ofLatching s).congr rfl⟩ fun i t _ ht =>
    (endsAs_acts (.inr rfl)).bandAction (i := i) (fun _ hu => hu.lockBand i)
      (fun _ kind id hu => hu.endOne kind id (.inl rfl)) t src ht

theorem latch_transfers (h : s.latched.has src = false) : (s.latch src).transfers = (s.actedOn src).transfers := by
  rw [latch_eq_actedOn h, report_transfers, applyIdleChanges_transfers]

/-- A band reached with CUT or PURGE is named by no context behind its action. -/
theorem actedOn_cut {i : BandId} (hr : s.reached src i .cut ∨ s.reached src i .purge) {id : CtxId} {c : Context}
    (hc : s.contexts[id] = some c) (hn : c.names i = true) : (s.actedOn src).contexts[id] = none := by
  obtain ⟨t, after, hshrinks, _, heq⟩ := actedOn_split (s := s) (src := src) (P := fun _ => True) i trivial
    fun _ _ _ _ _ => trivial
  rw [heq]
  have hclosed : ∀ kind, (t.cutBand kind i).contexts[id] = none := fun kind => by
    rw [cutBand_contexts]
    obtain hnone | hsame := hshrinks.contexts id
    · rw [hnone]
      rfl
    · rw [hsame, hc, Option.any_some, if_pos hn]
  have hat : (t.bandAction src i).contexts[id] = none := by
    obtain hr | hr := hr
    · rw [bandAction_of_reached hshrinks hr]
      exact hclosed .cut
    · rw [bandAction_of_reached hshrinks hr]
      exact (((shrinks_acts (t.cutBand .uncounted i)).tripPurges _ (allSlots.filter fun k => t.inSlotSet i k)
        (.refl _)).contexts id).elim (fun h => h) fun hsame => hsame.trans (hclosed .uncounted)
  exact ((bandActions_shrink src after (t.bandAction src i)).contexts id).elim (fun h => h) fun hsame => hsame.trans hat

/-- Up to a band reached with CUT or PURGE, and no lower one with PURGE, every end is TRIPPED (R131, R132). -/
theorem actedOn_tripped {i : BandId} (hr : s.reached src i .cut ∨ s.reached src i .purge)
    (hfirst : ∀ j : BandId, j.val < i.val → ¬s.reached src j .purge) {id : CtxId} {c : Context}
    (hc : s.contexts[id] = some c) (hn : c.names i = true) :
    FrontEntry.done id .tripped c.sectorsDone (s.linkTime - c.openTime) ∈ (s.actedOn src).frontQueue ∧
    (c.dir = .write → BackEntry.ended id .tripped c.sectorsDone ∈ (s.actedOn src).backQueue) := by
  have hlower : ∀ (j : BandId) (t : State), j < i → s.Shrinks t → State.EndsAs (· = .tripped) s t →
      State.EndsAs (· = .tripped) s (t.bandAction src j) := by
    intro j t hj _ ht
    obtain heq | ⟨_, heq⟩ | ⟨_, heq⟩ | ⟨hpurge, _⟩ := bandAction_cases ht.shrinks src j
    · rw [heq]
      exact ht
    · rw [heq]
      exact ht.lockBand j
    · rw [heq]
      exact ht.cutBand rfl _ j
    · exact absurd hpurge (hfirst j hj)
  obtain ⟨t, after, _, hbefore, heq⟩ := actedOn_split (s := s) (src := src) (P := State.EndsAs (· = .tripped) s) i
    ⟨.of_same rfl rfl, rfl, (State.EndQueued.refl _ s).congr rfl⟩ hlower
  rw [heq]
  have hkept := (queuesFrom_kept (t.bandAction src i)).acts
  have hafter : (t.bandAction src i).QueuesFrom (inOrder (fun i t => State.bandAction t src i) after (t.bandAction src i)) :=
    inOrder_induct (P := (t.bandAction src i).QueuesFrom) _ _ _ (fun j _ u hu =>
      hkept.bandAction (i := j) (fun _ h => h) (fun _ kind id h => h.endAs kind id _) u src hu) (.refl _)
  have hcut : ∀ kind, FrontEntry.done id .tripped c.sectorsDone (s.linkTime - c.openTime) ∈ (t.cutBand kind i).frontQueue ∧
      (c.dir = .write → BackEntry.ended id .tripped c.sectorsDone ∈ (t.cutBand kind i).backQueue) := fun kind => by
    obtain ⟨_, rfl, hqueued⟩ := (hbefore.cutBand rfl kind i).queued id c hc (by
      rw [cutBand_contexts]
      obtain hnone | hsame := hbefore.shrinks.contexts id
      · rw [hnone]
        rfl
      · rw [hsame, hc, Option.any_some, if_pos hn])
    exact hqueued
  have hat : ∃ kind, (t.cutBand kind i).QueuesFrom (t.bandAction src i) := by
    obtain hr | hr := hr
    · exact ⟨.cut, by rw [bandAction_of_reached hbefore.shrinks hr]; exact .refl _⟩
    · refine ⟨.uncounted, ?_⟩
      rw [bandAction_of_reached hbefore.shrinks hr]
      exact (queuesFrom_kept (t.cutBand .uncounted i)).acts.tripPurges _ _ (.refl _)
  obtain ⟨kind, hat⟩ := hat
  obtain ⟨hdone, hend⟩ := hcut kind
  exact ⟨hafter.front (hat.front hdone), fun hd => hafter.back (hat.back (hend hd))⟩

end Latching

end Sys2Proof.Machine

/-! PROOFS. The bands of a latching (R130, R132): the locks that an action sets, and the fields that stay where none
reaches. -/

namespace Sys2Proof.Machine

/-! ### Locks -/

/-- A band with both locks set, in a staged BAND-SET too (R130). -/
def Band.bothLocked (b : Band) : Prop := b.fields.readLock = true ∧ b.fields.writeLock = true ∧
  ∀ g owed, b.pending = some ⟨.bandSet (some g), owed⟩ → g.readLock = true ∧ g.writeLock = true

/-- A band is UNUSED, or has both locks set. -/
def State.LockedAt (i : BandId) (s : State) : Prop := ∀ b, s.bands[i] = some b → b.bothLocked

theorem locked_bothLocked (b : Band) : b.locked.bothLocked := by
  rw [locked_eq]
  refine ⟨rfl, rfl, fun g owed hp => ?_⟩
  dsimp only at hp
  split at hp
  · cases hp
    exact ⟨rfl, rfl⟩
  · rename_i hother
    exact absurd hp (hother g owed)

theorem bothLocked_of_same {b b' : Band} (h : b.bothLocked) (hr : b'.fields.readLock = b.fields.readLock)
    (hw : b'.fields.writeLock = b.fields.writeLock) (hp : b'.pending = b.pending ∨ b'.pending = none) : b'.bothLocked := by
  obtain ⟨hread, hwrite, hstaged⟩ := h
  refine ⟨hr.trans hread, hw.trans hwrite, fun g owed hg => ?_⟩
  obtain hp | hp := hp
  · exact hstaged g owed (hp.symm.trans hg)
  · rw [hp] at hg
    cases hg

theorem Band.MayMove.bothLocked {b b' : Band} (h : b.MayMove b') (hb : b.bothLocked) : b'.bothLocked := by
  obtain rfl | ⟨_, _, _, _, rfl⟩ := h
  · exact hb
  · exact bothLocked_of_same hb rfl rfl (.inl rfl)

theorem State.LockedAt.map {i : BandId} {s t : State} (h : s.LockedAt i) {f : Band → Band}
    (ht : t.bands[i] = (s.bands[i]).map f) (hf : ∀ b, b.bothLocked → (f b).bothLocked) : t.LockedAt i := by
  intro b' hb'
  rw [ht] at hb'
  obtain ⟨b, hb, rfl⟩ := Option.map_eq_some_iff.1 hb'
  exact hf b (h b hb)

theorem State.LockedAt.congr {i : BandId} {s t : State} (h : s.LockedAt i) (ht : t.bands = s.bands) : t.LockedAt i := by
  unfold State.LockedAt
  rw [ht]
  exact h

theorem State.LockedAt.endAs {i : BandId} {s : State} (h : s.LockedAt i) (kind : EndKind) (id : CtxId)
    (status : TransferStatus) : (s.endAs kind id status).LockedAt i := by
  cases hc : s.contexts[id] with
  | none =>
    rw [endAs_of_free hc]
    exact h
  | some c =>
    refine h.map (endAs_bands_get hc kind status i) fun b hb => ?_
    split
    · exact bothLocked_of_same hb rfl rfl (.inl rfl)
    · exact hb

theorem entered_bothLocked {s : State} {i : BandId} {g : BandFields} (hr : g.readLock = true) (hw : g.writeLock = true) :
    (s.entered i g).bothLocked := by
  have hfields : (s.entered i g).fields = s.gatedFields s.bands[i] g := rfl
  have hpending : (s.entered i g).pending = none := rfl
  refine ⟨?_, ?_, fun g' owed hp => by rw [hpending] at hp; cases hp⟩
  · rw [hfields, gatedFields_eq, hr, Bool.true_or]
  · rw [hfields, gatedFields_eq, hw, Bool.true_or]

theorem State.LockedAt.applyPending {i : BandId} {s : State} (h : s.LockedAt i) (j : BandId) : (s.applyPending j).LockedAt i := by
  intro b' hb'
  by_cases hij : j = i
  · subst hij
    obtain hkept | ⟨x, new, owed, hx, hcount, hp⟩ | ⟨x, target, generation, owed, hx, hcount, hp⟩ := pending_cases s j
    · rw [applyPending_of_kept hkept] at hb'
      exact h b' hb'
    · rw [applyPending_of_bandSet hx hcount hp, payReply_bands, applyBandSet_get_self] at hb'
      obtain ⟨g, rfl, rfl⟩ := Option.map_eq_some_iff.1 hb'
      obtain ⟨_, _, hstaged⟩ := h x hx
      obtain ⟨hr, hw⟩ := hstaged g owed hp
      exact entered_bothLocked hr hw
    · rw [applyPending_of_migrateStart hx hcount hp, payReply_bands, State.applyMigrateStart, hx] at hb'
      obtain ⟨y, hy, hmove⟩ := moveWatermark_mayMove (i := j) (setBand_get_self s j _) (s.startWatermark j) false
      rw [hy] at hb'
      cases hb'
      exact hmove.bothLocked (bothLocked_of_same (h x hx) rfl rfl (.inr rfl))
  · cases hs : s.bands[i] with
    | none =>
      rw [applyPending_get_none hs] at hb'
      cases hb'
    | some b =>
      obtain ⟨y, hy, hmove⟩ := applyPending_mayMove_ne hij hs
      rw [hy] at hb'
      cases hb'
      exact hmove.bothLocked (h b hs)

theorem State.LockedAt.startPurge {i : BandId} {s : State} (h : s.LockedAt i) (k : SlotId) (m : Material) (a : Account) :
    (s.startPurge k m a).LockedAt i := by
  refine h.map (startPurge_bands_get s k m a i) fun b hb => ?_
  rw [unnamed_unbound_eq]
  refine bothLocked_of_same hb ?_ ?_ ?_
  · dsimp only
    split <;> rfl
  · dsimp only
    split <;> rfl
  · dsimp only
    split
    · exact .inr rfl
    · exact .inl rfl

theorem State.LockedAt.lockBand {i : BandId} {s : State} (h : s.LockedAt i) (j : BandId) : (s.lockBand j).LockedAt i := by
  by_cases hij : j = i
  · subst hij
    exact h.map (setBand_get_self s j _) fun b _ => locked_bothLocked b
  · intro b hb
    rw [State.lockBand, setBand_get_ne s _ hij] at hb
    exact h b hb

theorem lockBand_lockedAt (s : State) (i : BandId) : (s.lockBand i).LockedAt i := by
  intro b' hb'
  rw [State.lockBand, setBand_get_self] at hb'
  obtain ⟨b, _, rfl⟩ := Option.map_eq_some_iff.1 hb'
  exact locked_bothLocked b

theorem lockedAt_acts (i : BandId) : Acts (State.LockedAt i) where
  choices _ _ h := h
  cut _ id h := h.endAs _ id _
  endPurge s k _ h := h.congr (endPurge_bands s k)
  startPurge _ k m a _ _ h := h.startPurge k m a
  zeroGrace _ _ _ _ _ h := h

theorem State.LockedAt.bandAction {i : BandId} {s : State} (h : s.LockedAt i) (src : TripSource) (j : BandId) :
    (s.bandAction src j).LockedAt i :=
  (lockedAt_acts i).bandAction (i := j) (fun _ ht => ht.lockBand j) (fun _ kind id ht => ht.endAs kind id _) s src h

section Latching

variable {s : State} {src : TripSource} (h : s.latched.has src = false)

/-- A band reached with an action other than NONE is locked by it, or is no longer ACTIVE (R130). -/
theorem actedOn_lockedAt {i : BandId} {action : LatchedAction} (hr : s.reached src i action) (hne : action ≠ .none) :
    (s.actedOn src).LockedAt i := by
  obtain ⟨t, after, hshrinks, _, heq⟩ := actedOn_split (s := s) (src := src) (P := fun _ => True) i trivial
    fun _ _ _ _ _ => trivial
  rw [heq]
  have hcut : ∀ kind, (t.cutBand kind i).LockedAt i := fun kind =>
    State.LockedAt.congr (s := t.tripped kind i)
      (tripped_induct (lockBand_lockedAt t i) fun _ id hu => hu.endAs kind id _) (drainIdle_bands _ none)
  have hat : (t.bandAction src i).LockedAt i := by
    rw [bandAction_of_reached hshrinks hr]
    cases action with
    | none => exact absurd rfl hne
    | lock => exact lockBand_lockedAt t i
    | cut => exact hcut .cut
    | purge => exact (lockedAt_acts i).tripPurges _ _ (hcut .uncounted)
  exact inOrder_induct (P := State.LockedAt i) _ _ _ (fun j _ _ hu => hu.bandAction src j) hat

include h in
theorem latch_lockedAt {i : BandId} {action : LatchedAction} (hr : s.reached src i action) (hne : action ≠ .none) :
    (s.latch src).LockedAt i := by
  rw [latch_eq_actedOn h]
  exact (inOrder_induct (P := State.LockedAt i) _ _ _ (fun j _ _ hu => hu.applyPending j) (actedOn_lockedAt hr hne)).congr
    (report_bands _ _)

end Latching

/-! ### Bands that no action reaches -/

/-- A band has the fields of another but for the binding, and no staged change. -/
def State.KeepsFields (i : BandId) (b : Band) (s : State) : Prop :=
  ∃ b', s.bands[i] = some b' ∧ { b'.fields with binding := b.fields.binding } = b.fields ∧ b'.pending = none

theorem State.KeepsFields.map {i : BandId} {b : Band} {s t : State} (h : s.KeepsFields i b) {f : Band → Band}
    (ht : t.bands[i] = (s.bands[i]).map f)
    (hf : ∀ x : Band, { (f x).fields with binding := b.fields.binding } = { x.fields with binding := b.fields.binding } ∧
      (x.pending = none → (f x).pending = none)) : t.KeepsFields i b := by
  obtain ⟨x, hx, hfields, hp⟩ := h
  exact ⟨f x, by rw [ht, hx]; rfl, (hf x).1.trans hfields, (hf x).2 hp⟩

theorem State.KeepsFields.congr {i : BandId} {b : Band} {s t : State} (h : s.KeepsFields i b) (ht : t.bands = s.bands) :
    t.KeepsFields i b := by
  unfold State.KeepsFields
  rw [ht]
  exact h

theorem State.KeepsFields.endAs {i : BandId} {b : Band} {s : State} (h : s.KeepsFields i b) (kind : EndKind) (id : CtxId)
    (status : TransferStatus) : (s.endAs kind id status).KeepsFields i b := by
  cases hc : s.contexts[id] with
  | none =>
    rw [endAs_of_free hc]
    exact h
  | some c =>
    refine h.map (endAs_bands_get hc kind status i) fun x => ?_
    split
    · exact ⟨rfl, fun hp => hp⟩
    · exact ⟨rfl, fun hp => hp⟩

theorem keepsFields_acts (i : BandId) (b : Band) : Acts (State.KeepsFields i b) where
  choices _ _ h := h
  cut _ id h := h.endAs _ id _
  endPurge s k _ h := h.congr (endPurge_bands s k)
  startPurge s k m a _ _ h := h.map (startPurge_bands_get s k m a i) fun x => by
    rw [unnamed_unbound_eq]
    dsimp only
    refine ⟨?_, fun hp => by rw [hp, ite_self]⟩
    split <;> rfl
  zeroGrace _ _ _ _ _ h := h

/-- A band without a staged change that no action reaches keeps every field but its binding (R129). -/
theorem latch_keepsFields (s : State) (src : TripSource) {i : BandId} {b : Band} (hb : s.bands[i] = some b)
    (hp : b.pending = none) (hun : b.fields.tripMask.has src = false ∨ b.fields.action = .none) :
    (s.latch src).KeepsFields i b := by
  have hstart : s.KeepsFields i b := ⟨b, hb, rfl, hp⟩
  cases h : s.latched.has src with
  | true =>
    rw [latch_of_has s src h]
    exact hstart
  | false =>
    have hacted : (s.actedOn src).KeepsFields i b := by
      refine actedOn_induct (P := State.KeepsFields i b) hstart fun j t hshrink ht => ?_
      by_cases hij : j = i
      · subst hij
        obtain ⟨b', hb', hmask, haction, _⟩ := hshrink.band_after hb
        rw [bandAction_of_band hb', hmask, haction]
        obtain hm | ha := hun
        · rw [if_neg (Bool.eq_false_iff.1 hm)]
          exact ht
        · rw [ha]
          split <;> exact ht
      · refine (keepsFields_acts i b).bandAction (i := j) (fun u hu => ?_) (fun _ kind id hu => hu.endAs kind id _) t src ht
        obtain ⟨x, hx, hrest⟩ := hu
        exact ⟨x, (setBand_get_ne u _ hij).trans hx, hrest⟩
    obtain ⟨x, hx, hfields, hpx⟩ := hacted
    obtain ⟨y, hy, hmove⟩ := applyIdleChanges_mayMove hx hpx
    rw [latch_eq_actedOn h]
    refine State.KeepsFields.congr (s := (s.actedOn src).applyIdleChanges) ⟨y, hy, ?_, hmove.pending.trans hpx⟩ (report_bands _ _)
    obtain rfl | ⟨_, _, _, _, rfl⟩ := hmove
    · exact hfields
    · exact hfields

end Sys2Proof.Machine

/-! PROOFS. The action PURGE on a band (R106, R132): the slots of its set, and the report of the last of them. -/

namespace Sys2Proof.Machine

/-! ### The slots of the set -/

theorem mem_slotSet {s : State} {i : BandId} {k : SlotId} : k ∈ (allSlots.filter fun k => s.inSlotSet i k) ↔
    s.inSlotSet i k = true := by
  rw [List.mem_filter, and_iff_right (List.mem_finRange k)]

theorem slots_of_quietAt {s t : State} {k : SlotId} (ht : t.Slots (quietAt k (s.slots[k]).generation)) :
    (t.slots[k]).isLoading = false ∧ (t.slots[k]).generation = (s.slots[k]).generation := ht k rfl

theorem cutBand_quiet {s : State} (kind : EndKind) (i : BandId) {k : SlotId} (hl : (s.slots[k]).isLoading = false) :
    ((s.cutBand kind i).slots[k]).isLoading = false ∧
      ((s.cutBand kind i).slots[k]).generation = (s.slots[k]).generation := by
  have hkept := slots_kept (quietAt_kept k (s.slots[k]).generation)
  refine slots_of_quietAt (hkept.acts.cutBand (i := i) (fun _ h => h) (fun t kind id h => hkept.endAs t kind id _ h) s kind
    fun j hj => ?_)
  subst hj
  exact ⟨hl, rfl⟩

/-- A slot of the set is erased, but for a loading one (R106, R132). -/
theorem purgeBand_slots {s : State} {i : BandId} {k : SlotId} (hk : s.inSlotSet i k = true)
    (hl : (s.slots[k]).isLoading = false) :
    ((s.purgeBand i).slots[k]).state = .empty ∧ ((s.purgeBand i).slots[k]).generation = (s.slots[k]).generation := by
  obtain ⟨hl', hg'⟩ := cutBand_quiet .uncounted i hl
  obtain ⟨hempty, hg⟩ := tripPurges_slots (mem_slotSet.2 hk) hl'
  rw [purgeBand_eq]
  exact ⟨hempty, hg.trans hg'⟩

/-! ### The last slot of the set -/

theorem isPurging_of_idle {v : KeySlot} (h : v.isEmpty = true ∨ v.isLoading = true) : v.isPurging = false := by
  obtain ⟨generation, holders, state⟩ := v
  cases state with
  | purging => simp [KeySlot.isEmpty, KeySlot.isLoading] at h
  | _ => rfl

theorem isPurging_of_material {v : KeySlot} {m : Material} (h : v.state = .ready m ∨ v.state = .poisoned m) :
    v.isPurging = false := by
  unfold KeySlot.isPurging
  obtain h | h := h <;> rw [h]

/-- The slots of a set below its last one, and the last one. -/
theorem slotSet_split {s : State} {i : BandId} {k : SlotId} (hk : s.inSlotSet i k = true)
    (hlast : ∀ x : SlotId, s.inSlotSet i x = true → x.val ≤ k.val) :
    ∃ before, (allSlots.filter fun k => s.inSlotSet i k) = before ++ [k] ∧
      ∀ x ∈ before, s.inSlotSet i x = true ∧ x ≠ k := by
  obtain ⟨before, after, hsplit⟩ := List.append_of_mem (mem_slotSet.2 hk)
  have hsorted := (List.pairwise_lt_finRange 32).filter (fun k => s.inSlotSet i k)
  have hmem : ∀ x ∈ before ++ k :: after, s.inSlotSet i x = true := fun x hx => mem_slotSet.1 (hsplit ▸ hx)
  rw [show (List.finRange 32).filter (fun k => s.inSlotSet i k) = before ++ k :: after from hsplit,
    List.pairwise_append, List.pairwise_cons] at hsorted
  obtain ⟨_, ⟨hafter, _⟩, hbefore⟩ := hsorted
  have hnil : after = [] := List.eq_nil_iff_forall_not_mem.2 fun x hx =>
    Nat.not_lt.2 (hlast x (hmem x (List.mem_append_right _ (List.mem_cons_of_mem k hx)))) (hafter x hx)
  subst hnil
  exact ⟨before, hsplit, fun x hx => ⟨hmem x (List.mem_append_left _ hx),
    Fin.ne_of_lt (hbefore x hx k List.mem_cons_self)⟩⟩

theorem trip_linkTime {s : State} (ks : List SlotId) (i : BandId) :
    (inOrder (fun k t => State.tripPurge t k) ks (s.cutBand .uncounted i)).linkTime = s.linkTime :=
  linkTime_of_outside ((inOrder_outside _ _ _ fun k _ t => tripPurge_outside t k).trans (cutBand_outside s _ i))

/-- The report of a purge that an action begins: cause TRIP, nothing drained, its holders cut (R106). -/
theorem tripPurge_latest {s : State} {k : SlotId} (h : ∃ m, (s.slots[k]).state = .ready m ∨ (s.slots[k]).state = .poisoned m) :
    ((s.tripPurge k).classOf .purge).latest = some ⟨s.linkTime, .purge k .trip 0 (s.holding k)⟩ := by
  obtain ⟨m, h⟩ := h
  have hstate := begun_state s k m { grace := 0, cause := .trip, drained := 0, cut := 0, owed := none } true
  have hlatest := endPurge_latest hstate
  have hcut : s.endedWith (s.purgeCuts k m { grace := 0, cause := .trip, drained := 0, cut := 0, owed := none })
      (fun c => c.holds k) = s.holding k := endedWith_all fun id c hc hh => by
    rw [purgeCuts_contexts, hc, Option.any_some, if_pos ((cutByPurge_eq _ _ _ _).2 (.inr ⟨rfl, hh⟩))]
  rw [begun_linkTime, State.begunAccount, hcut] at hlatest
  obtain ⟨heq, _⟩ | ⟨_, _, hg⟩ := purgeSteps_cases s k m { grace := 0, cause := .trip, drained := 0, cut := 0, owed := none } true
  · rw [tripPurge_of_material h, heq, hlatest]
    simp only [Nat.zero_add]
  · exact absurd rfl hg

theorem cutBand_holding (s : State) (kind : EndKind) (i : BandId) (k : SlotId) : (s.cutBand kind i).holding k =
    (List.finRange 64).countP fun id => (s.contexts[id]).any fun c => c.holds k && !c.names i := by
  refine List.countP_congr fun id _ => ?_
  rw [cutBand_contexts]
  cases s.contexts[id] with
  | none => exact Iff.rfl
  | some c => cases hn : c.names i <;> simp [hn]

theorem purgeBand_latest {s : State} {i : BandId} {k : SlotId} (hk : s.inSlotSet i k = true)
    (hlast : ∀ x : SlotId, s.inSlotSet i x = true → x.val ≤ k.val)
    (hm : (s.slots[k]).isReady = true ∨ (s.slots[k]).isPoisoned = true) :
    ∃ cut, ((s.purgeBand i).classOf .purge).latest = some ⟨s.linkTime, .purge k .trip 0 cut⟩ ∧
      ((∀ x : SlotId, s.inSlotSet i x = true → x ≠ k → (s.slots[x]).isEmpty = true ∨ (s.slots[x]).isLoading = true) →
        cut = (List.finRange 64).countP fun id => (s.contexts[id]).any fun c => c.holds k && !c.names i) := by
  obtain ⟨before, hsplit, hbefore⟩ := slotSet_split hk hlast
  obtain ⟨m, hm⟩ := ready_or_poisoned hm
  have hidle : (s.slots[k]).isPurging = false := isPurging_of_material hm
  obtain ⟨hcut, _⟩ := cutBand_slots_idle .uncounted i hidle
  have hidle' : ((s.cutBand .uncounted i).slots[k]).isPurging = false := by
    rw [KeySlot.isPurging, hcut]
    exact hidle
  obtain ⟨htrip, _⟩ := tripPurges_slots_ne (fun h => (hbefore k h).2 rfl) _ hidle'
  have hlatest := tripPurge_latest ⟨m, by rw [htrip, hcut]; exact hm⟩
  rw [trip_linkTime] at hlatest
  rw [purgeBand_eq, hsplit, inOrder_append]
  refine ⟨_, hlatest, fun hothers => ?_⟩
  have hnone : inOrder (fun k t => State.tripPurge t k) before (s.cutBand .uncounted i) = s.cutBand .uncounted i := by
    refine inOrder_of_fixed fun x hx => tripPurge_of_idle ?_
    obtain ⟨hset, hne⟩ := hbefore x hx
    have hx := hothers x hset hne
    obtain ⟨hsame, _⟩ := cutBand_slots_idle .uncounted i (isPurging_of_idle hx)
    unfold KeySlot.isEmpty KeySlot.isLoading
    rw [hsame]
    exact hx
  rw [hnone]
  exact cutBand_holding s _ i k

end Sys2Proof.Machine

/-! PROOFS. The owed reply of a running purge that an action ends (R106), and the bands without a purged slot (R97). -/

namespace Sys2Proof.Machine

/-! ### Replies behind a list -/

/-- Behind the replies of a list, a waiting reply has a property. -/
def State.Answered (rs : List Reply) (p : Reply → Prop) (s : State) : Prop :=
  ∃ new, s.replies = rs ++ new ∧ ∃ r ∈ new, p r

theorem State.Answered.append {rs : List Reply} {p : Reply → Prop} {s t : State} (h : s.Answered rs p) {new : List Reply}
    (ht : t.replies = s.replies ++ new) : t.Answered rs p := by
  obtain ⟨before, hs, r, hr, hp⟩ := h
  exact ⟨before ++ new, by rw [ht, hs, List.append_assoc], r, List.mem_append_left _ hr, hp⟩

theorem State.Answered.congr {rs : List Reply} {p : Reply → Prop} {s t : State} (h : s.Answered rs p)
    (ht : t.replies = s.replies) : t.Answered rs p := h.append (ht.trans (List.append_nil _).symm)

theorem State.RepliesFrom.answered {rs : List Reply} {p : Reply → Prop} {s t : State} (h : s.RepliesFrom rs)
    {new : List Reply} (ht : t.replies = s.replies ++ new) {r : Reply} (hr : r ∈ new) (hp : p r) : t.Answered rs p := by
  obtain ⟨before, hs⟩ := h
  exact ⟨before ++ new, by rw [ht, hs, List.append_assoc], r, List.mem_append_right _ hr, hp⟩

theorem endPurge_appends (s : State) (k : SlotId) : ∃ new, (s.endPurge k).replies = s.replies ++ new := by
  cases hp : (s.slots[k]).isPurging with
  | true =>
    obtain ⟨m, a, hs⟩ := (isPurging_iff _).1 hp
    exact ⟨_, endPurge_replies hs⟩
  | false =>
    rw [endPurge_of_idle hp]
    exact ⟨[], (List.append_nil _).symm⟩

/-! ### The account of a running purge -/

section Account

variable (u : State) (k : SlotId) (m : Material) (a : Account) (tag : Byte)

/-- The purge of a slot runs on, with the holders that have ended since a state entered as cut. -/
def State.runsOn (t : State) : Prop := ∃ g, (t.slots[k]).state =
  .purging m { a with grace := g, cut := a.cut + u.endedWith t fun c => c.holds k }

/-- The reply that a purge owes once all its holders of a state are cut. -/
def State.cutReply : Reply := purgeReply k { a with cut := a.cut + u.holding k } tag

/-- The purge runs on with its holders entered, or it has ended and its reply counts all of them as cut. -/
structure State.Accounted (t : State) : Prop where
  counts : t.CountsOk
  contexts : ∀ id : CtxId, t.contexts[id] = none ∨ t.contexts[id] = u.contexts[id]
  replies : t.RepliesFrom u.replies
  account : State.runsOn u k m a t ∨ t.Answered u.replies (· = State.cutReply u k a tag)

variable {u k m a tag} {t : State} (h : State.Accounted u k m a tag t)
include h

theorem State.Accounted.congr {t' : State} (hcounts : t'.CountsOk) (hc : t'.contexts = t.contexts)
    {new : List Reply} (hr : t'.replies = t.replies ++ new) (hs : (t'.slots[k]).state = (t.slots[k]).state) :
    State.Accounted u k m a tag t' where
  counts := hcounts
  contexts id := by rw [hc]; exact h.contexts id
  replies := h.replies.append hr
  account := h.account.imp (fun hrun => by unfold State.runsOn; rw [hs, endedWith_congr hc]; exact hrun)
    fun hans => hans.append hr

theorem State.Accounted.cut (id : CtxId) : State.Accounted u k m a tag (t.endAs .cut id .keyPurged) := by
  cases hc : t.contexts[id] with
  | none =>
    rw [endAs_of_free hc]
    exact h
  | some c =>
    have hopen : u.contexts[id] = some c := (h.contexts id).elim (fun hn => by rw [hn] at hc; cases hc) fun he => he.symm.trans hc
    have hreplies : (t.endAs .cut id .keyPurged).replies = t.replies := (endAs_onlyEnds t .cut id .keyPurged).same.2.1
    refine ⟨h.counts.endAs .cut id .keyPurged, fun j => ?_, h.replies.congr hreplies,
      h.account.imp (fun ⟨g, hs⟩ => ⟨g, ?_⟩) fun hans => hans.congr hreplies⟩
    · rw [endAs_contexts]
      split
      · exact .inl rfl
      · exact h.contexts j
    · rw [endAs_slots_get hc, endedWith_endOpen hopen hc]
      split
      · dsimp only
        rw [hs]
        rfl
      · exact hs

theorem State.Accounted.endPurge (ho : a.owed = some tag) {j : SlotId} (hj : (t.slots[j]).holders = 0 ∨ t.holdersOf j = []) :
    State.Accounted u k m a tag (t.endPurge j) := by
  have hcounts := countsOk_kept.endPurge t j hj h.counts
  have hcontexts : (t.endPurge j).contexts = t.contexts := contexts_of_transfers (endPurge_transfers t j)
  obtain ⟨new, hnew⟩ := endPurge_appends t j
  by_cases hjk : k = j
  · subst hjk
    refine ⟨hcounts, fun id => by rw [hcontexts]; exact h.contexts id, h.replies.append hnew, .inr ?_⟩
    obtain ⟨g, hs⟩ | hans := h.account
    · have hnone : t.holdersOf k = [] := hj.elim (fun h0 => List.length_eq_zero_iff.1 ((h.counts.2.2 k).symm.trans h0)) id
      have hall : u.endedWith t (fun c => c.holds k) = u.holding k := endedWith_all fun id c hc hh => by
        obtain hclosed | hsame := h.contexts id
        · exact hclosed
        · have hmem : id ∈ t.holdersOf k := mem_openWith.2 ⟨c, hsame.trans hc, hh⟩
          rw [hnone] at hmem
          cases hmem
      rw [hall] at hs
      refine h.replies.answered (endPurge_replies hs) (r := State.cutReply u k a tag) ?_ rfl
      dsimp only
      rw [ho]
      exact List.mem_cons_self
    · exact hans.append hnew
  · exact h.congr hcounts hcontexts hnew (by rw [endPurge_slots_ne t hjk])

theorem State.Accounted.startPurge {j : SlotId} {m' : Material} (a' : Account)
    (hm : (t.slots[j]).state = .ready m' ∨ (t.slots[j]).state = .poisoned m') :
    State.Accounted u k m a tag (t.startPurge j m' a') := by
  have hcounts := h.counts.startPurge j m' a'
  have hcontexts := startPurge_contexts t j m' a'
  have hreplies := startPurge_replies t j m' a'
  by_cases hjk : k = j
  · subst hjk
    refine ⟨hcounts, fun id => by rw [hcontexts]; exact h.contexts id, h.replies.append hreplies, .inr ?_⟩
    obtain ⟨g, hs⟩ | hans := h.account
    · rw [hs] at hm
      obtain hm | hm := hm <;> cases hm
    · exact hans.append hreplies
  · exact h.congr hcounts hcontexts hreplies (by rw [startPurge_slots_ne t j m' a' hjk])

theorem State.Accounted.zeroGrace {j : SlotId} {m' : Material} {a' : Account} (hs : (t.slots[j]).state = .purging m' a') :
    State.Accounted u k m a tag (t.graceless j m' a') := by
  have hcounts : (t.graceless j m' a').CountsOk := h.counts.setSlot j rfl
  by_cases hjk : j = k
  · subst hjk
    refine ⟨hcounts, h.contexts, h.replies, h.account.imp (fun ⟨g, hrun⟩ => ⟨0, ?_⟩) id⟩
    rw [hs] at hrun
    cases hrun
    exact graceless_state t j _ _
  · exact h.congr (new := []) hcounts rfl (List.append_nil _).symm (by rw [State.graceless, setSlot_get_ne t _ hjk])

end Account

theorem accounted_acts (u : State) (k : SlotId) (m : Material) {a : Account} {tag : Byte} (ho : a.owed = some tag) :
    Acts (State.Accounted u k m a tag) where
  choices _ _ h := ⟨h.counts, h.contexts, h.replies, h.account⟩
  cut _ id h := h.cut id
  endPurge _ _ hj h := h.endPurge ho hj
  startPurge _ _ _ a' _ hm h := h.startPurge a' hm
  zeroGrace _ _ _ _ hs h := h.zeroGrace hs

/-- The owed reply of a purge that an action ends counts as cut the holders that do not name the band (log 12). -/
theorem purgeBand_owed {s : State} {i : BandId} {k : SlotId} {m : Material} {a : Account} {tag : Byte}
    (hk : s.inSlotSet i k = true) (hcounts : s.CountsOk) (hs : (s.slots[k]).state = .purging m a) (ho : a.owed = some tag) :
    (s.purgeBand i).Answered s.replies (· = purgeReply k { a with cut := a.cut +
      ((List.finRange 64).countP fun id => (s.contexts[id]).any fun c => c.holds k && !c.names i) } tag) := by
  have hended : (s.lockBand i).Ended .uncounted (s.tripped .uncounted i) :=
    (State.Ended.refl .uncounted (s.lockBand i)).endEach ((s.lockBand i).naming i) .tripped
  have hreplies : (s.tripped .uncounted i).replies = s.replies :=
    (endEach_onlyEnds (s.lockBand i) .uncounted ((s.lockBand i).naming i) .tripped).same.2.1
  have hholding : (s.tripped .uncounted i).holding k =
      (List.finRange 64).countP fun id => (s.contexts[id]).any fun c => c.holds k && !c.names i := by
    rw [← cutBand_holding s .uncounted i k, cutBand_eq]
    unfold State.holding
    rw [settleCuts_contexts]
  have hcounts' : (s.tripped .uncounted i).CountsOk :=
    tripped_induct (countsOk_kept.lockBand s i hcounts) fun _ id ht => ht.endAs .uncounted id .tripped
  have hcut := cutBand_eq s .uncounted i
  generalize s.tripped .uncounted i = u at hended hreplies hholding hcounts' hcut
  have hstart : State.Accounted u k m a tag u := by
    refine ⟨hcounts', fun id => .inr rfl, .refl u, .inl ⟨a.grace, ?_⟩⟩
    rw [endedWith_self, hended.slots k]
    show ((s.slots[k]).state).entered .uncounted _ = _
    rw [hs]
    rfl
  have hafter : State.Accounted u k m a tag (s.purgeBand i) := by
    rw [purgeBand_eq, hcut]
    exact (accounted_acts u k m ho).tripPurges _ _ ((accounted_acts u k m ho).drainIdle u none hstart)
  obtain ⟨g, hrun⟩ | hans := hafter.account
  · obtain ⟨hempty, _⟩ := purgeBand_slots hk (by rw [KeySlot.isLoading, hs])
    rw [hempty] at hrun
    cases hrun
  · rw [hreplies, State.cutReply, hholding] at hans
    exact hans

end Sys2Proof.Machine

/-! PROOFS. What a latching does to the slots that it purges (R97, R132) and to the staged changes (R65, R66, R98). -/

namespace Sys2Proof.Machine

/-! ### READY and POISONED slots -/

/-- A slot is READY or POISONED. -/
def KeySlot.isKeyed (v : KeySlot) : Prop := v.isReady = true ∨ v.isPoisoned = true

theorem isKeyed_iff (v : KeySlot) : v.isKeyed ↔ ∃ m, v.state = .ready m ∨ v.state = .poisoned m := by
  refine ⟨ready_or_poisoned, fun ⟨m, hm⟩ => ?_⟩
  unfold KeySlot.isKeyed KeySlot.isReady KeySlot.isPoisoned
  obtain hm | hm := hm <;> rw [hm] <;> simp

theorem isKeyed_congr {v v' : KeySlot} (h : v'.state = v.state) : v'.isKeyed ↔ v.isKeyed := by
  rw [isKeyed_iff, isKeyed_iff, h]

theorem not_isKeyed_of_purging {v : KeySlot} {m : Material} {a : Account} (h : v.state = .purging m a) : ¬v.isKeyed := by
  rw [isKeyed_iff, h]
  rintro ⟨m', hm | hm⟩ <;> cases hm

theorem not_isKeyed_of_empty {v : KeySlot} (h : v.state = .empty) : ¬v.isKeyed := by
  rw [isKeyed_iff, h]
  rintro ⟨m', hm | hm⟩ <;> cases hm

theorem enter_isKeyed (kind : EndKind) (v : KeySlot) (n : Nat) :
    ({ v with holders := n, state := v.state.enter kind } : KeySlot).isKeyed ↔ v.isKeyed := by
  obtain ⟨generation, holders, state⟩ := v
  cases state with
  | purging m a => cases kind <;> exact iff_of_false (not_isKeyed_of_purging rfl) (not_isKeyed_of_purging rfl)
  | _ => exact isKeyed_congr rfl

theorem endAs_isKeyed (s : State) (kind : EndKind) (id : CtxId) (status : TransferStatus) (k : SlotId) :
    ((s.endAs kind id status).slots[k]).isKeyed ↔ (s.slots[k]).isKeyed := by
  cases hc : s.contexts[id] with
  | none => rw [endAs_of_free hc]
  | some c =>
    rw [endAs_slots_get hc]
    split
    · exact enter_isKeyed kind _ _
    · exact Iff.rfl

theorem endPurge_isKeyed (s : State) (j k : SlotId) : ((s.endPurge j).slots[k]).isKeyed ↔ (s.slots[k]).isKeyed := by
  rw [endPurge_slots_get]
  split
  · rename_i h
    obtain ⟨rfl, hp⟩ := h
    obtain ⟨m, a, hs⟩ := (isPurging_iff _).1 hp
    exact iff_of_false (not_isKeyed_of_empty rfl) (not_isKeyed_of_purging hs)
  · exact Iff.rfl

theorem startPurge_isKeyed (s : State) (j k : SlotId) (m : Material) (a : Account) :
    ((s.startPurge j m a).slots[k]).isKeyed ↔ k ≠ j ∧ (s.slots[k]).isKeyed := by
  by_cases hjk : k = j
  · subst hjk
    rw [startPurge_slots_self]
    exact iff_of_false (not_isKeyed_of_purging rfl) fun h => h.1 rfl
  · rw [startPurge_slots_ne s j m a hjk]
    exact (and_iff_right hjk).symm

theorem graceless_isKeyed {s : State} {j : SlotId} {m : Material} {a : Account} (hs : (s.slots[j]).state = .purging m a)
    (k : SlotId) : ((s.graceless j m a).slots[k]).isKeyed ↔ (s.slots[k]).isKeyed := by
  by_cases hjk : j = k
  · subst hjk
    exact iff_of_false (not_isKeyed_of_purging (graceless_state s j m a)) (not_isKeyed_of_purging hs)
  · rw [State.graceless, setSlot_get_ne s _ hjk]

/-! ### The binding to a slot -/

theorem unnamed_unbound_boundTo {b : Band} {j k : SlotId} (hjk : k ≠ j) :
    ((b.unnamed j).unbound j).boundTo k = b.boundTo k := by
  rw [unnamed_unbound_eq]
  unfold Band.boundTo
  cases hb : b.fields.binding with
  | none => simp [hb]
  | some x =>
    by_cases hx : x.slot = j
    · simp [hx, Ne.symm hjk]
    · simp [hb, hx]

/-- While a slot is READY or POISONED, a band stays bound to it. -/
def State.boundWhile (i : BandId) (k : SlotId) (s : State) : Prop :=
  (s.slots[k]).isKeyed → ∃ b, s.bands[i] = some b ∧ b.boundTo k = true

theorem State.boundWhile.map {i : BandId} {k : SlotId} {s t : State} (h : s.boundWhile i k)
    (hk : (t.slots[k]).isKeyed → (s.slots[k]).isKeyed) {f : Band → Band} (hb : t.bands[i] = (s.bands[i]).map f)
    (hf : (t.slots[k]).isKeyed → ∀ b : Band, b.boundTo k = true → (f b).boundTo k = true) : t.boundWhile i k := fun ht => by
  obtain ⟨b, hs, hbound⟩ := h (hk ht)
  exact ⟨f b, by rw [hb, hs]; rfl, hf ht b hbound⟩

theorem State.boundWhile.congr {i : BandId} {k : SlotId} {s t : State} (h : s.boundWhile i k)
    (hk : (t.slots[k]).isKeyed → (s.slots[k]).isKeyed) (hb : t.bands = s.bands) : t.boundWhile i k := fun ht => by
  rw [hb]
  exact h (hk ht)

theorem State.boundWhile.endAs {i : BandId} {k : SlotId} {s : State} (h : s.boundWhile i k) (kind : EndKind) (id : CtxId)
    (status : TransferStatus) : (s.endAs kind id status).boundWhile i k := by
  cases hc : s.contexts[id] with
  | none =>
    rw [endAs_of_free hc]
    exact h
  | some c =>
    refine h.map (endAs_isKeyed s kind id status k).1 (endAs_bands_get hc kind status i) fun _ b hb => ?_
    split
    · exact hb
    · exact hb

theorem State.boundWhile.lockBand {i : BandId} {k : SlotId} {s : State} (h : s.boundWhile i k) (j : BandId) :
    (s.lockBand j).boundWhile i k := by
  by_cases hij : j = i
  · subst hij
    exact h.map (fun ht => ht) (setBand_get_self s j _) fun _ _ hb => hb
  · intro ht
    obtain ⟨b, hs, hbound⟩ := h ht
    exact ⟨b, (setBand_get_ne s _ hij).trans hs, hbound⟩

theorem boundWhile_acts (i : BandId) (k : SlotId) : Acts (State.boundWhile i k) where
  choices _ _ h := h
  cut _ id h := h.endAs _ id _
  endPurge s j _ h := h.congr (endPurge_isKeyed s j k).1 (endPurge_bands s j)
  startPurge s j m a _ _ h := h.map (fun ht => ((startPurge_isKeyed s j k m a).1 ht).2) (startPurge_bands_get s j m a i)
    fun ht _ hb => (unnamed_unbound_boundTo ((startPurge_isKeyed s j k m a).1 ht).1).trans hb
  zeroGrace s j m a hs h := h.congr (t := s.graceless j m a) (graceless_isKeyed hs k).1 rfl

/-- A slot is READY or POISONED, or no band uses it. -/
def State.keyedOrUnused (k : SlotId) (s : State) : Prop := (s.slots[k]).isKeyed ∨ ¬s.uses k

theorem State.keyedOrUnused.mono {k : SlotId} {s t : State} (h : s.keyedOrUnused k)
    (hk : (s.slots[k]).isKeyed → (t.slots[k]).isKeyed) (hu : t.uses k → s.uses k) : t.keyedOrUnused k :=
  h.imp hk fun hn ht => hn (hu ht)

theorem State.keyedOrUnused.endAs {k : SlotId} {s : State} (h : s.keyedOrUnused k) (kind : EndKind) (id : CtxId)
    (status : TransferStatus) : (s.endAs kind id status).keyedOrUnused k :=
  h.mono (endAs_isKeyed s kind id status k).2 (endAs_uses k)

theorem State.keyedOrUnused.lockBand {k : SlotId} {s : State} (h : s.keyedOrUnused k) (j : BandId) :
    (s.lockBand j).keyedOrUnused k := by
  refine h.mono (fun hk => hk) fun hu => ?_
  refine uses_setBand (i := j) (fun x k hx hu => ?_) k hu
  obtain ⟨b, hb, rfl⟩ := Option.map_eq_some_iff.1 hx
  exact ⟨j, b, hb, (locked_uses b k).1 hu⟩

theorem unnamed_unbound_uses {b : Band} {j k : SlotId} (h : ((b.unnamed j).unbound j).uses k) : b.uses k := by
  have hdrop : (b.unnamed j).uses k → b.uses k := by
    unfold Band.unnamed
    split
    · exact uses_of_unstaged (b := b) (b' := { b with pending := none }) rfl rfl rfl
    · exact fun hu => hu
  obtain hu | hu | hu := h
  · exact hdrop (.inl (unbound_boundTo hu).1)
  · exact hdrop (.inr (.inl (unbound_migratesTo hu).1))
  · exact hdrop (.inr (.inr (unbound_changeNames hu)))

theorem startPurge_uses {s : State} {j k : SlotId} {m : Material} {a : Account} (h : (s.startPurge j m a).uses k) :
    s.uses k := uses_of_map (fun i => ⟨_, startPurge_bands_get s j m a i, fun _ _ hu => unnamed_unbound_uses hu⟩) k h

theorem keyedOrUnused_acts (k : SlotId) : Acts (State.keyedOrUnused k) where
  choices _ _ h := h
  cut _ id h := h.endAs _ id _
  endPurge s j _ h := h.mono (endPurge_isKeyed s j k).2 (uses_of_bands (endPurge_bands s j))
  startPurge s j m a _ _ h := by
    by_cases hjk : k = j
    · subst hjk
      exact .inr (startPurge_unused s k m a)
    · exact h.mono (fun hk => (startPurge_isKeyed s j k m a).2 ⟨hjk, hk⟩) startPurge_uses
  zeroGrace s j m a hs h := h.mono (t := s.graceless j m a) (graceless_isKeyed hs k).2 fun hu => hu

section Latching

variable {s : State} {src : TripSource} {i : BandId} {k : SlotId}

/-- A slot that was READY or POISONED keeps its state, or is EMPTY (R132). -/
def State.keptOrEmpty (k : SlotId) (state : SlotState) (s : State) : Prop :=
  (s.slots[k]).state = state ∨ (s.slots[k]).state = .empty

theorem bandAction_keptOrEmpty {t : State} {state : SlotState} (hkeyed : ∀ v : KeySlot, v.state = state → v.isKeyed)
    (h : t.keptOrEmpty k state) (j : BandId) : (t.bandAction src j).keptOrEmpty k state := by
  have hidle : ∀ u : State, u.keptOrEmpty k state → (u.slots[k]).isPurging = false ∧ (u.slots[k]).isLoading = false := by
    intro u hu
    obtain hu | hu := hu
    · obtain ⟨m, hm⟩ := (isKeyed_iff _).1 (hkeyed _ hu)
      refine ⟨isPurging_of_material hm, ?_⟩
      unfold KeySlot.isLoading
      obtain hm | hm := hm <;> rw [hm]
    · unfold KeySlot.isPurging KeySlot.isLoading
      rw [hu]
      exact ⟨rfl, rfl⟩
  have hcut : ∀ kind, (t.cutBand kind j).keptOrEmpty k state := fun kind => by
    obtain ⟨hs, _⟩ := cutBand_slots_idle kind j (hidle t h).1
    unfold State.keptOrEmpty
    rw [hs]
    exact h
  obtain heq | ⟨_, heq⟩ | ⟨_, heq⟩ | ⟨_, heq⟩ := bandAction_cases (.refl t) src j
  · rw [heq]
    exact h
  · rw [heq]
    exact h
  · rw [heq]
    exact hcut _
  · obtain ⟨hp, hl⟩ := hidle _ (hcut .uncounted)
    rw [heq, purgeBand_eq]
    by_cases hk : k ∈ allSlots.filter fun k => t.inSlotSet j k
    · exact .inr (tripPurges_slots hk hl).1
    · unfold State.keptOrEmpty
      rw [(tripPurges_slots_ne hk _ hp).1]
      exact hcut .uncounted

/-- A READY or POISONED slot that is bound to a band reached with PURGE is EMPTY behind the actions, and no band uses it
(R97, R132). -/
theorem actedOn_purged (hr : s.reached src i .purge) (hbound : ∃ b, s.bands[i] = some b ∧ b.boundTo k = true)
    (hk : (s.slots[k]).isKeyed) : ((s.actedOn src).slots[k]).state = .empty ∧ ¬(s.actedOn src).uses k := by
  have hempty : ((s.actedOn src).slots[k]).state = .empty := by
    have hkeyed : ∀ v : KeySlot, v.state = (s.slots[k]).state → v.isKeyed := fun v hv => (isKeyed_congr hv).2 hk
    obtain ⟨t, after, hshrinks, ⟨hbound', hkept⟩, heq⟩ := actedOn_split (s := s) (src := src)
      (P := fun t => t.boundWhile i k ∧ t.keptOrEmpty k (s.slots[k]).state) i ⟨fun _ => hbound, .inl rfl⟩
      fun j t _ _ ⟨hb, hkept⟩ => ⟨(boundWhile_acts i k).bandAction (i := j) (fun _ h => h.lockBand j)
        (fun _ kind id h => h.endAs kind id _) t src hb, bandAction_keptOrEmpty hkeyed hkept j⟩
    rw [heq]
    have hat : ((t.bandAction src i).slots[k]).state = .empty := by
      obtain hstate | hstate := hkept
      · obtain ⟨b, hb, hbk⟩ := hbound' (hkeyed _ hstate)
        obtain ⟨m, hm⟩ := (isKeyed_iff _).1 (hkeyed _ hstate)
        rw [bandAction_of_reached hshrinks hr]
        refine (purgeBand_slots ((inSlotSet_iff t i k).2 (.inl ⟨b, hb, .inl hbk⟩)) ?_).1
        unfold KeySlot.isLoading
        obtain hm | hm := hm <;> rw [hm]
      · exact ((slots_kept (emptyAt_kept k (t.slots[k]).generation)).bandAction t src i (fun j hj => by
          subst hj
          exact ⟨hstate, rfl⟩) k rfl).1
    exact (inOrder_induct (P := State.Slots (emptyAt k ((t.bandAction src i).slots[k]).generation)) _ _ _
      (fun j _ u hu => (slots_kept (emptyAt_kept k _)).bandAction u src j hu) fun j hj => by
        subst hj
        exact ⟨hat, rfl⟩) k rfl |>.1
  have hunused := actedOn_induct (P := State.keyedOrUnused k) (s := s) (src := src) (.inl hk) fun j t _ ht =>
    (keyedOrUnused_acts k).bandAction (i := j) (fun _ h => h.lockBand j) (fun _ kind id h => h.endAs kind id _) t src ht
  exact ⟨hempty, hunused.resolve_left (not_isKeyed_of_empty hempty)⟩

end Latching

end Sys2Proof.Machine

/-! PROOFS. The staged changes of a latching (R65, R66, R98): each is still staged, or answered. -/

namespace Sys2Proof.Machine

/-! ### The reply of a staged change -/

/-- A band has a staged change that owes a reply. -/
def State.owing (i : BandId) (tag : Byte) (s : State) : Prop :=
  ∃ b p, s.bands[i] = some b ∧ b.pending = some p ∧ p.owed = some tag

/-- A reply to a tag, OK or ABANDONED. -/
def Reply.settles (tag : Byte) (r : Reply) : Prop := r.tag = tag ∧ (r.status = .ok ∨ r.status = .abandoned)

/-- A staged change still owes its reply, or the reply is behind those of a list. -/
def State.owingOrAnswered (rs : List Reply) (i : BandId) (tag : Byte) (s : State) : Prop :=
  s.RepliesFrom rs ∧ (s.owing i tag ∨ s.Answered rs (Reply.settles tag))

section Owing

variable {rs : List Reply} {i : BandId} {tag : Byte} {s t : State} (h : s.owingOrAnswered rs i tag)
include h

/-- The staged change stays, or its reply is among the new ones. -/
theorem State.owingOrAnswered.step {new : List Reply} (hr : t.replies = s.replies ++ new)
    (ho : s.owing i tag → t.owing i tag ∨ ∃ r ∈ new, r.settles tag) : t.owingOrAnswered rs i tag := by
  obtain ⟨hfrom, howing | hans⟩ := h
  · refine ⟨hfrom.append hr, ?_⟩
    obtain hkeep | ⟨r, hmem, hsettles⟩ := ho howing
    · exact .inl hkeep
    · exact .inr (hfrom.answered hr hmem hsettles)
  · exact ⟨hfrom.append hr, .inr (hans.append hr)⟩

theorem State.owingOrAnswered.map {new : List Reply} (hr : t.replies = s.replies ++ new) {f : Band → Band}
    (hb : t.bands[i] = (s.bands[i]).map f) (hf : ∀ b : Band, (f b).pending.bind (·.owed) = b.pending.bind (·.owed)) :
    t.owingOrAnswered rs i tag := by
  refine h.step hr fun ⟨b, p, hs, hp, ho⟩ => .inl ?_
  have howed := hf b
  rw [hp, Option.bind_some, ho] at howed
  obtain ⟨p', hp', ho'⟩ := Option.bind_eq_some_iff.1 howed
  exact ⟨f b, p', by rw [hb, hs]; rfl, hp', ho'⟩

theorem State.owingOrAnswered.congr (hr : t.replies = s.replies) (hb : t.bands = s.bands) : t.owingOrAnswered rs i tag :=
  h.step (new := []) (hr.trans (List.append_nil _).symm) fun ho => .inl (by unfold State.owing; rw [hb]; exact ho)

theorem State.owingOrAnswered.endAs (kind : EndKind) (id : CtxId) (status : TransferStatus) :
    (s.endAs kind id status).owingOrAnswered rs i tag := by
  have hreplies := (endAs_onlyEnds s kind id status).same.2.1
  cases hc : s.contexts[id] with
  | none =>
    rw [endAs_of_free hc]
    exact h
  | some c =>
    refine h.map (hreplies.trans (List.append_nil _).symm) (endAs_bands_get hc kind status i) fun b => ?_
    split
    · rfl
    · rfl

theorem State.owingOrAnswered.applyPending (j : BandId) : (s.applyPending j).owingOrAnswered rs i tag := by
  obtain ⟨ok, hok, hstatus, htags⟩ := applyPending_replies s j
  refine h.step hok fun ⟨b, p, hs, hp, ho⟩ => ?_
  by_cases hij : j = i
  · subst hij
    by_cases hcount : b.openCount = 0
    · have howed : s.owedAt j = some tag := by
        rw [State.owedAt, hs, Option.bind_some, if_pos hcount, hp]
        exact ho
      rw [howed, Option.toList_some] at htags
      obtain ⟨r, hr, htag⟩ := List.mem_map.1 (htags ▸ List.mem_cons_self : tag ∈ ok.map (·.tag))
      exact .inr ⟨r, hr, htag, .inl (hstatus r hr)⟩
    · rw [applyPending_of_kept fun x hx => by rw [hs] at hx; cases hx; exact .inl hcount]
      exact .inl ⟨b, p, hs, hp, ho⟩
  · obtain ⟨b', hb', hmove⟩ := applyPending_mayMove_ne hij hs
    exact .inl ⟨b', p, hb', hmove.pending.trans hp, ho⟩

end Owing

/-! ### A dropped change -/

/-- The ABANDONED reply of a change that names a slot is among those that the beginning of its purge appends (R98). -/
theorem droppedReply_mem {s : State} {i : BandId} {b : Band} {p : Pending} {tag : Byte} {k : SlotId}
    (hs : s.bands[i] = some b) (hp : b.pending = some p) (ho : p.owed = some tag) (hn : b.changeNames k = true) :
    ∃ r ∈ allBands.filterMap (State.droppedReply k s), r.tag = tag ∧ r.status = .abandoned := by
  have hreply : ∃ r, State.droppedReply k s i = some r ∧ r.tag = tag ∧ r.status = .abandoned := by
    unfold State.droppedReply
    rw [hs, Option.bind_some, if_pos hn, hp, Option.bind_some, ho, Option.map_some]
    cases p.change <;> exact ⟨_, rfl, rfl, rfl⟩
  obtain ⟨r, hr, htag⟩ := hreply
  exact ⟨r, List.mem_filterMap.2 ⟨i, List.mem_finRange i, hr⟩, htag⟩

theorem locked_owed (b : Band) : b.locked.pending.bind (·.owed) = b.pending.bind (·.owed) := by
  unfold Band.locked Pending.locked
  cases b.pending with
  | none => rfl
  | some p =>
    obtain ⟨change, owed⟩ := p
    cases change with
    | migrateStart => rfl
    | bandSet new => cases new <;> rfl

theorem State.owingOrAnswered.lockBand {rs : List Reply} {i : BandId} {tag : Byte} {s : State}
    (h : s.owingOrAnswered rs i tag) (j : BandId) : (s.lockBand j).owingOrAnswered rs i tag := by
  by_cases hij : j = i
  · subst hij
    exact h.map (new := []) (List.append_nil _).symm (setBand_get_self s j _) locked_owed
  · exact h.step (new := []) (List.append_nil _).symm fun ⟨b, p, hs, hrest⟩ =>
      .inl ⟨b, p, (setBand_get_ne s _ hij).trans hs, hrest⟩

theorem owingOrAnswered_acts (rs : List Reply) (i : BandId) (tag : Byte) : Acts (State.owingOrAnswered rs i tag) where
  choices _ _ h := h
  cut _ id h := h.endAs _ id _
  endPurge s k _ h := by
    obtain ⟨new, hnew⟩ := endPurge_appends s k
    exact h.step hnew fun ho => .inl (by unfold State.owing; rw [endPurge_bands]; exact ho)
  startPurge s k m a _ _ h := h.step (startPurge_replies s k m a) fun ⟨b, p, hs, hp, ho⟩ => by
    by_cases hn : b.changeNames k = true
    · obtain ⟨r, hr, htag, hstatus⟩ := droppedReply_mem hs hp ho hn
      exact .inr ⟨r, hr, htag, .inr hstatus⟩
    · refine .inl ⟨(b.unnamed k).unbound k, p, by rw [startPurge_bands_get, hs]; rfl, ?_, ho⟩
      rw [unnamed_unbound_eq]
      exact (if_neg hn).trans hp
  zeroGrace _ _ _ _ _ h := h

theorem latch_owingOrAnswered {s : State} {src : TripSource} (hl : s.latched.has src = false) {i : BandId} {tag : Byte}
    (h : s.owing i tag) : (s.latch src).owingOrAnswered s.replies i tag := by
  have hacted := actedOn_induct (P := State.owingOrAnswered s.replies i tag) (s := s) (src := src)
    ⟨.refl s, .inl h⟩ fun j t _ ht => (owingOrAnswered_acts s.replies i tag).bandAction (i := j)
      (fun _ h => h.lockBand j) (fun _ kind id h => h.endAs kind id _) t src ht
  have hsettled : (s.actedOn src).applyIdleChanges.owingOrAnswered s.replies i tag :=
    inOrder_induct (P := State.owingOrAnswered s.replies i tag) _ _ _ (fun j _ _ ht => ht.applyPending j) hacted
  rw [latch_eq_actedOn hl]
  exact hsettled.congr (report_replies _ _) (report_bands _ _)

/-! ### A change that names a purged slot -/

/-- A reply to a tag, ABANDONED. -/
def Reply.abandons (tag : Byte) (r : Reply) : Prop := r.tag = tag ∧ r.status = .abandoned

/-- A band waits to name a READY or POISONED slot, with a reply owed. -/
def State.awaiting (i : BandId) (k : SlotId) (tag : Byte) (s : State) : Prop :=
  ∃ b p, s.bands[i] = some b ∧ b.pending = some p ∧ p.owed = some tag ∧ b.changeNames k = true ∧ (s.slots[k]).isKeyed

/-- A band's staged change is gone, and its ABANDONED reply is behind the replies of a list. -/
def State.dropped (rs : List Reply) (i : BandId) (tag : Byte) (s : State) : Prop :=
  (∀ b, s.bands[i] = some b → b.pending = none) ∧ s.Answered rs (Reply.abandons tag)

/-- A band still waits to name a slot, or its change has been dropped. -/
def State.awaitingOrDropped (rs : List Reply) (i : BandId) (k : SlotId) (tag : Byte) (s : State) : Prop :=
  s.RepliesFrom rs ∧ (s.awaiting i k tag ∨ s.dropped rs i tag)

section Awaiting

variable {rs : List Reply} {i : BandId} {k : SlotId} {tag : Byte} {s t : State}

theorem State.dropped.map (h : s.dropped rs i tag) {new : List Reply} (hr : t.replies = s.replies ++ new) {f : Band → Band}
    (hb : t.bands[i] = (s.bands[i]).map f) (hf : ∀ b : Band, b.pending = none → (f b).pending = none) :
    t.dropped rs i tag := by
  obtain ⟨hnone, hans⟩ := h
  refine ⟨fun b' hb' => ?_, hans.append hr⟩
  rw [hb] at hb'
  obtain ⟨b, hs, rfl⟩ := Option.map_eq_some_iff.1 hb'
  exact hf b (hnone b hs)

/-- What changes neither what a staged change names nor what it owes. -/
theorem State.awaitingOrDropped.map (h : s.awaitingOrDropped rs i k tag) {new : List Reply}
    (hr : t.replies = s.replies ++ new) {f : Band → Band} (hb : t.bands[i] = (s.bands[i]).map f)
    (hk : (s.slots[k]).isKeyed → (t.slots[k]).isKeyed)
    (hf : ∀ b : Band, (f b).pending.bind (·.owed) = b.pending.bind (·.owed) ∧ (f b).changeNames k = b.changeNames k ∧
      (b.pending = none → (f b).pending = none)) : t.awaitingOrDropped rs i k tag := by
  obtain ⟨hfrom, ⟨b, p, hs, hp, ho, hn, hkeyed⟩ | hdropped⟩ := h
  · obtain ⟨howed, hnames, _⟩ := hf b
    rw [hp, Option.bind_some, ho] at howed
    obtain ⟨p', hp', ho'⟩ := Option.bind_eq_some_iff.1 howed
    exact ⟨hfrom.append hr, .inl ⟨f b, p', by rw [hb, hs]; rfl, hp', ho', hnames.trans hn, hk hkeyed⟩⟩
  · exact ⟨hfrom.append hr, .inr (hdropped.map hr hb fun x => (hf x).2.2)⟩

theorem State.awaitingOrDropped.endAs (h : s.awaitingOrDropped rs i k tag) (kind : EndKind) (id : CtxId)
    (status : TransferStatus) : (s.endAs kind id status).awaitingOrDropped rs i k tag := by
  have hreplies := (endAs_onlyEnds s kind id status).same.2.1
  cases hc : s.contexts[id] with
  | none =>
    rw [endAs_of_free hc]
    exact h
  | some c =>
    refine h.map (hreplies.trans (List.append_nil _).symm) (endAs_bands_get hc kind status i)
      (endAs_isKeyed s kind id status k).2 fun b => ?_
    split
    · exact ⟨rfl, rfl, fun hp => hp⟩
    · exact ⟨rfl, rfl, fun hp => hp⟩

theorem locked_changeNames (b : Band) (k : SlotId) : b.locked.changeNames k = b.changeNames k := by
  unfold Band.changeNames Band.locked
  cases b.pending with
  | none => rfl
  | some p =>
    obtain ⟨change, owed⟩ := p
    cases change with
    | migrateStart => rfl
    | bandSet new => cases new <;> rfl

theorem State.awaitingOrDropped.lockBand (h : s.awaitingOrDropped rs i k tag) (j : BandId) :
    (s.lockBand j).awaitingOrDropped rs i k tag := by
  by_cases hij : j = i
  · subst hij
    refine h.map (new := []) (List.append_nil _).symm (setBand_get_self s j _) (fun hk => hk) fun b =>
      ⟨locked_owed b, locked_changeNames b k, fun hp => ?_⟩
    unfold Band.locked
    rw [hp]
    rfl
  · have hsame : (s.lockBand j).bands[i] = s.bands[i] := setBand_get_ne s _ hij
    exact h.map (new := []) (f := id) (List.append_nil _).symm (hsame.trans (Option.map_id_apply).symm) (fun hk => hk)
      fun b => ⟨rfl, rfl, fun hp => hp⟩

/-- The purge of another slot leaves what a staged change names. -/
theorem unnamed_unbound_changeNames {b : Band} {j : SlotId} (hj : b.changeNames j = false) (hk : b.changeNames k = true) :
    ((b.unnamed j).unbound j).changeNames k = true := by
  have hjk : k ≠ j := fun he => Bool.false_ne_true (hj.symm.trans (he ▸ hk))
  have hbound := unnamed_unbound_boundTo (b := b) hjk
  have hpending : ((b.unnamed j).unbound j).pending = b.pending := by
    rw [unnamed_unbound_eq]
    exact if_neg (Bool.eq_false_iff.1 hj)
  unfold Band.changeNames at hk ⊢
  rw [hpending, hbound]
  exact hk

theorem awaitingOrDropped_acts (rs : List Reply) (i : BandId) (k : SlotId) (tag : Byte) :
    Acts (State.awaitingOrDropped rs i k tag) where
  choices _ _ h := h
  cut _ id h := h.endAs _ id _
  endPurge s j _ h := by
    obtain ⟨new, hnew⟩ := endPurge_appends s j
    exact h.map hnew (f := id) (by rw [endPurge_bands]; exact (Option.map_id_apply).symm) (endPurge_isKeyed s j k).2
      fun b => ⟨rfl, rfl, fun hp => hp⟩
  startPurge s j m a _ _ h := by
    have hreplies := startPurge_replies s j m a
    have hbands := startPurge_bands_get s j m a i
    have hunstaged : ∀ b : Band, b.pending = none → ((b.unnamed j).unbound j).pending = none := fun b hp => by
      rw [unnamed_unbound_eq]
      exact ite_eq_left_iff.2 fun _ => hp
    obtain ⟨hfrom, ⟨b, p, hs, hp, ho, hn, hkeyed⟩ | hdropped⟩ := h
    · refine ⟨hfrom.append hreplies, ?_⟩
      rw [hs, Option.map_some] at hbands
      by_cases hj : b.changeNames j = true
      · obtain ⟨r, hr, habandons⟩ := droppedReply_mem hs hp ho hj
        refine .inr ⟨fun b' hb' => ?_, hfrom.answered hreplies hr habandons⟩
        rw [hbands] at hb'
        cases hb'
        rw [unnamed_unbound_eq]
        exact if_pos hj
      · have hj : b.changeNames j = false := Bool.eq_false_iff.2 hj
        have hjk : k ≠ j := fun he => Bool.false_ne_true (hj.symm.trans (he ▸ hn))
        refine .inl ⟨_, p, hbands, ?_, ho, unnamed_unbound_changeNames hj hn,
          (startPurge_isKeyed s j k m a).2 ⟨hjk, hkeyed⟩⟩
        rw [unnamed_unbound_eq]
        exact (if_neg (Bool.eq_false_iff.1 hj)).trans hp
    · exact ⟨hfrom.append hreplies, .inr (hdropped.map hreplies hbands hunstaged)⟩
  zeroGrace s j m a hs h := h.map (t := s.graceless j m a) (new := []) (f := id) (List.append_nil _).symm
    (Option.map_id_apply).symm (graceless_isKeyed hs k).2 fun b => ⟨rfl, rfl, fun hp => hp⟩

/-- A staged change that names a slot which the latching erases is dropped with ABANDONED (R66, R98). -/
theorem latch_drops {src : TripSource} (hl : s.latched.has src = false) {b : Band} {p : Pending} (hs : s.bands[i] = some b)
    (hp : b.pending = some p) (ho : p.owed = some tag) (hn : b.changeNames k = true) (hk : (s.slots[k]).isKeyed)
    (he : ((s.latch src).slots[k]).isEmpty = true) : (s.latch src).dropped s.replies i tag := by
  obtain ⟨_, hawaiting | hdropped⟩ := actedOn_induct (P := State.awaitingOrDropped s.replies i k tag) (s := s) (src := src)
    ⟨.refl s, .inl ⟨b, p, hs, hp, ho, hn, hk⟩⟩ fun j t _ ht => (awaitingOrDropped_acts s.replies i k tag).bandAction (i := j)
      (fun _ h => h.lockBand j) (fun _ kind id h => h.endAs kind id _) t src ht
  · obtain ⟨_, _, _, _, _, _, hkeyed⟩ := hawaiting
    rw [latch_slots hl] at he
    exact absurd hkeyed (not_isKeyed_of_empty ((isEmpty_iff _).1 he))
  · obtain ⟨hnone, hans⟩ := hdropped
    obtain ⟨ok, hok, _⟩ := inOrder_applyPending_replies allBands (List.nodup_finRange 32) (s.actedOn src)
    have hanswered : (s.latch src).Answered s.replies (Reply.abandons tag) := by
      rw [latch_eq_actedOn hl]
      exact State.Answered.congr (hans.append hok) (report_replies _ _)
    refine ⟨fun b' hb' => ?_, hanswered⟩
    rw [latch_eq_actedOn hl, report_bands] at hb'
    cases hx : (s.actedOn src).bands[i] with
    | none =>
      have hnone' : (s.actedOn src).applyIdleChanges.bands[i] = none := inOrder_applyPending_none allBands hx
      rw [hnone'] at hb'
      cases hb'
    | some x =>
      obtain ⟨y, hy, hmove⟩ := applyIdleChanges_mayMove hx (hnone x hx)
      rw [hy] at hb'
      cases hb'
      exact hmove.pending.trans (hnone x hx)

end Awaiting

end Sys2Proof.Machine

/-! PROOFS. The obligation of a latching (R129 to R133). -/

namespace Sys2Proof.Machine

/-- A latching as the actions of the bands in order, the staged changes, and the event (R129, R133). -/
theorem latch_steps {s : State} {src : TripSource} (h : s.latched.has src = false) :
    s.latch src = (((List.finRange 32).foldl (fun (u : State) (i : BandId) => match u.bands[i] with
      | none => u
      | some b =>
        if b.fields.tripMask.has src then
          match b.fields.action with
          | .none => u
          | .lock => { u with bands := u.bands.set i (some { b with
              fields := { b.fields with readLock := true, writeLock := true },
              pending := (match b.pending with
                | some ⟨.bandSet (some g), owed⟩ =>
                  some ⟨.bandSet (some { g with readLock := true, writeLock := true }), owed⟩
                | other => other) }) }
          | .cut => u.cutBand .cut i
          | .purge => u.purgeBand i
        else u) { s with latched := s.latched.insert src }).applyIdleChanges).report
      (.trip (.source src) (s.latched.insert src)) := by
  rw [latch_eq_actedOn h, State.actedOn, inOrder]
  congr 3
  funext u i
  cases hb : u.bands[i] with
  | none => exact bandAction_none hb src
  | some b =>
    rw [bandAction_of_band hb]
    refine if_congr Iff.rfl ?_ rfl
    cases b.fields.action with
    | lock =>
      exact (lockBand_of_band hb).trans (congrArg (fun x => { u with bands := u.bands.set i (some x) }) (locked_eq b))
    | _ => rfl

/-- Settles O44. -/
theorem latchingRunsTheActions : Obligations.LatchingRunsTheActions := by
  refine ⟨fun s src => ⟨latch_of_has s src, fun h => ?event⟩, fun s src h => latch_steps h, fun s kind i => ?cuts,
    fun s src reached h hreached => ?alone, inSlotSet_iff, fun s i k => purgeBand_latest,
    fun s src i b b' h hb hm ha hb' => ?locks, fun s src i b hb hp hun => ?fields,
    fun s src i b h hb hm ha id c hc hn => ?ends, fun s i k hk => ?set, fun s src i b k h hb hm ha hbound hk => ?purged,
    fun s src h => ?staged⟩
  case event =>
    obtain ⟨⟨_, _, _, _, hplock, hpfail, _⟩, hcontrol, hwraps, hlatched, _, hreservations⟩ := latch_frame h
    refine ⟨hlatched, latch_latest h, fun u hu => ?_, hplock, hpfail, hcontrol, hwraps, hreservations⟩
    subst hu
    exact latch_sameClass h
  case cuts =>
    obtain ⟨hfront, hback⟩ := cutBand_queues s kind i
    refine ⟨hfront.trans (congrArg (s.frontQueue ++ ·) ?_), hback.trans (congrArg (s.backQueue ++ ·) ?_),
      cutBand_contexts s kind i⟩
    · have hdone : s.doneFor .tripped = fun id => (s.contexts[id]).bind fun c =>
          some (.done id .tripped c.sectorsDone (s.linkTime - c.openTime)) :=
        funext fun id => by rw [State.doneFor, Option.map_eq_bind]; rfl
      rw [hdone]
      exact filterMap_openWith s _ _
    · refine (filterMap_openWith s (fun c => c.names i) fun id c =>
        if c.dir = .write then some (BackEntry.ended id .tripped c.sectorsDone) else none).trans
        (List.filterMap_congr fun id _ => congrArg (s.contexts[id]).bind (funext fun c => ?_))
      cases c.names i <;> simp
  case alone =>
    obtain rfl : reached = s.reached src := funext fun i => funext fun action => propext (hreached i action)
    refine ⟨fun id c hc hbands hslots => ?_, fun k hp hset => ?_, fun i id c hr hfirst hc hn => ?_⟩
    · rw [latch_contexts h]
      refine actedOn_open hc hbands fun i k hr hk => ?_
      obtain ⟨hholds, hfails⟩ := hslots i k hr hk
      refine ⟨hholds, fun j b hb hf => ?_⟩
      rw [Band.failsWith, Bool.and_eq_true, Bool.or_eq_true] at hf
      obtain ⟨hmigration, hu⟩ := hf
      exact hfails j b hb hmigration hu.symm
    · rw [latch_slots h]
      exact actedOn_slots_idle hp hset
    · obtain ⟨hfront, _, hback, _⟩ := queues_of_transfers (latch_transfers h)
      rw [hfront, hback]
      exact actedOn_tripped hr hfirst hc hn
  case locks => exact latch_lockedAt h ⟨b, hb, hm, rfl⟩ ha b' hb'
  case fields =>
    obtain ⟨b', hb', hfields, _⟩ := latch_keepsFields s src hb hp hun
    exact ⟨b', hb', hfields⟩
  case ends =>
    have hr : s.reached src i .cut ∨ s.reached src i .purge := ha.imp (fun ha => ⟨b, hb, hm, ha⟩) fun ha => ⟨b, hb, hm, ha⟩
    have hclosed := actedOn_cut hr hc hn
    obtain ⟨status, hstatus, hdone, hend⟩ := (actedOn_endsAs s src).queued id c hc hclosed
    obtain ⟨hfront, _, hback, _⟩ := queues_of_transfers (latch_transfers h)
    rw [latch_contexts h, hfront, hback]
    exact ⟨hclosed, status, hdone, hend, hstatus⟩
  case set =>
    have hk := (inSlotSet_iff s i k).2 hk
    refine ⟨purgeBand_slots hk, fun m a tag hcounts hs ho => ?_⟩
    obtain ⟨new, hnew, r, hr, rfl⟩ := purgeBand_owed hk hcounts hs ho
    exact ⟨new, hnew, hr⟩
  case purged =>
    obtain ⟨hempty, hunused⟩ := actedOn_purged (src := src) ⟨b, hb, hm, ha⟩ ⟨b, hb, hbound⟩ hk
    rw [latch_slots h]
    refine ⟨hempty, unused_iff.1 fun hu => hunused ?_⟩
    rw [latch_eq_actedOn h] at hu
    exact applyIdleChanges_uses (uses_of_bands (report_bands _ _) hu)
  case staged =>
    refine ⟨fun j b' hb' hcount => ?_, ?_⟩
    · rw [latch_eq_actedOn h, report_bands] at hb'
      exact (inOrder_applyPending_applied allBands (s.actedOn src) j (.inr (List.mem_finRange j))).pending_eq_none hb' hcount
    · obtain ⟨new, hnew⟩ := (repliesFrom_kept s.replies).latch s src (.refl s)
      refine ⟨new, hnew, fun i b p tag hb hp ho => ⟨?_, fun k hn hk he => ?_⟩⟩
      · obtain ⟨_, howing | ⟨new', hnew', r, hr, hsettles⟩⟩ := latch_owingOrAnswered h ⟨b, p, hb, hp, ho⟩
        · obtain ⟨b', p', hb', hrest⟩ := howing
          exact .inl ⟨b', p', hb', hrest⟩
        · obtain rfl : new = new' := List.append_cancel_left (hnew.symm.trans hnew')
          obtain ⟨htag, hstatus⟩ := hsettles
          exact .inr ⟨r, hr, htag, hstatus⟩
      · obtain ⟨_, new', hnew', r, hr, htag, hstatus⟩ := latch_drops h hb hp ho hn hk he
        obtain rfl : new = new' := List.append_cancel_left (hnew.symm.trans hnew')
        exact ⟨r, hr, htag, hstatus⟩

end Sys2Proof.Machine

/-! PROOFS. The cuts of a failed parity check (R86, R87): the contexts, queues, bands and slots behind them. -/

namespace Sys2Proof.Machine

/-! ### The cuts -/

section Cuts

variable (s : State) (k : SlotId)

/-- The slot of a failed check POISONED, or PURGING as it was (R86). -/
def State.poisoned (s : State) (k : SlotId) : State := s.setSlot k { s.slots[k] with state := (s.slots[k]).state.poison }

theorem poisonAndCut_eq : s.poisonAndCut k =
    inAnyOrder (fun id t => State.endAs t .cut id .keyFault) (s.holdersOf k) (s.poisoned k) := rfl

theorem poisonAndCut_contexts (id : CtxId) : (s.poisonAndCut k).contexts[id] =
    if (s.contexts[id]).any (fun c => c.holds k) then none else s.contexts[id] := by
  rw [poisonAndCut_eq, inAnyOrder_endAs_contexts]
  refine if_congr (mem_openWith.trans ?_) rfl rfl
  cases s.contexts[id] <;> simp

theorem poisonAndCut_ended : (s.poisoned k).Ended .cut (s.poisonAndCut k) :=
  (State.Ended.refl .cut (s.poisoned k)).endEachFree (s.holdersOf k) .keyFault

theorem poisonAndCut_onlyEnds : (s.poisoned k).OnlyEnds (s.poisonAndCut k) :=
  endEachFree_onlyEnds (s.poisoned k) .cut (s.holdersOf k) .keyFault

theorem poisonAndCut_endPlaced : (s.poisoned k).EndPlaced (s.poisonAndCut k) :=
  endEachFree_endPlaced (s.poisoned k) .cut (s.holdersOf k) .keyFault

/-- The contexts that the check has ended are the slot's holders. -/
theorem poisonAndCut_endedWith (p : Context → Bool) : s.endedWith (s.poisonAndCut k) p =
    allContexts.countP fun id => (s.contexts[id]).any fun c => c.holds k && p c := by
  refine List.countP_congr fun id _ => ?_
  rw [poisonAndCut_contexts]
  cases s.contexts[id] with
  | none => exact Iff.rfl
  | some c => cases hh : c.holds k <;> simp [hh]

/-- The end frames of the holders, in an order left open (log 6). -/
theorem poisonAndCut_queues : ∃ ids : List CtxId, ids.Perm (s.holdersOf k) ∧
    (s.poisonAndCut k).frontQueue = s.frontQueue ++ ids.filterMap (s.doneFor .keyFault) ∧
    (s.poisonAndCut k).backQueue = s.backQueue ++ ids.filterMap (s.endFor .keyFault) := by
  obtain ⟨ids, n, hperm, heq⟩ := inAnyOrder_perm (fun id t => State.endAs t .cut id .keyFault) (s.holdersOf k) (s.poisoned k)
  have hn : ids.Nodup := hperm.nodup_iff.2 (openWith_nodup s _)
  rw [poisonAndCut_eq, heq]
  exact ⟨ids, hperm, endEach_queues .cut .keyFault hn { s.poisoned k with choices := n }⟩

theorem poisonAndCut_bands (i : BandId) : (s.poisonAndCut k).bands[i] = (s.bands[i]).map fun b => { b with
    openCount := b.openCount - allContexts.countP fun id => (s.contexts[id]).any fun c => c.holds k && c.names i
    writer := if b.writer.any (fun id => (s.contexts[id]).any fun c => c.holds k && c.names i) then none else b.writer } := by
  rw [(poisonAndCut_ended s k).bands i]
  refine congrArg (fun f => Option.map f s.bands[i]) (funext fun b => ?_)
  have hwriter : ∀ id : CtxId, ((s.contexts[id]).any (fun c => c.names i) && ((s.poisonAndCut k).contexts[id]).isNone) =
      (s.contexts[id]).any fun c => c.holds k && c.names i := fun id => by
    rw [poisonAndCut_contexts]
    cases s.contexts[id] with
    | none => rfl
    | some c => cases hh : c.holds k <;> simp [hh]
  rw [← poisonAndCut_endedWith s k fun c => c.names i]
  show s.withoutEnded (s.poisonAndCut k) i b = _
  rw [State.withoutEnded]
  simp only [hwriter]

/-- A slot after a failed check of one slot: a READY slot is POISONED where it is that one, and a PURGING slot has the
ended holders entered as cut (R86, R94). -/
theorem poisonAndCut_slots (x : SlotId) {ended : Nat}
    (he : ended = allContexts.countP fun id => (s.contexts[id]).any fun c => c.holds k && c.holds x) :
    (s.poisonAndCut k).slots[x] = {
      generation := (s.slots[x]).generation, holders := (s.slots[x]).holders - ended
      state := match (s.slots[x]).state with
        | .ready m => if x = k then .poisoned m else .ready m
        | .purging m a => .purging m { a with cut := a.cut + ended }
        | other => other } := by
  have hcount : (s.poisoned k).endedWith (s.poisonAndCut k) (fun c => c.holds x) = ended :=
    (poisonAndCut_endedWith s k _).trans he.symm
  rw [(poisonAndCut_ended s k).slots x, hcount]
  by_cases hx : k = x
  · subst hx
    rw [State.poisoned, setSlot_get_self]
    unfold KeySlot.after
    cases (s.slots[k]).state with
    | ready m => simp [SlotState.poison, SlotState.entered]
    | _ => rfl
  · rw [State.poisoned, setSlot_get_ne s _ hx]
    unfold KeySlot.after
    cases (s.slots[x]).state with
    | ready m => simp [SlotState.entered, Ne.symm hx]
    | _ => rfl

theorem poisonAndCut_restored : { s.poisonAndCut k with
    contexts := s.contexts, slots := s.slots, bands := s.bands, frontQueue := s.frontQueue,
    backQueue := s.backQueue, donePlaces := s.donePlaces, endPlaces := s.endPlaces,
    choices := s.choices } = s := by
  obtain ⟨_, _, _, _, _, _, _, _, heq⟩ := poisonAndCut_onlyEnds s k
  rw [heq]
  rfl

end Cuts

end Sys2Proof.Machine

/-! PROOFS. What stands between the cuts of a failed parity check and its latching (R41, R65, R87): the staged changes
that apply, the purges that drain, and the changes kept back for the latching to drop (R66). -/

namespace Sys2Proof.Machine

/-! ### Commands for the steps -/

/-- The staged changes applied by their commands, but for those that wait. -/
def State.appliedBut (s : State) (waits : BandId → Bool) : State :=
  inOrder (fun i y => if waits i then y else y.afterCommand (.pendingChangeApply i)) allBands s

theorem afterCommand_pendingChangeApply {s : State} (h : s.NoHeads) (i : BandId) :
    s.afterCommand (.pendingChangeApply i) = s.applyPending i := by
  obtain ⟨hf, hb⟩ := h
  rw [State.afterCommand, exec_pendingChangeApply hf hb]

theorem noHeads_of_outside {s t : State} (h : t.outside = s.outside) (hs : s.NoHeads) : t.NoHeads :=
  ⟨(congrArg State.frontHead h :).trans hs.1, (congrArg State.backHead h :).trans hs.2⟩

theorem appliedBut_eq {s : State} (h : s.NoHeads) (waits : BandId → Bool) :
    s.appliedBut waits = inOrder (fun i t => if waits i then t else t.applyPending i) allBands s := by
  unfold State.appliedBut
  generalize allBands = is
  induction is generalizing s with
  | nil => rfl
  | cons i is ih =>
    rw [inOrder_cons, inOrder_cons, afterCommand_pendingChangeApply h]
    refine ih ?_
    split
    · exact h
    · exact noHeads_of_outside (applyPending_outside s i) h

theorem aheadOf_eq {s : State} (h : s.NoHeads) (kept : List BandId) :
    s.aheadOf kept = (s.appliedBut fun i => kept.contains i).drainIdle none := by
  rw [appliedBut_eq h]
  rfl

theorem appliedBut_induct {P : State → Prop} {s : State} (h : s.NoHeads) (waits : BandId → Bool)
    (happly : ∀ i t, waits i = false → P t → P (t.applyPending i)) (hs : P s) : P (s.appliedBut waits) := by
  rw [appliedBut_eq h]
  refine inOrder_induct _ _ _ (fun i _ t ht => ?_) hs
  split
  · exact ht
  · rename_i hw
    exact happly i t (Bool.eq_false_iff.2 hw) ht

/-- The drains in some order, each by its command (R101, log 6). -/
theorem drainIdle_commands (s : State) : ∃ drains n, drains.Perm (s.drainable none) ∧
    s.drainIdle none = inOrder (fun x y => y.afterCommand (.purgeDrain x)) drains { s with choices := n } := by
  obtain ⟨drains, n, hperm, heq⟩ := inAnyOrder_perm (fun k t => State.endPurge t k) (s.drainable none) s
  refine ⟨drains, n, hperm, heq.trans ?_⟩
  have hnodup : drains.Nodup := hperm.nodup_iff.2 ((List.nodup_finRange 32).filter _)
  have hdrained : ∀ x ∈ drains, (s.slots[x]).isPurging = true ∧ (s.slots[x]).holders = 0 := fun x hx => by
    obtain ⟨hp, h0, _⟩ := mem_drainable.1 (hperm.mem_iff.1 hx)
    exact ⟨hp, h0⟩
  have hrun : ∀ (xs : List SlotId) (t : State), xs.Nodup → (∀ x ∈ xs, (t.slots[x]).isPurging = true ∧ (t.slots[x]).holders = 0) →
      inOrder (fun k t => State.endPurge t k) xs t = inOrder (fun x y => y.afterCommand (.purgeDrain x)) xs t := by
    intro xs
    induction xs with
    | nil => exact fun _ _ _ => rfl
    | cons x xs ih =>
      intro t hn ht
      obtain ⟨hx, hn⟩ := List.nodup_cons.1 hn
      obtain ⟨hp, h0⟩ := ht x List.mem_cons_self
      have hstep : t.afterCommand (.purgeDrain x) = t.endPurge x := drainSlot_of_drained hp h0
      rw [inOrder_cons, inOrder_cons, hstep]
      refine ih _ hn fun y hy => ?_
      rw [endPurge_slots_ne t (show y ≠ x from fun he => hx (he ▸ hy))]
      exact ht y (List.mem_cons_of_mem x hy)
  exact hrun drains _ hnodup hdrained

/-! ### What a latching of KEYFAULT would drop -/

theorem latchPurges_iff (s : State) (src : TripSource) (k : SlotId) : s.latchPurges src k = true ↔
    ((s.slots[k]).isReady = true ∨ (s.slots[k]).isPoisoned = true) ∧ ((s.latch src).slots[k]).isEmpty = true := by
  rw [State.latchPurges, Bool.and_eq_true, Bool.or_eq_true]

theorem changePurged_iff (s t : State) (src : TripSource) (i : BandId) : s.changePurged t src i = true ↔
    ∃ (b : Band) (x : SlotId), s.bands[i] = some b ∧ b.changeNames x = true ∧ t.latchPurges src x = true := by
  unfold State.changePurged
  cases s.bands[i] with
  | none => simp
  | some b => simp

theorem changeFree_iff (s : State) (i : BandId) : s.changeFree i = true ↔
    ∃ b, s.bands[i] = some b ∧ b.openCount = 0 ∧ b.pending.isSome = true := by
  unfold State.changeFree
  cases s.bands[i] with
  | none => simp
  | some b => simp [and_comm]

/-- One more change than those kept back cannot be: with it kept back too, the latching would leave one of them
undropped (log 32). -/
theorem keptBack_maximal_spec (s : State) (src : TripSource) {i : BandId} {b : Band} {x : SlotId}
    (hout : i ∉ s.keptBack src) (hfree : s.changeFree i = true) (hb : s.bands[i] = some b)
    (hn : b.changeNames x = true) (hpurged : (s.aheadOf (s.keptBack src)).latchPurges src x = true) :
    ∃ j ∈ i :: s.keptBack src,
      (s.aheadOf (i :: s.keptBack src)).changePurged (s.aheadOf (i :: s.keptBack src)) src j = false := by
  have hmax := keptBack_maximal s src i
  have hchange : s.changePurged (s.aheadOf (s.keptBack src)) src i = true :=
    (changePurged_iff _ _ _ _).2 ⟨b, x, hb, hn, hpurged⟩
  rw [State.mayKeepBack, hfree, hchange] at hmax
  have hnot : (s.keptBack src).contains i = false := by simpa using hout
  rw [hnot, Bool.not_false, Bool.true_and, Bool.true_and, Bool.true_and] at hmax
  obtain ⟨j, hj, hundropped⟩ := List.all_eq_false.1 hmax
  exact ⟨j, hj, Bool.eq_false_iff.2 hundropped⟩

end Sys2Proof.Machine

/-! PROOFS. A sector start whose slot fails the parity check (R35, R86, R87): the fragment before it, and the latching. -/

namespace Sys2Proof.Machine

/-! ### The fragment before the failing sector start -/

section Fragment

variable {s : State} {id : CtxId} {c : Context} (hc : s.contexts[id] = some c) (bytes : List Byte)

theorem fragmentTaken_contexts (s : State) (id : CtxId) (c : Context) (j : CtxId) :
    (s.fragmentTaken id c bytes).contexts[j] = if j = id then some (s.takeBytes bytes c).ctx else s.contexts[j] := by
  split
  · rename_i hj
    subst hj
    exact fragmentTaken_contexts_self s j c bytes
  · rename_i hj
    exact fragmentTaken_contexts_ne s c bytes (Ne.symm hj)

theorem fragmentTaken_rest (s : State) (id : CtxId) (c : Context) : (s.fragmentTaken id c bytes).slots = s.slots ∧
    (s.fragmentTaken id c bytes).bands = s.bands ∧ (s.fragmentTaken id c bytes).donePlaces = s.donePlaces ∧
    (s.fragmentTaken id c bytes).endPlaces = s.endPlaces ∧ (s.fragmentTaken id c bytes).outside = s.outside ∧
    s.SameNotices (s.fragmentTaken id c bytes) := by
  rw [fragmentTaken_eq]
  exact ⟨rfl, rfl, rfl, rfl, rfl, rfl, rfl⟩

theorem fragmentTaken_queues (s : State) (id : CtxId) (c : Context) :
    (s.fragmentTaken id c bytes).frontQueue = s.frontQueue ++
      (if c.dir = .read ∧ (s.takeBytes bytes c).released ≠ [] then [.data id (s.takeBytes bytes c).released] else []) ∧
    (s.fragmentTaken id c bytes).backQueue = s.backQueue ++
      (if c.dir = .write ∧ (s.takeBytes bytes c).released ≠ [] then [.data id (s.takeBytes bytes c).released] else []) := by
  rw [fragmentTaken_eq]
  dsimp only
  constructor
  · split
    · rfl
    · exact (List.append_nil _).symm
  · split
    · rfl
    · exact (List.append_nil _).symm

include hc

/-- What a fragment does not change of its record, all contexts have as before. -/
theorem fragmentTaken_any {p : Context → Bool} (hp : p (s.takeBytes bytes c).ctx = p c) (j : CtxId) :
    ((s.fragmentTaken id c bytes).contexts[j]).any p = (s.contexts[j]).any p := by
  rw [fragmentTaken_contexts]
  split
  · rename_i hj
    subst hj
    rw [hc]
    exact hp
  · rfl

/-- The whole sectors of a context behind the fragment. -/
def State.doneAt (s : State) (id : CtxId) (bytes : List Byte) (c : Context) (j : CtxId) (x : Context) : Nat :=
  if j = id then (s.takeBytes bytes c).ctx.sectorsDone else x.sectorsDone

theorem fragmentTaken_bind {β : Type} (f : Context → Nat → Option β)
    (hf : ∀ n, f (s.takeBytes bytes c).ctx n = f c n) (j : CtxId) :
    ((s.fragmentTaken id c bytes).contexts[j]).bind (fun x => f x x.sectorsDone) =
      (s.contexts[j]).bind fun x => f x (s.doneAt id bytes c j x) := by
  rw [fragmentTaken_contexts]
  unfold State.doneAt
  split
  · rename_i hj
    subst hj
    rw [hc, Option.bind_some, Option.bind_some, hf]
  · rfl

/-- The end frames of the holders behind the fragment, in an order left open. -/
theorem fragmentCut_queues (k : SlotId) : ∃ (dones : List FrontEntry) (ends : List BackEntry),
    ((s.fragmentTaken id c bytes).poisonAndCut k).frontQueue = (s.fragmentTaken id c bytes).frontQueue ++ dones ∧
    ((s.fragmentTaken id c bytes).poisonAndCut k).backQueue = (s.fragmentTaken id c bytes).backQueue ++ ends ∧
    dones.Perm (allContexts.filterMap fun j : CtxId => (s.contexts[j]).bind fun x =>
      if x.holds k then some (.done j .keyFault (s.doneAt id bytes c j x) (s.linkTime - x.openTime)) else none) ∧
    ends.Perm (allContexts.filterMap fun j : CtxId => (s.contexts[j]).bind fun x =>
      if x.holds k ∧ x.dir = .write then some (.ended j .keyFault (s.doneAt id bytes c j x)) else none) := by
  obtain ⟨ids, hperm, hfront, hback⟩ := poisonAndCut_queues (s.fragmentTaken id c bytes) k
  have hholds := takeBytes_holds s bytes c k
  obtain ⟨hdir, _, _, _, _, htime⟩ := takeBytes_same s bytes c
  have hlink : (s.fragmentTaken id c bytes).linkTime = s.linkTime :=
    linkTime_of_outside (fragmentTaken_rest bytes s id c).2.2.2.2.1
  refine ⟨_, _, hfront, hback, (hperm.filterMap _).trans (List.Perm.of_eq ?_),
    (hperm.filterMap _).trans (List.Perm.of_eq ?_)⟩
  · have hdone : (s.fragmentTaken id c bytes).doneFor .keyFault = fun j => ((s.fragmentTaken id c bytes).contexts[j]).bind
        fun x => some (.done j .keyFault x.sectorsDone (s.linkTime - x.openTime)) :=
      funext fun j => by rw [State.doneFor, Option.map_eq_bind, hlink]; rfl
    rw [hdone]
    refine (filterMap_openWith (s.fragmentTaken id c bytes) (fun x => x.holds k) _).trans (List.filterMap_congr fun j _ => ?_)
    exact fragmentTaken_bind hc bytes (fun x n => if x.holds k then
      some (FrontEntry.done j .keyFault n (s.linkTime - x.openTime)) else none) (fun n => by rw [hholds, htime]) j
  · refine (filterMap_openWith (s.fragmentTaken id c bytes) (fun x => x.holds k) fun j x =>
      if x.dir = .write then some (BackEntry.ended j .keyFault x.sectorsDone) else none).trans
      (List.filterMap_congr fun j _ => ?_)
    refine Eq.trans ?_ (fragmentTaken_bind hc bytes (fun x n => if x.holds k ∧ x.dir = .write then
      some (BackEntry.ended j .keyFault n) else none) (fun n => by rw [hholds, hdir]) j)
    refine congrArg ((s.fragmentTaken id c bytes).contexts[j]).bind (funext fun x => ?_)
    cases x.holds k <;> simp

end Fragment

/-! ### Behind the cuts -/

/-- The part of the staged changes and the drains leaves records, queues and lines. -/
theorem ahead_frame {v : State} (h : v.NoHeads) (waits : BandId → Bool) :
    ((v.appliedBut waits).drainIdle none).transfers = v.transfers ∧
    ((v.appliedBut waits).drainIdle none).outside = v.outside ∧
    (v.appliedBut waits).slots = v.slots ∧ v.SameClass ((v.appliedBut waits).drainIdle none) .trip := by
  have happlied := appliedBut_induct (P := fun t => t.transfers = v.transfers ∧ t.outside = v.outside ∧ t.slots = v.slots ∧
    v.SameClass t .trip) h waits (fun i t _ ⟨ht, ho, hs, hc⟩ => ⟨(applyPending_transfers t i).trans ht,
      (applyPending_outside t i).trans ho, (applyPending_slots t i).trans hs,
      hc.trans (applyPending_sameClass (by decide) t i)⟩) ⟨rfl, rfl, rfl, .refl v _⟩
  obtain ⟨htransfers, hout, hslots, hclass⟩ := happlied
  exact ⟨(drainIdle_transfers _ none).trans htransfers, (drainIdle_outside _ none).trans hout, hslots,
    hclass.trans (drainIdle_sameClass (by decide) _ none)⟩

/-- A slot that is not PURGING is as it was behind the staged changes and the drains. -/
theorem ahead_slots_idle {v : State} (h : v.NoHeads) (waits : BandId → Bool) {x : SlotId}
    (hp : (v.slots[x]).isPurging = false) : ((v.appliedBut waits).drainIdle none).slots[x] = v.slots[x] := by
  obtain ⟨_, _, hslots, _⟩ := ahead_frame h waits
  have hx : (v.appliedBut waits).slots[x] = v.slots[x] := by rw [hslots]
  rw [drainIdle_slots_kept (.inl (by rw [hx]; exact hp)), hx]

/-- A change that waits is staged as before. -/
theorem ahead_waits {v : State} (h : v.NoHeads) {waits : BandId → Bool} {i : BandId} (hw : waits i = true) {b : Band}
    (hb : v.bands[i] = some b) : ∃ b', ((v.appliedBut waits).drainIdle none).bands[i] = some b' ∧ b'.pending = b.pending := by
  have happlied := appliedBut_induct (P := fun t => ∃ b', t.bands[i] = some b' ∧ b'.pending = b.pending) h waits
    (fun j t hj ⟨b', hb', hp⟩ => by
      have hji : j ≠ i := fun he => Bool.false_ne_true (hj.symm.trans (he ▸ hw))
      obtain ⟨b'', hb'', hmove⟩ := applyPending_mayMove_ne hji hb'
      exact ⟨b'', hb'', hmove.pending.trans hp⟩) ⟨b, hb, rfl⟩
  rw [drainIdle_bands]
  exact happlied

/-! ### Through the latching -/

theorem latch_keptOrEmpty {u : State} {k : SlotId} (hk : (u.slots[k]).isKeyed) (src : TripSource) :
    (u.latch src).keptOrEmpty k (u.slots[k]).state := by
  cases h : u.latched.has src with
  | true =>
    rw [latch_of_has u src h]
    exact .inl rfl
  | false =>
    have hacted := actedOn_induct (P := State.keptOrEmpty k (u.slots[k]).state) (s := u) (src := src) (.inl rfl)
      fun i t _ ht => bandAction_keptOrEmpty (fun v hv => (isKeyed_congr hv).2 hk) ht i
    unfold State.keptOrEmpty
    rw [latch_slots h]
    exact hacted

theorem latch_contexts_none {u : State} {id : CtxId} (h : u.contexts[id] = none) (src : TripSource) :
    (u.latch src).contexts[id] = none := by
  cases hl : u.latched.has src with
  | true =>
    rw [latch_of_has u src hl]
    exact h
  | false =>
    have hacted := actedOn_induct (P := fun t => t.contexts[id] = none) (s := u) (src := src) h
      fun i t _ ht => ((bandAction_shrinks t src i).contexts id).elim (fun hn => hn) fun hsame => hsame.trans ht
    rw [latch_contexts hl]
    exact hacted

/-- A slot without holders gains none by the blocks' work. -/
def holderlessAt (k j : SlotId) (v : KeySlot) : Prop := j = k → v.holders = 0

theorem holderlessAt_kept (k : SlotId) : SlotKept (holderlessAt k) where
  enter j v kind h hj := by
    dsimp only
    rw [h hj]
  erase _ _ _ _ _ := rfl
  abandon _ _ _ _ h := h
  start _ _ _ _ _ h := h
  zero _ _ _ _ _ h := h
  poison _ _ h := h

theorem latch_frame_outside (u : State) (src : TripSource) : u.SameLines (u.latch src) ∧ u.SameControl (u.latch src) ∧
    (u.latch src).wraps = u.wraps ∧ (u.latch src).discards = u.discards := by
  obtain ⟨hlines, hcontrol, hwraps, _, hdiscards, _⟩ := frame_of_outside (latch_outside_latched u src)
  exact ⟨hlines, hcontrol, hwraps, hdiscards⟩

end Sys2Proof.Machine

/-! PROOFS. The obligation of a failed parity check (R35, R86, R87). -/

namespace Sys2Proof.Machine

theorem backHead_of_holdLine {s : State} (h : s.holdLine .back = false) : s.backHead = none := by
  simp only [State.holdLine, Bool.or_eq_false_iff] at h
  obtain ⟨⟨hhead, _⟩, _⟩ := h
  simpa using hhead

theorem keyFault_eq (q : State) (k : SlotId) : q.keyFault k =
    (((q.poisonAndCut k).aheadOf ((q.poisonAndCut k).keptBack .keyfault)).latch .keyfault).report
      (.keyfault (.keySlot k) (q.slots[k]).holders) := rfl

theorem processFragment_of_keyFault {s : State} {id : CtxId} {c : Context} {bytes : List Byte} {k : SlotId}
    (h : (s.takeBytes bytes c).stop = .keyFault k) :
    s.processFragment id c bytes = (s.fragmentTaken id c bytes).keyFault k := by
  unfold State.processFragment
  dsimp only
  rw [h]
  rfl

theorem poisonAndCut_places (s : State) (k : SlotId) (j : CtxId) :
    (s.poisonAndCut k).donePlaces[j] = (if (s.contexts[j]).any fun x => x.holds k then .filled else s.donePlaces[j]) ∧
    (s.poisonAndCut k).endPlaces[j] =
      (if (s.contexts[j]).any (fun x => x.holds k && x.dir == .write) then .filled else s.endPlaces[j]) := by
  obtain ⟨hdone, hend⟩ := poisonAndCut_endPlaced s k j
  rw [hdone, hend, poisonAndCut_contexts]
  show (if (s.contexts[j]).isSome && _ then Place.filled else s.donePlaces[j]) = _ ∧
    (if (s.contexts[j]).any _ && _ then Place.filled else s.endPlaces[j]) = _
  cases s.contexts[j] with
  | none => exact ⟨rfl, rfl⟩
  | some x => cases hh : x.holds k <;> cases hw : x.dir <;> simp [hh, hw]

/-! ### The slot of the check -/

section Slot

variable {q u : State} {k : SlotId} {waits : BandId → Bool}

/-- A READY slot is POISONED behind the cuts, the staged changes and the drains. -/
theorem failedCheck_ready (hheads : (q.poisonAndCut k).NoHeads) (hr : (q.slots[k]).isReady = true) :
    ((((q.poisonAndCut k).appliedBut waits).drainIdle none).slots[k]).isPoisoned = true ∧
    ((((q.poisonAndCut k).appliedBut waits).drainIdle none).slots[k]).holders =
      (q.slots[k]).holders - allContexts.countP fun id => (q.contexts[id]).any fun c => c.holds k && c.holds k := by
  obtain ⟨m, hm⟩ : ∃ m, (q.slots[k]).state = .ready m := by
    unfold KeySlot.isReady at hr
    cases hs : (q.slots[k]).state with
    | ready m => exact ⟨m, rfl⟩
    | _ => rw [hs] at hr; cases hr
  have hslot := poisonAndCut_slots q k k rfl
  rw [hm] at hslot
  dsimp only at hslot
  rw [if_pos rfl] at hslot
  rw [ahead_slots_idle hheads waits (by rw [hslot]; rfl), hslot]
  exact ⟨rfl, rfl⟩

/-- Another slot that is not PURGING keeps its state. -/
theorem failedCheck_others (hheads : (q.poisonAndCut k).NoHeads) {x : SlotId} (hx : x ≠ k)
    (hp : (q.slots[x]).isPurging = false) :
    ((((q.poisonAndCut k).appliedBut waits).drainIdle none).slots[x]).state = (q.slots[x]).state ∧
    ((((q.poisonAndCut k).appliedBut waits).drainIdle none).slots[x]).generation = (q.slots[x]).generation := by
  have hslot : ((q.poisonAndCut k).slots[x]).state = (q.slots[x]).state ∧
      ((q.poisonAndCut k).slots[x]).generation = (q.slots[x]).generation := by
    rw [poisonAndCut_slots q k x rfl]
    unfold KeySlot.isPurging at hp
    cases hs : (q.slots[x]).state with
    | ready m => exact ⟨if_neg hx, rfl⟩
    | purging m a => rw [hs] at hp; cases hp
    | _ => exact ⟨rfl, rfl⟩
  rw [ahead_slots_idle hheads waits (by rw [KeySlot.isPurging, hslot.1]; exact hp)]
  exact hslot

/-- A running purge of the slot has drained: its holders are all cut (R101). -/
theorem failedCheck_purging (hheads : (q.poisonAndCut k).NoHeads) (hcounts : q.CountsOk) {m : Material} {a : Account}
    (hs : (q.slots[k]).state = .purging m a) :
    (((q.poisonAndCut k).appliedBut waits).drainIdle none).slots[k] = (q.slots[k]).erased ∧
    ∀ tag, a.owed = some tag → (((q.poisonAndCut k).appliedBut waits).drainIdle none).HasReply
      (purgeReply k { a with cut := a.cut + (q.slots[k]).holders } tag) := by
  have hholders : (allContexts.countP fun id => (q.contexts[id]).any fun c => c.holds k && c.holds k) = (q.slots[k]).holders := by
    rw [hcounts.2.2 k, State.holdersOf, openWith_length]
    refine List.countP_congr fun id _ => ?_
    simp only [Bool.and_self, openHas]
  have hslot := poisonAndCut_slots q k k hholders.symm
  rw [hs, Nat.sub_self] at hslot
  obtain ⟨_, _, hslots, _⟩ := ahead_frame hheads waits
  have hbefore : ((q.poisonAndCut k).appliedBut waits).slots[k] = (q.poisonAndCut k).slots[k] := by rw [hslots]
  rw [hslot] at hbefore
  obtain ⟨herased, hreply⟩ := drainIdle_ended (except := none) (show (((q.poisonAndCut k).appliedBut waits).slots[k]).isPurging = true by
    rw [hbefore]; rfl) (by rw [hbefore]) nofun
  refine ⟨?_, fun tag ht => hreply m { a with cut := a.cut + (q.slots[k]).holders } tag (by rw [hbefore]) ht⟩
  rw [herased, hbefore]
  rfl

end Slot

/-! ### The fragment and the cuts together -/

section FragmentCut

variable {s : State} {id : CtxId} {c : Context} (hc : s.contexts[id] = some c) (bytes : List Byte) (k : SlotId)

theorem fragmentCut_restored (s : State) (id : CtxId) (c : Context) : { (s.fragmentTaken id c bytes).poisonAndCut k with
    contexts := s.contexts, slots := s.slots, bands := s.bands, frontQueue := s.frontQueue,
    backQueue := s.backQueue, donePlaces := s.donePlaces, endPlaces := s.endPlaces,
    choices := s.choices } = s := by
  obtain ⟨_, _, _, _, _, _, _, _, heq⟩ := poisonAndCut_onlyEnds (s.fragmentTaken id c bytes) k
  rw [heq, fragmentTaken_eq]
  rfl

theorem fragmentCut_outside (s : State) (id : CtxId) (c : Context) :
    ((s.fragmentTaken id c bytes).poisonAndCut k).outside = s.outside := by
  obtain ⟨_, _, _, _, hout, _⟩ := fragmentTaken_rest bytes s id c
  exact (poisonAndCut_outside _ k).trans hout

theorem fragmentCut_sameNotices (s : State) (id : CtxId) (c : Context) :
    s.SameNotices ((s.fragmentTaken id c bytes).poisonAndCut k) := by
  obtain ⟨_, _, _, _, _, hnotices⟩ := fragmentTaken_rest bytes s id c
  exact (hnotices.trans ⟨rfl, rfl⟩).trans (poisonAndCut_onlyEnds _ k).same.1

include hc

theorem fragmentTaken_holds (p : Context → Bool) (hp : p (s.takeBytes bytes c).ctx = p c) (j : CtxId) :
    ((s.fragmentTaken id c bytes).contexts[j]).any (fun x => x.holds k && p x) =
      (s.contexts[j]).any fun x => x.holds k && p x :=
  fragmentTaken_any hc bytes (p := fun x => x.holds k && p x) (by rw [takeBytes_holds, hp]) j

theorem fragmentTaken_anyHolds (j : CtxId) :
    ((s.fragmentTaken id c bytes).contexts[j]).any (fun x => x.holds k) = (s.contexts[j]).any fun x => x.holds k :=
  fragmentTaken_any hc bytes (p := fun x => x.holds k) (takeBytes_holds s bytes c k) j

theorem fragmentCut_contexts (j : CtxId) : ((s.fragmentTaken id c bytes).poisonAndCut k).contexts[j] =
    if (s.contexts[j]).any fun x => x.holds k then none
    else if j = id then some (s.takeBytes bytes c).ctx else s.contexts[j] := by
  rw [poisonAndCut_contexts, fragmentTaken_anyHolds hc, fragmentTaken_contexts]

theorem fragmentCut_places (j : CtxId) :
    ((s.fragmentTaken id c bytes).poisonAndCut k).donePlaces[j] =
      (if (s.contexts[j]).any fun x => x.holds k then .filled else s.donePlaces[j]) ∧
    ((s.fragmentTaken id c bytes).poisonAndCut k).endPlaces[j] =
      (if (s.contexts[j]).any (fun x => x.holds k && x.dir == .write) then .filled else s.endPlaces[j]) := by
  obtain ⟨_, _, hqdone, hqend, _⟩ := fragmentTaken_rest bytes s id c
  obtain ⟨hdir, _⟩ := takeBytes_same s bytes c
  obtain ⟨hdone, hend⟩ := poisonAndCut_places (s.fragmentTaken id c bytes) k j
  rw [hdone, hend, fragmentTaken_anyHolds hc,
    fragmentTaken_holds hc bytes k (fun x => x.dir == .write) (by rw [hdir]), hqdone, hqend]
  exact ⟨rfl, rfl⟩

theorem fragmentCut_bands (i : BandId) : ((s.fragmentTaken id c bytes).poisonAndCut k).bands[i] =
    (s.bands[i]).map fun b => { b with
      openCount := b.openCount - allContexts.countP fun j => (s.contexts[j]).any fun x => x.holds k && x.names i
      writer := if b.writer.any (fun j => (s.contexts[j]).any fun x => x.holds k && x.names i) then none else b.writer } := by
  obtain ⟨_, hqbands, _⟩ := fragmentTaken_rest bytes s id c
  rw [poisonAndCut_bands, hqbands]
  simp only [fragmentTaken_holds hc bytes k (fun x => x.names i) (takeBytes_names s bytes c i)]

theorem fragmentCut_slots (x : SlotId) {ended : Nat}
    (he : ended = allContexts.countP fun j => (s.contexts[j]).any fun y => y.holds k && y.holds x) :
    ((s.fragmentTaken id c bytes).poisonAndCut k).slots[x] = {
      generation := (s.slots[x]).generation, holders := (s.slots[x]).holders - ended
      state := match (s.slots[x]).state with
        | .ready m => if x = k then .poisoned m else .ready m
        | .purging m a => .purging m { a with cut := a.cut + ended }
        | other => other } := by
  obtain ⟨hqslots, _⟩ := fragmentTaken_rest bytes s id c
  have hslot := poisonAndCut_slots (s.fragmentTaken id c bytes) k x (ended := ended) (he.trans (List.countP_congr fun j _ => by
    rw [fragmentTaken_holds hc bytes k (fun y => y.holds x) (takeBytes_holds s bytes c x)]))
  rw [hqslots] at hslot
  exact hslot

end FragmentCut

/-- The bands whose staged changes wait for the latching (log 32). -/
def State.keepsBack (s : State) (i : BandId) : Bool := (s.keptBack .keyfault).contains i

/-- The part as the latching finds it. -/
theorem keepsBack_eq {v : State} (h : v.NoHeads) : v.aheadOf (v.keptBack .keyfault) = (v.appliedBut v.keepsBack).drainIdle none :=
  aheadOf_eq h _

section KeepsBack

variable {v : State} (h : v.NoHeads)
include h

theorem keepsBack_sound {i : BandId} (hw : v.keepsBack i = true) : v.changeFree i = true ∧
    ∃ (b : Band) (x : SlotId), ((v.appliedBut v.keepsBack).drainIdle none).bands[i] = some b ∧ b.changeNames x = true ∧
      ((v.appliedBut v.keepsBack).drainIdle none).latchPurges .keyfault x = true := by
  obtain ⟨hfree, hpurged⟩ := keptBack_sound v .keyfault i (List.contains_iff_mem.1 hw)
  rw [keepsBack_eq h] at hpurged
  exact ⟨hfree, (changePurged_iff _ _ _ _).1 hpurged⟩

theorem keepsBack_maximal {i : BandId} {b : Band} {x : SlotId} {more : BandId → Bool} (hw : v.keepsBack i = false)
    (hfree : v.changeFree i = true) (hb : v.bands[i] = some b) (hn : b.changeNames x = true)
    (hpurged : ((v.appliedBut v.keepsBack).drainIdle none).latchPurges .keyfault x = true)
    (hmore : ∀ j, more j = (v.keepsBack j || j == i)) :
    ∃ j : BandId, more j = true ∧ ∀ (b' : Band) (x' : SlotId), ((v.appliedBut more).drainIdle none).bands[j] = some b' →
      b'.changeNames x' = true → ¬((v.appliedBut more).drainIdle none).latchPurges .keyfault x' = true := by
  have hmem : i ∉ v.keptBack .keyfault := fun hm => Bool.false_ne_true (hw.symm.trans (List.contains_iff_mem.2 hm))
  rw [← keepsBack_eq h] at hpurged
  obtain ⟨j, hj, hundropped⟩ := keptBack_maximal_spec v .keyfault hmem hfree hb hn hpurged
  have hmoreEq : more = fun j => (i :: v.keptBack .keyfault).contains j := funext fun j => by
    rw [hmore, List.contains_cons, Bool.or_comm]
    rfl
  rw [aheadOf_eq h, ← hmoreEq] at hundropped
  refine ⟨j, ?_, fun b' x' hb' hn' hp' => ?_⟩
  · rw [hmoreEq]
    exact List.contains_iff_mem.2 hj
  · exact Bool.false_ne_true (hundropped.symm.trans ((changePurged_iff _ _ _ _).2 ⟨b', x', hb', hn', hp'⟩))

/-- A change that waits is dropped by the latching, with its ABANDONED reply. -/
theorem keepsBack_dropped {i : BandId} {b : Band} {p : Pending} {tag : Byte} (hw : v.keepsBack i = true)
    (hb : v.bands[i] = some b) (hp : b.pending = some p) (ho : p.owed = some tag) :
    (((v.appliedBut v.keepsBack).drainIdle none).latch .keyfault).dropped
      ((v.appliedBut v.keepsBack).drainIdle none).replies i tag := by
  obtain ⟨_, x, k, hx, hn, hpurged⟩ := keepsBack_sound h hw
  obtain ⟨y, hy, hsame⟩ := ahead_waits h hw hb
  obtain rfl : x = y := Option.some.inj (hx.symm.trans hy)
  obtain ⟨hkeyed, hempty⟩ := (latchPurges_iff _ _ _).1 hpurged
  have hl : ((v.appliedBut v.keepsBack).drainIdle none).latched.has .keyfault = false := by
    by_contra hhas
    rw [latch_of_has _ _ (Bool.eq_true_of_not_eq_false hhas)] at hempty
    exact not_isKeyed_of_empty ((isEmpty_iff _).1 hempty) hkeyed
  exact latch_drops hl hx (hsame.trans hp) ho hn hkeyed hempty

end KeepsBack

theorem latchReport_outside (u : State) (src : TripSource) (d : Detail) :
    { (u.latch src).report d with latched := u.latched }.outside = u.outside :=
  (congrArg (fun x : State => { x with latched := u.latched }) (report_outside (u.latch src) d)).trans
    (latch_outside_latched u src)

/-- Settles O23. -/
theorem failedParityCutsTheHolders : Obligations.FailedParityCutsTheHolders := by
  rintro s lane ctx id bytes c _ k cut done hid hf hb hne hlen hc hd hp hbank rfl hstop hcut hdone
  obtain rfl : cut = fun j => (s.contexts[j]).any fun x => x.holds k := funext hcut
  obtain rfl : done = s.doneAt id bytes c := funext fun j => funext (hdone j)
  have hexec := exec_data_fragment hid hf hb hne hlen hc hd hp hbank
  obtain ⟨hqslots, _⟩ := fragmentTaken_rest bytes s id c
  obtain ⟨hqfront, hqback⟩ := fragmentTaken_queues bytes s id c
  obtain ⟨dones, ends, hvfront, hvback, hdones, hends⟩ := fragmentCut_queues hc bytes k
  have hvout := fragmentCut_outside bytes k s id c
  have hheads : ((s.fragmentTaken id c bytes).poisonAndCut k).NoHeads :=
    noHeads_of_outside hvout ⟨frontHead_of_holdLine hf, backHead_of_holdLine hb⟩
  have hready := failedCheck_ready (q := s.fragmentTaken id c bytes) (k := k)
    (waits := ((s.fragmentTaken id c bytes).poisonAndCut k).keepsBack) hheads
  have hothers := fun x => failedCheck_others (q := s.fragmentTaken id c bytes) (k := k)
    (waits := ((s.fragmentTaken id c bytes).poisonAndCut k).keepsBack) hheads (x := x)
  have hpurging := fun hcounts m a => failedCheck_purging (q := s.fragmentTaken id c bytes) (k := k)
    (waits := ((s.fragmentTaken id c bytes).poisonAndCut k).keepsBack) hheads (State.CountsOk.fragmentTaken hcounts bytes hc)
    (m := m) (a := a)
  have hvcontexts := fragmentCut_contexts hc bytes k
  have hvplaces := fragmentCut_places hc bytes k
  have hvbands := fragmentCut_bands hc bytes k
  have hvslots := fun x ended => fragmentCut_slots hc bytes k x (ended := ended)
  have hvrestored := fragmentCut_restored bytes k s id c
  have hvnotices := fragmentCut_sameNotices bytes k s id c
  rw [processFragment_of_keyFault hstop, keyFault_eq, keepsBack_eq hheads] at hexec
  rw [hqfront] at hvfront
  rw [hqback] at hvback
  rw [hqslots] at hready hothers hpurging hexec
  generalize (s.fragmentTaken id c bytes).poisonAndCut k = v at hexec hvfront hvback hvout hheads hready hothers hpurging hvcontexts hvplaces hvbands hvslots hvrestored hvnotices
  obtain ⟨htransfers, huout, _, htrip⟩ := ahead_frame hheads v.keepsBack
  obtain ⟨drains, n, hdrains, hcommands⟩ := drainIdle_commands (v.appliedBut v.keepsBack)
  have hsound := fun i => keepsBack_sound hheads (i := i)
  have hmaximal := fun i b x more => keepsBack_maximal hheads (i := i) (b := b) (x := x) (more := more)
  have hdropped := fun i b p tag => keepsBack_dropped hheads (i := i) (b := b) (p := p) (tag := tag)
  obtain ⟨hufront, _, huback, _⟩ := queues_of_transfers htransfers
  have hucontexts := contexts_of_transfers htransfers
  have hufromS := huout.trans hvout
  generalize hu : (v.appliedBut v.keepsBack).drainIdle none = u at *
  obtain ⟨⟨lateDones, hlateDones⟩, lateEnds, hlateEnds⟩ := (queuesFrom_kept u).latch u .keyfault (.refl u)
  obtain ⟨hlines, hcontrol, hwraps, hlatched, hdiscards, hreservations⟩ := frame_of_outside hufromS
  obtain ⟨hlinesAfter, hcontrolAfter, hwrapsAfter, _, hdiscardsAfter, _⟩ := frame_of_outside
    ((latchReport_outside u .keyfault (.keyfault (.keySlot k) (s.slots[k]).holders)).trans hufromS)
  refine ⟨_, u, v, v.appliedBut v.keepsBack, dones, lateDones, ends, lateEnds, v.keepsBack, drains, n, v.appliedBut,
    fun i => ∃ b, v.bands[i] = some b ∧ b.openCount = 0 ∧ b.pending.isSome = true,
    fun waits x => ((v.appliedBut waits).drainIdle none).latchPurges .keyfault x = true, hexec, hvcontexts, hvfront, hvback, hdones, hends, hvplaces,
    hvbands, hvslots, hvrestored, fun kept => rfl, fun kept x y hy => ?purges, fun i hw => ?sound,
    fun i b x more hw hfree hb hn hp hmore => ?maximal, fun i => Iff.rfl, fun hhas i => ?latched, rfl, hu.symm, ?drains,
    hcommands, hlatched, ?trip, hlines, hcontrol, hwraps, hdiscards, hreservations, hucontexts, hufront, huback,
    fun hr => ?ready, hothers, rfl, fun i b p tag hw hb hp ho => ?dropped, fun j hj => ?cuts, ?lateFront, ?lateBack,
    fun hr => ?readyAfter, fun m a hcounts hs => ?purgingAfter, ?keyfault, ?latest, hlinesAfter,
    hcontrolAfter, hwrapsAfter, hdiscardsAfter⟩
  case purges =>
    subst hy
    exact latchPurges_iff _ _ _
  case sound =>
    obtain ⟨hfree, b, x, hb, hn, hp⟩ := hsound i hw
    refine ⟨(changeFree_iff v i).1 hfree, b, x, hb, hn, ?_⟩
    dsimp only
    rw [hu]
    exact hp
  case maximal =>
    dsimp only at hp
    rw [hu] at hp
    exact hmaximal i b x more hw ((changeFree_iff v i).2 hfree) hb hn hp hmore
  case latched =>
    have hnil : v.keptBack .keyfault = [] := keptBack_of_latched v .keyfault (by rw [latched_of_outside hvout]; exact hhas)
    rw [State.keepsBack, hnil]
    rfl
  case drains =>
    refine hdrains.trans (List.Perm.of_eq (List.filter_congr fun x _ => ?_))
    exact Bool.and_true _
  case trip => exact ((hvnotices.sameClass .trip).trans htrip).1
  case ready =>
    obtain ⟨hpoisoned, hholders⟩ := hready hr
    refine ⟨hpoisoned, hholders.trans (congrArg ((s.slots[k]).holders - ·) (List.countP_congr fun j _ => ?_))⟩
    simp only [Bool.and_self, fragmentTaken_anyHolds hc]
  case dropped =>
    obtain ⟨hnone, new, hnew, r, hr, htag, hstatus⟩ := hdropped i b p tag hw hb hp ho
    refine ⟨fun b' hb' => hnone b' ?_, r, ?_, htag, hstatus⟩
    · rw [report_bands] at hb'
      exact hb'
    · rw [report_replies, hnew]
      exact List.mem_append_right _ hr
  case cuts =>
    rw [contexts_of_transfers (report_transfers _ _)]
    refine latch_contexts_none ?_ .keyfault
    rw [hucontexts, hvcontexts, if_pos hj]
  case lateFront => rw [(queues_of_transfers (report_transfers _ _)).1, hlateDones, hufront]
  case lateBack => rw [(queues_of_transfers (report_transfers _ _)).2.2.1, hlateEnds, huback]
  case readyAfter =>
    obtain ⟨hpoisoned, _⟩ := hready hr
    have hkept := latch_keptOrEmpty (u := u) (k := k) (.inr hpoisoned) .keyfault
    rw [report_slots]
    refine hkept.imp (fun hsame => ?_) fun hempty => (isEmpty_iff _).2 hempty
    unfold KeySlot.isPoisoned at hpoisoned ⊢
    rw [hsame]
    exact hpoisoned
  case purgingAfter =>
    obtain ⟨herased, hreply⟩ := hpurging hcounts m a hs
    have hempty := (slots_kept (emptyAt_kept k (s.slots[k]).generation)).latch u .keyfault (fun j hj => by
      subst hj
      rw [herased]
      exact ⟨rfl, rfl⟩) k rfl
    have hholders := (slots_kept (holderlessAt_kept k)).latch u .keyfault (fun j hj => by
      subst hj
      rw [herased]
      rfl) k rfl
    rw [report_slots]
    refine ⟨hempty.1, hholders, hempty.2, fun tag ht => ?_⟩
    exact hasReply_report _ ((hasReply_kept _).latch u .keyfault (hreply tag ht))
  case keyfault =>
    rw [latched_of_outside (report_outside _ _), latch_latched]
    rfl
  case latest =>
    have hlatest := report_latest (u.latch .keyfault) (.keyfault (.keySlot k) (s.slots[k]).holders)
    obtain ⟨_, ⟨_, htime, _⟩, _⟩ := latch_frame_outside u .keyfault
    obtain ⟨_, htime', _⟩ := hcontrol
    rw [htime, htime'] at hlatest
    exact hlatest

end Sys2Proof.Machine
